-- ==== Sys2Proof/Word.lean ====
section
/-! DEFINITION. The one word type of the wires: a byte of the weld line or of the service port. Quantities are whole
numbers in stated units (spec/00_scope.md, "Conventions"), so the rest of the model uses `Nat` and `Int`. -/
namespace Sys2Proof

/-- A byte as it goes over the weld line (R143) or the service port (R185). -/
abbrev Byte := BitVec 8

end Sys2Proof
end

