-- ==== Sys2Proof/Config.lean ====
section
/-! DEFINITION. What no rule fixes: the free values of the model. -/
namespace Sys2Proof

/-- The `n`th free byte. R27 and R172 leave the contents of a settings block after a failed erase or program unknown;
the model reads that many bytes from here. It has no body, so nothing can be proved of it (log 8). -/
opaque Config.freeByte : Nat → Byte

end Sys2Proof
end

