-- ==== Sys2Proof/Syntax.lean ====
section
/-! DEFINITION. The commands of the controller: one constructor of `Instr` per row of spec/opcode_table.json, with the
operands its rule speaks of. -/
namespace Sys2Proof

/-- The rail a head or a tensor works on (spec/00_scope.md, "side"). -/
inductive Side where
  | left | right
  deriving DecidableEq, Repr

/-- The seven process inputs of R1. -/
inductive Input where
  | current | voltage | position | force | clampPressure | railTemperature | gapGauge
  deriving DecidableEq, Repr

/-- One input as read at one sample: the raw figure, and whether the sensor-fail line is asserted (R1). -/
structure RawSample where
  value : Int
  fail  : Bool
  deriving DecidableEq, Repr

/-- The seven raw samples of one millisecond (R1). -/
structure Samples where
  current         : RawSample
  voltage         : RawSample
  position        : RawSample
  force           : RawSample
  clampPressure   : RawSample
  railTemperature : RawSample
  gapGauge        : RawSample
  deriving DecidableEq, Repr

/-- What may be taken at one sample: the platen stall of R11, the stroke limit of R93, the law of the phase (contact,
end of flashing, end of boost, end of the stroke), and the notices the MFE has raised: a freeze (R7), a clamp slip (R12)
and the SENSOR_RANGE of an input (R3). -/
inductive Finding where
  | stall | limit | phase | freeze | slip
  | range (input : Input)
  deriving DecidableEq, Repr

/-- The order in which the findings of one sample are taken when they fall together. R3, R66 and R93 say the one taken
first decides, and leave open which it is. The stall, the limit and the law of the phase are always taken; a notice that
the order does not name waits for its own command (log 9, log 33). -/
abbrev SampleOrder := List Finding

/-- The straps (R158) and the levels of the three wires as a supply reset finds them. -/
structure ResetWires where
  station   : BitVec 4
  side      : Side
  lineOk    : Bool
  headStop  : Bool
  lineReset : Bool
  deriving DecidableEq, Repr

/-- A write transfer on the service port (R185): every byte from the address byte to the stop condition, and how long
the clock was held low in it, in ms (R190). -/
structure WriteTransfer where
  bytes    : List Byte
  clockLow : Nat
  deriving DecidableEq, Repr

/-- A read transfer on the service port (R185): the address byte, how many bytes the terminal reads, and how long the
clock was held low, in ms (R190). -/
structure ReadTransfer where
  address  : Byte
  count    : Nat
  clockLow : Nat
  deriving DecidableEq, Repr

/-- The commands: the rows of spec/opcode_table.json in the table's order. A received frame is the bytes taken from the
line from the sync byte until the line goes idle (R144). -/
inductive Instr where
  | supplyReset (wires : ResetWires)
  | lineReset
  | lineResetRelease (station : BitVec 4) (side : Side)
  | lineOkRise
  | lineOkFall
  | offlineExit
  | headStop
  | headStopRelease
  | sample (raw : Samples) (order : SampleOrder)
  | sensorRange (input : Input)
  | freezeNotice
  | clampSlip
  | planningMeasurement
  | clampFail
  | contactEnd
  | openEnd
  | noContact
  | windowEnd
  | backoffLimit
  | tUcExpiry
  | upsetLimit
  | holdTick
  | holdTimerExpiry
  | tensorSlow
  | unclampSlow
  | tick10ms
  | announceFrame (bytes : List Byte)
  | claimFrame (bytes : List Byte)
  | yieldFrame (bytes : List Byte)
  | weldStart (bytes : List Byte)
  | weldStop (bytes : List Byte)
  | setClosureCall (bytes : List Byte)
  | letGoCall (bytes : List Byte)
  | unknownCallKind (bytes : List Byte)
  | answerFrame (bytes : List Byte)
  | haltFrame (bytes : List Byte)
  | clearFrame (bytes : List Byte)
  | duplicateStation (bytes : List Byte)
  | rowStale (station : BitVec 4)
  | rowEmpty (station : BitVec 4)
  | announceTimer
  | attemptStart (idleBits : Nat)
  | attemptWon
  | attemptLost
  | callDeadline (station : BitVec 4)
  | settleTimerExpiry
  | backoffTimerExpiry
  | shedTimerExpiry
  | powerDenied
  | tensorTimeout
  | tensorLost
  | commitEnd (ok : Bool)
  | eraseEnd (ok : Bool)
  | scheduleWriteEnd (ok : Bool)
  | captureWriteEnd (ok : Bool)
  | loadBankA (transfer : WriteTransfer)
  | loadBankB (transfer : WriteTransfer)
  | loadCapture (transfer : WriteTransfer)
  | beginStaging (transfer : WriteTransfer)
  | endStaging (transfer : WriteTransfer)
  | selectRecord (transfer : WriteTransfer)
  | readData (transfer : WriteTransfer)
  | readStatus (transfer : WriteTransfer)
  | readFaults (transfer : WriteTransfer)
  | clearFaults (transfer : WriteTransfer)
  | fetchDone
  | readTransfer (transfer : ReadTransfer)
  | clockLowTimeout
  | unknownCommandKind (transfer : WriteTransfer)
  deriving DecidableEq, Repr

end Sys2Proof
end

