-- ==== Sys2Proof/Machine/Codec.lean ====
section
/-! DEFINITION. Byte order, the two checks, and the frame layout of R144. -/
namespace Sys2Proof.Machine

/-- A multi-byte field, most significant byte first (R144, R24, R189). -/
def beNat (bs : List Byte) : Nat :=
  bs.foldl (fun n b => n * 256 + b.toNat) 0

/-- The low `n` bytes of `v`, most significant first (R144, R189). -/
def toBE : Nat → Nat → List Byte
  | 0, _ => []
  | n + 1, v => BitVec.ofNat 8 (v / 256 ^ n) :: toBE n v

/-- A signed field of `n` bytes, two's complement, most significant byte first (R189). -/
def toBESigned (n : Nat) (v : Int) : List Byte :=
  toBE n (v % (256 ^ n : Nat)).toNat

/-- `n` bytes of `bs` from offset `i`. -/
def bytesAt (bs : List Byte) (i n : Nat) : List Byte := (bs.drop i).take n

/-- The field of `n` bytes at offset `i`. -/
def fieldAt (bs : List Byte) (i n : Nat) : Nat := beNat (bytesAt bs i n)

/-- One bit of the CRC of R144: polynomial x^16 + x^12 + x^5 + 1, most significant bit first. -/
def crc16Bit (c : BitVec 16) : BitVec 16 :=
  if c.msb then (c <<< 1) ^^^ 0x1021#16 else c <<< 1

/-- One byte of the CRC of R144. -/
def crc16Byte (c : BitVec 16) (b : Byte) : BitVec 16 :=
  crc16Bit (crc16Bit (crc16Bit (crc16Bit (crc16Bit (crc16Bit (crc16Bit (crc16Bit
    (c ^^^ (b.setWidth 16 <<< 8)))))))))

/-- The 16-bit check of R144, also over the settings images (R26, R172): initial value all ones, no final inversion. -/
def crc16 (bs : List Byte) : BitVec 16 := bs.foldl crc16Byte 0xFFFF#16

/-- One bit of the CRC of R186: polynomial x^8 + x^2 + x + 1, most significant bit first. -/
def crc8Bit (c : BitVec 8) : BitVec 8 :=
  if c.msb then (c <<< 1) ^^^ 0x07#8 else c <<< 1

/-- One byte of the CRC of R186. -/
def crc8Byte (c : BitVec 8) (b : Byte) : BitVec 8 :=
  crc8Bit (crc8Bit (crc8Bit (crc8Bit (crc8Bit (crc8Bit (crc8Bit (crc8Bit (c ^^^ b))))))))

/-- The check byte of a service transfer (R186): initial value 0. -/
def crc8 (bs : List Byte) : BitVec 8 := bs.foldl crc8Byte 0#8

/-- A frame that survived R144: its header fields and payload. -/
structure RxFrame where
  source  : Nat
  dest    : Nat
  kind    : Nat
  payload : List Byte
  deriving DecidableEq, Repr

/-- The sync byte of every frame (R144). -/
def syncByte : Byte := 0x96#8

/-- The greatest payload length of a frame (R144). -/
def maxPayload : Nat := 24

/-- R144: a received frame is discarded on a wrong sync byte, a length above 24, too few bytes before the line goes
idle, or a check that does not match; bytes after the check are ignored. -/
def parseFrame : List Byte → Option RxFrame
  | sync :: head :: kind :: len :: rest =>
    if sync ≠ syncByte then none
    else if maxPayload < len.toNat then none
    else if rest.length < len.toNat + 2 then none
    else
      let payload := rest.take len.toNat
      if fieldAt rest len.toNat 2 = (crc16 (head :: kind :: len :: payload)).toNat then
        some { source := head.toNat / 16, dest := head.toNat % 16, kind := kind.toNat, payload := payload }
      else none
  | _ => none

/-- The bytes of a frame as R144 lays it out. -/
def encodeFrame (f : RxFrame) : List Byte :=
  let body := BitVec.ofNat 8 (f.source * 16 + f.dest) :: BitVec.ofNat 8 f.kind
    :: BitVec.ofNat 8 f.payload.length :: f.payload
  syncByte :: body ++ toBE 2 (crc16 body).toNat

/-- The payload lengths the layout of R144 gives for a CALL of each kind, the two common bytes included. -/
def callLength : Nat → Option Nat
  | 1 => some 12
  | 2 => some 2
  | 3 => some 10
  | 4 => some 6
  | _ => none

/-- The payload lengths the layout of R144 gives for an ANNOUNCE of each role. -/
def announceLength : Nat → Option Nat
  | 1 => some 9
  | 2 => some 7
  | 3 => some 5
  | 4 => some 3
  | _ => none

/-- R145, test 5: the kind is known and the length is the one the layout gives for it. -/
def lengthFits (f : RxFrame) : Bool :=
  let n := f.payload.length
  match f.kind with
  | 1 => match announceLength (fieldAt f.payload 0 1) with
    | some m => n == m
    | none => decide (3 ≤ n)
  | 2 => n == 6
  | 3 => n == 4
  | 4 => match callLength (fieldAt f.payload 1 1) with
    | some m => n == m
    | none => decide (2 ≤ n)
  | 5 => n == 6
  | 6 => n == 0
  | 7 => n == 0
  | _ => false

/-- The bytes after the address byte of a service write transfer (R185). -/
structure SvpCommand where
  beginBit : Bool
  endBit   : Bool
  checkBit : Bool
  kind     : Nat
  count    : Nat
  rest     : List Byte
  bytes    : List Byte
  deriving DecidableEq, Repr

/-- The port's fixed target address, 3A hex (R185). -/
def svpAddress : Nat := 0x3A

/-- R185: the first byte of a transfer is the address with a direction bit, 0 for write. -/
def writeAddressed (bs : List Byte) : Bool :=
  match bs with
  | a :: _ => a.toNat == svpAddress * 2
  | [] => false

/-- The command byte of a write transfer (R185), if it was sent. -/
def commandByte? : List Byte → Option Byte
  | _ :: c :: _ => some c
  | _ => none

/-- The kind field, bits 4 to 0, of a command byte (R185). -/
def commandKind (c : Byte) : Nat := c.toNat % 32

/-- The BEGIN bit, bit 7, of a command byte (R185). -/
def commandBegins (c : Byte) : Bool := c.getLsbD 7

/-- The END bit, bit 6, of a command byte (R185). -/
def commandEnds (c : Byte) : Bool := c.getLsbD 6

/-- The CHECK bit, bit 5, of a command byte (R185). -/
def commandChecked (c : Byte) : Bool := c.getLsbD 5

/-- A write transfer taken apart: command byte, byte count and what follows (R185). A transfer without a byte count
reads as none (log 15). -/
def parseCommand : List Byte → Option SvpCommand
  | _ :: c :: n :: rest =>
    some { beginBit := commandBegins c, endBit := commandEnds c, checkBit := commandChecked c, kind := commandKind c,
           count := n.toNat, rest := rest, bytes := c :: n :: rest }
  | _ => none

/-- Is `k` one of the three LOAD kinds of R185? -/
def isLoadKind (k : Nat) : Bool := k == 1 || k == 2 || k == 3

/-- Is `k` one of the eight kinds of R185? -/
def isKnownKind (k : Nat) : Bool := 1 ≤ k && k ≤ 8

end Sys2Proof.Machine
end

