-- ==== Sys2Proof/WellFormed.lean ====
section
/-! DEFINITION. Which commands are well formed: operands within the ranges their rules name, and bytes that are the kind
of frame or transfer their row says. -/
namespace Sys2Proof
open Machine

/-- A peer row belongs to a station number from 1 to 14 (R153). -/
def wfStation (station : BitVec 4) : Bool := 1 ≤ station.toNat && station.toNat ≤ 14

/-- The bytes are a frame that R144 and test 5 of R145 let through, of kind code `kind`. -/
def wfFrame (kind : Nat) (bytes : List Byte) : Bool :=
  match parseFrame bytes with
  | some f => f.kind == kind && lengthFits f
  | none => false

/-- As `wfFrame`, for a CALL whose call kind passes `p` (R152). -/
def wfCall (p : Nat → Bool) (bytes : List Byte) : Bool :=
  match parseFrame bytes with
  | some f => f.kind == 4 && lengthFits f && p (fieldAt f.payload 1 1)
  | none => false

/-- The bytes are a write transfer to the port's own address whose command byte passes `p` (R185). -/
def wfTransfer (p : Byte → Bool) (t : WriteTransfer) : Bool :=
  writeAddressed t.bytes && t.clockLow < 25 &&
    match commandByte? t.bytes with
    | some c => p c
    | none => false

/-- The well-formed commands. -/
def WellFormed : Instr → Bool
  | .supplyReset _ => true
  | .lineReset => true
  | .lineResetRelease _ _ => true
  | .lineOkRise => true
  | .lineOkFall => true
  | .offlineExit => true
  | .headStop => true
  | .headStopRelease => true
  | .sample _ _ => true
  | .sensorRange _ => true
  | .freezeNotice => true
  | .clampSlip => true
  | .planningMeasurement => true
  | .clampFail => true
  | .contactEnd => true
  | .openEnd => true
  | .noContact => true
  | .windowEnd => true
  | .backoffLimit => true
  | .tUcExpiry => true
  | .upsetLimit => true
  | .holdTick => true
  | .holdTimerExpiry => true
  | .tensorSlow => true
  | .unclampSlow => true
  | .tick10ms => true
  | .announceFrame bs => wfFrame 1 bs
  | .claimFrame bs => wfFrame 2 bs
  | .yieldFrame bs => wfFrame 3 bs
  | .weldStart bs => wfCall (· == 1) bs
  | .weldStop bs => wfCall (· == 2) bs
  | .setClosureCall bs => wfCall (· == 3) bs
  | .letGoCall bs => wfCall (· == 4) bs
  | .unknownCallKind bs => wfCall (fun k => (callLength k).isNone) bs
  | .answerFrame bs => wfFrame 5 bs
  | .haltFrame bs => wfFrame 6 bs
  | .clearFrame bs => wfFrame 7 bs
  | .duplicateStation bs => (parseFrame bs).isSome
  | .rowStale n => wfStation n
  | .rowEmpty n => wfStation n
  | .announceTimer => true
  | .attemptStart _ => true
  | .attemptWon => true
  | .attemptLost => true
  | .callDeadline n => wfStation n
  | .settleTimerExpiry => true
  | .backoffTimerExpiry => true
  | .shedTimerExpiry => true
  | .powerDenied => true
  | .tensorTimeout => true
  | .tensorLost => true
  | .commitEnd _ => true
  | .eraseEnd _ => true
  | .scheduleWriteEnd _ => true
  | .captureWriteEnd _ => true
  | .loadBankA t => wfTransfer (fun c => commandKind c == 1) t
  | .loadBankB t => wfTransfer (fun c => commandKind c == 2) t
  | .loadCapture t => wfTransfer (fun c => commandKind c == 3) t
  | .beginStaging t => wfTransfer (fun c => isLoadKind (commandKind c) && commandBegins c) t
  | .endStaging t => wfTransfer (fun c => isLoadKind (commandKind c) && commandEnds c) t
  | .selectRecord t => wfTransfer (fun c => commandKind c == 4) t
  | .readData t => wfTransfer (fun c => commandKind c == 5) t
  | .readStatus t => wfTransfer (fun c => commandKind c == 6) t
  | .readFaults t => wfTransfer (fun c => commandKind c == 7) t
  | .clearFaults t => wfTransfer (fun c => commandKind c == 8) t
  | .fetchDone => true
  | .readTransfer t => t.address.toNat == svpAddress * 2 + 1 && t.clockLow < 25
  | .clockLowTimeout => true
  | .unknownCommandKind t => wfTransfer (fun c => !isKnownKind (commandKind c)) t

end Sys2Proof
end

