-- ==== Sys2Proof/Machine/State.lean ====
section
/-! DEFINITION. The state of the controller, block by block, and the state right after reset. Plain data throughout.
Each structure's default values are its values after a supply reset of a module as delivered (log 6). -/
namespace Sys2Proof.Machine

/-- Why the machine stops. No rule of the spec leaves a command without an effect, so no meaning raises a fault: the
type is empty, and `exec` answering a fault is impossible. (The controller's own fault kinds are `FaultKind`: they are
part of its state.) Safe: nothing is cut short. -/
inductive Fault where
  deriving DecidableEq, Repr

/-- Why a command is turned away without a meaning. -/
inductive Refusal where
  /-- Raised by `exec` alone, for a row that has no meaning yet. Safe: the run stops there. -/
  | notModelled (mnemonic : String)
  deriving DecidableEq, Repr

/-- A running timer: how long it runs, in ms, and how many samples were counted since it started. A periodic timer
that is restarted late or early keeps its period, so the count may start below 0 (log 35). -/
structure Timer where
  length  : Nat
  elapsed : Int
  deriving DecidableEq, Repr

/-- The sequencer states of ch. 4. -/
inductive SeqState where
  | offline | ready | clamp | plan | close | power | preheat | flash | boost | upset | hold | letGo | unclamp
  | stopping | locked
  deriving DecidableEq, Repr

/-- The fault kinds of R173, in code order. -/
inductive FaultKind where
  | clampFail | tempRange | tempAboveNeutral | tensionRange | gapOutOfRange | tensorAbsent | tensorAmbiguous
  | tensorRefused | tensorTimeout | callCancelled | tensorLost | powerDenied | powerLost | noContact | flashUnstable
  | freeze | burnShort | platenStall | clampSlip | sensorRange | operatorStop | headStop | lineHalt | duplicateStation
  | upsetShort | powerDegraded | holdBroken | tensorSlow | neutralOff | energyRange | unclampSlow | stopInHold
  | lineFault | storeFault | settingsBad
  deriving DecidableEq, Repr

/-- The verdicts of R174. NONE is `none`. -/
inductive Verdict where
  | accept | review | reject | notWelded
  deriving DecidableEq, Repr

/-- TENSIONED or FREE (R59). -/
inductive Mode where
  | tensioned | free
  deriving DecidableEq, Repr

/-- The two banks (R17). -/
inductive BankName where
  | a | b
  deriving DecidableEq, Repr

/-! ### The weld schedule and the settings area -/

/-- A weld schedule: its 54 fields in index order (R18 to R22). -/
structure Schedule where
  fields : List Nat := List.replicate 54 0
  deriving DecidableEq, Repr

/-- A bank (R17). Whether it is bound is read from the weld context. -/
structure Bank where
  image      : Schedule := {}
  valid      : Bool := false
  installing : Bool := false
  deriving DecidableEq, Repr

/-- An image in the settings area with its 16-bit check (R30). -/
structure StoredImage where
  image : List Byte
  check : BitVec 16
  deriving DecidableEq, Repr

/-- The schedule block: one half for each bank (R30). -/
structure ScheduleBlock where
  a : StoredImage
  b : StoredImage
  deriving DecidableEq, Repr

/-- The settings write under way (R26, R172). -/
inductive SettingsWrite where
  | schedule (bank : BankName) (image : List Byte)
  | capture (image : List Byte)
  deriving DecidableEq, Repr

/-! ### Trace capture -/

/-- The channels of R163, in code order. -/
inductive Channel where
  | current | voltage | position | velocity | force | rate | corrK | claim | share | tensorForce | burn | energy
  deriving DecidableEq, Repr

/-- The activation sources of R159, in code order. -/
inductive Source where
  | tick10ms | windowEnd | phaseEntry | contactStart | contactEnd | freeze | claimChange | tensorReport | upsetPeak
  | fault | holdTick | weldEnd
  deriving DecidableEq, Repr

/-- A used descriptor (R161). -/
structure Descriptor where
  channels : List Channel
  ring     : Bool
  start    : Nat
  length   : Nat
  reload   : Nat
  chain    : Option Nat
  keep     : Bool
  deriving DecidableEq, Repr

/-- A capture program: 12 vector entries and 24 descriptors, each empty or used (R161). -/
structure Program where
  vectors     : List (Option Nat) := List.replicate 12 none
  descriptors : List (Option Descriptor) := List.replicate 24 none
  deriving DecidableEq, Repr

/-- The run state of a descriptor (R162). `last` holds the location of the last entry of each channel that has one. -/
structure RunState where
  pos       : Nat := 0
  remaining : Nat := 0
  spent     : Bool := false
  full      : Bool := false
  wrapped   : Bool := false
  last      : List (Channel × Nat) := []
  deriving DecidableEq, Repr

/-- A trace entry (ch. 10, section 10.3). -/
structure TraceEntry where
  desc    : Nat
  channel : Channel
  value   : Int
  run     : Nat
  deriving DecidableEq, Repr

/-- Trace memory: the locations that hold an entry, in rising order. A location that is not listed is empty, as
acceptance and a supply reset leave every location (R168, R169). -/
abbrev Memory := List (Nat × TraceEntry)

/-- The Capture Engine (ch. 10). -/
structure Cap where
  program : Program := {}
  runs    : List RunState := List.replicate 24 {}
  memory  : Memory := []
  tick    : Option Timer := none
  waiting : Option Program := none
  deriving DecidableEq, Repr

/-! ### The weld context -/

/-- One entry of the weld fault list (R71). -/
structure FaultEntry where
  kind  : FaultKind
  phase : SeqState
  count : Nat
  deriving DecidableEq, Repr

/-- The measured and plan fields of the weld context (R33). -/
structure Plan where
  tR    : Int := 0
  g0    : Int := 0
  p     : Nat := 0
  fReq  : Nat := 0
  cPlan : Nat := 0
  gT    : Int := 0
  e     : Int := 0
  bAdj  : Nat := 0
  tA    : Option Int := none
  deriving DecidableEq, Repr

/-- The progress fields of the weld context (R48). -/
structure Progress where
  contactsDone  : Nat := 0
  preheatBurn   : Nat := 0
  flashBurn     : Nat := 0
  flashTime     : Nat := 0
  freezeCount   : Nat := 0
  boostBurn     : Nat := 0
  upsetDistance : Nat := 0
  peakForce     : Nat := 0
  holdElapsed   : Nat := 0
  energy        : Nat := 0
  deriving DecidableEq, Repr

/-- The weld context (R48). The defaults are the values at acceptance. -/
structure WeldCtx where
  weldNumber   : Nat
  workRef      : BitVec 32
  bank         : BankName
  mode         : Mode
  pulled       : Nat
  tN           : Nat
  demand       : Nat
  dMin         : Nat
  plan         : Plan := {}
  pair         : Option Nat := none
  granted      : Nat := 0
  share        : Nat := 0
  phaseReached : SeqState := .clamp
  heatBegan    : Bool := false
  progress     : Progress := {}
  abortKind    : Option FaultKind := none
  faults       : List FaultEntry := []
  overflow     : Bool := false
  truncated    : Bool := false
  verdict      : Option Verdict := none
  deriving DecidableEq, Repr

/-- The weld record (R175). -/
structure WeldRecord where
  weldNumber    : Nat
  workRef       : BitVec 32
  bank          : BankName
  side          : Side
  mode          : Mode
  pair          : Option Nat
  pulled        : Nat
  tN            : Nat
  tR            : Int
  g0            : Int
  p             : Nat
  fReq          : Nat
  bAdj          : Nat
  preheatBurn   : Nat
  flashBurn     : Nat
  boostBurn     : Nat
  upsetDistance : Nat
  peakForce     : Nat
  contacts      : Nat
  freezes       : Nat
  flashTime     : Nat
  energy        : Nat
  share         : Nat
  tA            : Option Int
  phaseReached  : SeqState
  verdict       : Option Verdict
  abortKind     : Option FaultKind
  faults        : List FaultEntry
  overflow      : Bool
  truncated     : Bool
  trace         : List TraceEntry
  deriving DecidableEq, Repr

/-! ### The blocks -/

/-- An input's current value and held count (R1, R2). -/
structure InputState where
  value : Int := 0
  held  : Nat := 0
  deriving DecidableEq, Repr

/-- The seven inputs (R1). -/
structure Inputs where
  current         : InputState := {}
  voltage         : InputState := {}
  position        : InputState := {}
  force           : InputState := {}
  clampPressure   : InputState := {}
  railTemperature : InputState := {}
  gapGauge        : InputState := {}
  deriving DecidableEq, Repr

/-- A SENSOR_RANGE raised by R3 and not yet taken by the WSQ (log 33). -/
structure RangeNotice where
  input : Input
  value : Option Int
  deriving DecidableEq, Repr

/-- The planning measurement (R4): none in progress, samples taken and their sum, or the answer. -/
inductive Planning where
  | none
  | sampling (taken : Nat) (sum : Int)
  | answered (tR g0 : Int)
  deriving DecidableEq, Repr

/-- The clamp command (R13). -/
inductive ClampCmd where
  | close | opn | keep
  deriving DecidableEq, Repr

/-- The four process outputs (R13), with the values of R15. -/
structure Outputs where
  current  : Nat := 0
  velocity : Int := 0
  force    : Nat := 0
  clamp    : ClampCmd := .keep
  deriving DecidableEq, Repr

/-- The Measurement Front End (ch. 1). `set` is what the owners last set, `driven` what the connector shows (R13). -/
structure Mfe where
  inputs        : Inputs := {}
  rangeNotices  : List RangeNotice := []
  planning      : Planning := .none
  shorted       : Bool := false
  onsets        : Nat := 0
  shortDuration : Nat := 0
  freezeNotices : Nat := 0
  energy        : Nat := 0
  stall         : List (Int × Int) := []
  slip          : Nat := 0
  slipNotice    : Option Int := none
  set           : Outputs := {}
  driven        : Outputs := {}
  deriving DecidableEq, Repr

/-- The stroke step (ch. 6). -/
inductive Stroke where
  | none | stroke | ended
  deriving DecidableEq, Repr

/-- The Weld Sequencer's own state (ch. 4 and ch. 6). -/
structure Wsq where
  seq            : SeqState := .offline
  haltLatch      : Bool := false
  lock           : Bool := false
  silence        : Bool := false
  lastVerdict    : Option Verdict := none
  lastWeldNumber : Nat := 0
  clampTimer     : Option Timer := none
  stroke         : Stroke := .none
  upsetEntry     : Int := 0
  upsetTimer     : Option Timer := none
  tucExpired     : Bool := false
  holdTimer      : Option Timer := none
  holdTicks      : Nat := 0
  holdBroken     : Bool := false
  releaseWait    : Option Timer := none
  deriving DecidableEq, Repr

/-- The preheat step (ch. 5). -/
inductive PreheatStep where
  | none | approach | contact | opn | gateWait
  deriving DecidableEq, Repr

/-- A freeze backoff in progress (R92). -/
structure Backoff where
  start : Int
  timer : Timer
  deriving DecidableEq, Repr

/-- The Flash Regulator's own state (ch. 5). -/
structure Frg where
  step          : PreheatStep := .none
  k             : Nat := 0
  approachTimer : Option Timer := none
  contactTimer  : Option Timer := none
  openTimer     : Option Timer := none
  gateTimer     : Option Timer := none
  retreatOver   : Bool := false
  preheatEntry  : Int := 0
  openStart     : Int := 0
  flashEntry    : Int := 0
  boostEntry    : Int := 0
  windowTimer   : Option Timer := none
  rMin          : Nat := 0
  rMax          : Nat := 0
  corrK         : Int := 0
  unstable      : Nat := 0
  lastRate      : Nat := 0
  backoff       : Option Backoff := none
  deriving DecidableEq, Repr

/-- The claim step (ch. 7). -/
inductive ClaimStep where
  | idle | waiting | sending | settling | backoff | granted | shed
  deriving DecidableEq, Repr

/-- The Claim Unit's own state (ch. 7). -/
structure Clu where
  step         : ClaimStep := .idle
  ownClaim     : Nat := 0
  qInForce     : Nat := 0
  settleTimer  : Option Timer := none
  backoffTimer : Option Timer := none
  shedTimer    : Option Timer := none
  claimWait    : Option Timer := none
  room         : Int := 0
  serial       : Nat := 0
  deriving DecidableEq, Repr

/-- The two calls the controller makes (R132, R140). -/
inductive CallBody where
  | setClosure (tension travel weldNumber : Nat)
  | letGo (weldNumber : Nat)
  deriving DecidableEq, Repr

/-- The tensor call (R129). A held call has no number yet (R150). -/
structure TensorCall where
  closure    : Bool
  dest       : Nat
  weldNumber : Nat
  number     : Option Nat
  deriving DecidableEq, Repr

/-- A release owed (R141). -/
structure Owed where
  station    : Nat
  weldNumber : Nat
  deriving DecidableEq, Repr

/-- The gate watch (R136). -/
inductive Watch where
  | none | close | heatEntry | upset | hold
  deriving DecidableEq, Repr

/-- The Tensor Link's own state (R129). The paired station is `WeldCtx.pair`. -/
structure Tnl where
  call            : Option TensorCall := none
  closureAccepted : Bool := false
  owed            : Option Owed := none
  closureWaiting  : Bool := false
  watch           : Watch := .none
  gateMet         : Bool := false
  tensorWait      : Option Timer := none
  deriving DecidableEq, Repr

/-- The ANSWER outcome codes of R144, in code order. -/
inductive AnswerCode where
  | accepted | refused | busy | notReady | halted | locked | recordPending | range | role | stopping | idle | holding
  | unsupported
  deriving DecidableEq, Repr

/-- A frame in the outgoing queue (R148). A CLAIM carries the serial by which the CLU knows its newest (R117). -/
inductive OutFrame where
  | announce
  | claim (amount weldNumber serial : Nat)
  | yieldClaim (weldNumber : Nat)
  | call (dest number : Nat) (body : CallBody)
  | answer (dest number : Nat) (code : AnswerCode) (result : Nat)
  deriving DecidableEq, Repr

/-- An outstanding call (R150): QUEUED while it has no deadline, AWAITING with one. -/
structure CallRecord where
  dest     : Nat
  number   : Nat
  closure  : Bool
  deadline : Option Timer
  deriving DecidableEq, Repr

/-- The held call (R150). -/
structure CallRequest where
  dest : Nat
  body : CallBody
  deriving DecidableEq, Repr

/-- A tensor's state as R130 reads it. -/
inductive TensorState where
  | idle | closing | holding | releasing | fault
  deriving DecidableEq, Repr

/-- A power unit's state as R113 reads it. -/
inductive UnitState where
  | running | derated | stopped
  deriving DecidableEq, Repr

/-- The role of a heard station with the fields R153 keeps for it. -/
inductive RoleData where
  | head (state claim : Nat)
  | tensor (state : TensorState) (force : Nat)
  | power (state : UnitState) (offered : Nat)
  | console
  | other
  deriving DecidableEq, Repr

/-- One row of the peer view (R153): EMPTY, or LIVE (`live`) or STALE with side (`none` is NONE), age and role. -/
inductive PeerRow where
  | empty
  | heard (live : Bool) (side : Option Side) (age : Nat) (role : RoleData)
  deriving DecidableEq, Repr

/-- The Line Port (ch. 9). -/
structure Lnp where
  station       : Nat := 0
  side          : Side := .left
  queue         : List OutFrame := []
  attempt       : Option (List Byte) := none
  announceOwed  : Bool := false
  announceTimer : Option Timer := none
  attemptCount  : Nat := 0
  backoff       : Bool := false
  calls         : List CallRecord := []
  held          : Option CallRequest := none
  nextCall      : Nat := 0
  peers         : List PeerRow := List.replicate 14 .empty
  lineOkRisen   : Bool := false
  claimDropped  : Bool := false
  deriving DecidableEq, Repr

/-- A record block (R177). HELD holds a record, or contents to be erased before use. -/
inductive Block where
  | erased
  | held (record : Option WeldRecord)
  | bad
  deriving DecidableEq, Repr

/-- The pending slot when it is occupied (R178). -/
structure Slot where
  record      : WeldRecord
  programming : Bool
  deriving DecidableEq, Repr

/-- The first-fault record (R183). -/
structure FirstFault where
  kind       : FaultKind
  state      : SeqState
  weldNumber : Option Nat
  input      : Option Int
  deriving DecidableEq, Repr

/-- The device fault log (R183): the following counts stand in code order. -/
structure FaultLog where
  first  : Option FirstFault := none
  counts : List Nat := List.replicate 35 0
  deriving DecidableEq, Repr

/-- An image of zeros with a check that does not match it (R26): the check of 112 or 348 zero bytes is not 0 (log 7). -/
def blankImage (n : Nat) : StoredImage := { image := List.replicate n 0#8, check := 0#16 }

/-- The Record Store (ch. 2 and ch. 11). -/
structure Rst where
  bankA         : Bank := {}
  bankB         : Bank := {}
  scheduleBlock : ScheduleBlock := { a := blankImage 112, b := blankImage 112 }
  captureBlock  : StoredImage := blankImage 348
  write         : Option SettingsWrite := none
  blocks        : List Block := List.replicate 32 .erased
  writePos      : Nat := 0
  nextWeld      : Nat := 1
  slot          : Option Slot := none
  erase         : Option Nat := none
  log           : FaultLog := {}
  deriving DecidableEq, Repr

/-- The three LOAD kinds (R185). -/
inductive LoadKind where
  | bankA | bankB | capture
  deriving DecidableEq, Repr

/-- A staging in progress (R187). -/
structure Staging where
  kind   : LoadKind
  buffer : List Byte
  deriving DecidableEq, Repr

/-- What the port waits on (R187, R188). A fetch holds the copy taken when it began (R188). -/
inductive Busy where
  | none
  | install
  | fetch (block : Nat) (record : WeldRecord)
  deriving DecidableEq, Repr

/-- The read source (R185). -/
inductive ReadSource where
  | none | status | record | faults
  deriving DecidableEq, Repr

/-- The read buffer (R188). -/
inductive ReadBuffer where
  | empty
  | record (r : WeldRecord)
  | faults (log : FaultLog)
  deriving DecidableEq, Repr

/-- The status codes of R189, in code order. -/
inductive StatusCode where
  | ok | checkFailed | invalid | bankInUse | storeFault | overrun | abandoned | noRecord
  deriving DecidableEq, Repr

/-- How the port answered the last transfer on its wires (R185, R187; log 26). -/
inductive PortAnswer where
  | none
  | taken
  | commandRefused
  | addressRefused
  | returned (bytes : List Byte)
  deriving DecidableEq, Repr

/-- The Service Port (ch. 12). The read pointer goes to 0 when the source becomes none (log 56). -/
structure Svp where
  staging  : Option Staging := none
  busy     : Busy := .none
  source   : ReadSource := .none
  pointer  : Nat := 0
  buffer   : ReadBuffer := .empty
  selected : Option Nat := none
  status   : StatusCode := .ok
  field    : Nat := 0
  clockLow : Nat := 0
  answer   : PortAnswer := .none
  deriving DecidableEq, Repr

/-- The levels of the three wires. -/
structure Pins where
  lineOk    : Bool := false
  headStop  : Bool := false
  lineReset : Bool := false
  deriving DecidableEq, Repr

/-- The controller. -/
structure State where
  pins      : Pins := {}
  mfe       : Mfe := {}
  wsq       : Wsq := {}
  ctx       : Option WeldCtx := none
  frg       : Frg := {}
  clu       : Clu := {}
  tnl       : Tnl := {}
  lnp       : Lnp := {}
  cap       : Cap := {}
  rst       : Rst := {}
  svp       : Svp := {}
  freeCount : Nat := 0
  pending   : List Instr := []
  deriving DecidableEq, Repr

/-- The fault log as the settings check of R31 leaves it on a module that has never been given its settings: bank A
fills the first-fault record, bank B and the capture program are counted after it (note under R31; log 6). -/
def deliveredLog : FaultLog :=
  { first := some { kind := .settingsBad, state := .offline, weldNumber := none, input := some 1 }
    counts := List.replicate 34 0 ++ [2] }

/-- The machine right after reset: a supply reset of a module as delivered (R16, R31, R50, R97, R112, R128, R129, R158,
R169, R181, R191; log 5, log 6). -/
def State.reset : State := { rst := { log := deliveredLog } }

end Sys2Proof.Machine
end

