-- ==== Sys2Proof/Machine/Schedule.lean ====
section
/-! DEFINITION. The 54 schedule fields, their ranges and pairings, and the staged image (R18 to R24). -/
namespace Sys2Proof.Machine

/-- The field of index `i`, 1 to 54 (section 2.2). -/
def Schedule.get (s : Schedule) (i : Nat) : Nat := s.fields.getD (i - 1) 0

/-- Field 1: A, rail section area, in mm² (R18). -/
def Schedule.area (s : Schedule) : Nat := s.get 1

/-- Field 2: expansion coefficient, in 0.01 µm/(m·°C) (R18). -/
def Schedule.alpha (s : Schedule) : Nat := s.get 2

/-- Field 3: gap tolerance τ_g, in 0.01 mm (R18). -/
def Schedule.tauG (s : Schedule) : Nat := s.get 3

/-- Field 4: neutral tolerance τ_n, in 0.1 °C (R18). -/
def Schedule.tauN (s : Schedule) : Nat := s.get 4

/-- Field 5: tension limit F_lim, in kN (R18). -/
def Schedule.fLim (s : Schedule) : Nat := s.get 5

/-- Field 6: tension tolerance τ_f, in ‰ (R18). -/
def Schedule.tauF (s : Schedule) : Nat := s.get 6

/-- Field 7: working gap w, in 0.01 mm (R18). -/
def Schedule.workingGap (s : Schedule) : Nat := s.get 7

/-- Field 8: clamp_min, in bar (R18). -/
def Schedule.clampMin (s : Schedule) : Nat := s.get 8

/-- Field 9: open threshold, in bar (R18). -/
def Schedule.openThreshold (s : Schedule) : Nat := s.get 9

/-- Field 10: N_pre, in contacts (R19). -/
def Schedule.nPre (s : Schedule) : Nat := s.get 10

/-- Field 11: preheat pattern code (R19). -/
def Schedule.pattern (s : Schedule) : Nat := s.get 11

/-- Field 12: contact time t_c, in ms (R19). -/
def Schedule.tC (s : Schedule) : Nat := s.get 12

/-- Field 13: open time t_o, in ms (R19). -/
def Schedule.tO (s : Schedule) : Nat := s.get 13

/-- Field 14: contacts in a group G, in contacts (R19). -/
def Schedule.groupG (s : Schedule) : Nat := s.get 14

/-- Field 15: group rest t_r, in ms (R19). -/
def Schedule.tR (s : Schedule) : Nat := s.get 15

/-- Field 16: preheat demand I_pre, in ‰ (R19). -/
def Schedule.iPre (s : Schedule) : Nat := s.get 16

/-- Field 17: contact current I_contact, in 10 A (R19). -/
def Schedule.iContact (s : Schedule) : Nat := s.get 17

/-- Field 18: approach velocity V_app, in 0.01 mm/s (R19). -/
def Schedule.vApp (s : Schedule) : Nat := s.get 18

/-- Field 19: opening distance d_open, in 0.01 mm (R19). -/
def Schedule.dOpen (s : Schedule) : Nat := s.get 19

/-- Field 20: preheat allowance C_pre, in 0.01 mm (R19). -/
def Schedule.cPre (s : Schedule) : Nat := s.get 20

/-- Field 21: centre rate R_c, in shorts/s (R20). -/
def Schedule.rC (s : Schedule) : Nat := s.get 21

/-- Field 22: bandwidth code b (R20). -/
def Schedule.bandwidth (s : Schedule) : Nat := s.get 22

/-- Field 23: unstable limit U, in windows (R20). -/
def Schedule.unstableLimit (s : Schedule) : Nat := s.get 23

/-- Field 24: correction step S, in 0.01 mm/s (R20). -/
def Schedule.stepS (s : Schedule) : Nat := s.get 24

/-- Field 25: correction limit K_lim, in 0.01 mm/s (R20). -/
def Schedule.kLim (s : Schedule) : Nat := s.get 25

/-- Field 26: start velocity V_s, in 0.01 mm/s (R20). -/
def Schedule.vS (s : Schedule) : Nat := s.get 26

/-- Field 27: end velocity V_e, in 0.01 mm/s (R20). -/
def Schedule.vE (s : Schedule) : Nat := s.get 27

/-- Field 28: least burn-off B_min, in 0.01 mm (R20). -/
def Schedule.bMin (s : Schedule) : Nat := s.get 28

/-- Field 29: nominal burn-off B_f, in 0.01 mm (R20). -/
def Schedule.bF (s : Schedule) : Nat := s.get 29

/-- Field 30: greatest burn-off B_max, in 0.01 mm (R20). -/
def Schedule.bMax (s : Schedule) : Nat := s.get 30

/-- Field 31: flashing demand I_flash, in ‰ (R20). -/
def Schedule.iFlash (s : Schedule) : Nat := s.get 31

/-- Field 32: V_short, in 0.01 V (R20). -/
def Schedule.vShort (s : Schedule) : Nat := s.get 32

/-- Field 33: I_short, in 10 A (R20). -/
def Schedule.iShort (s : Schedule) : Nat := s.get 33

/-- Field 34: freeze duration t_fz, in ms (R20). -/
def Schedule.tFz (s : Schedule) : Nat := s.get 34

/-- Field 35: backoff distance d_b, in 0.01 mm (R20). -/
def Schedule.dB (s : Schedule) : Nat := s.get 35

/-- Field 36: freeze limit, in freezes (R20). -/
def Schedule.freezeLimit (s : Schedule) : Nat := s.get 36

/-- Field 37: stroke limit, in 0.01 mm (R20). -/
def Schedule.strokeLimit (s : Schedule) : Nat := s.get 37

/-- Field 38: boost distance d_boost, in 0.01 mm (R21). -/
def Schedule.dBoost (s : Schedule) : Nat := s.get 38

/-- Field 39: boost velocity V_boost, in 0.01 mm/s (R21). -/
def Schedule.vBoost (s : Schedule) : Nat := s.get 39

/-- Field 40: boost demand I_boost, in ‰ (R21). -/
def Schedule.iBoost (s : Schedule) : Nat := s.get 40

/-- Field 41: upset velocity V_up, in 0.01 mm/s (R21). -/
def Schedule.vUp (s : Schedule) : Nat := s.get 41

/-- Field 42: upset distance d_u, in 0.01 mm (R21). -/
def Schedule.dU (s : Schedule) : Nat := s.get 42

/-- Field 43: least upset distance d_u_min, in 0.01 mm (R21). -/
def Schedule.dUMin (s : Schedule) : Nat := s.get 43

/-- Field 44: stroke end force F_up_max, in kN (R21). -/
def Schedule.fUpMax (s : Schedule) : Nat := s.get 44

/-- Field 45: current-on time t_uc, in ms (R21). -/
def Schedule.tUc (s : Schedule) : Nat := s.get 45

/-- Field 46: upset demand I_upset, in ‰ (R21). -/
def Schedule.iUpset (s : Schedule) : Nat := s.get 46

/-- Field 47: hold force F_h, in kN (R21). -/
def Schedule.fH (s : Schedule) : Nat := s.get 47

/-- Field 48: hold time t_h, in s (R21). -/
def Schedule.tH (s : Schedule) : Nat := s.get 48

/-- Field 49: power demand D, in kVA (R22). -/
def Schedule.demand (s : Schedule) : Nat := s.get 49

/-- Field 50: least power D_min, in kVA (R22). -/
def Schedule.dMin (s : Schedule) : Nat := s.get 50

/-- Field 51: claim wait, in s (R22). -/
def Schedule.claimWait (s : Schedule) : Nat := s.get 51

/-- Field 52: tensor wait, in s (R22). -/
def Schedule.tensorWait (s : Schedule) : Nat := s.get 52

/-- Field 53: least energy E_min, in 0.1 kJ (R22). -/
def Schedule.eMin (s : Schedule) : Nat := s.get 53

/-- Field 54: greatest energy E_max, in 0.1 kJ (R22). -/
def Schedule.eMax (s : Schedule) : Nat := s.get 54

/-- The range of each field in index order (R18 to R22). An upper end that the table writes as another field is the
pairing of R23 alone; the greatest two-byte figure stands here. -/
def fieldRanges : List (Nat × Nat) :=
  [(5000, 9000), (1000, 1300), (10, 300), (5, 50), (200, 1500), (10, 200), (50, 500), (50, 350), (5, 50)]
  ++ [(0, 30), (0, 2), (100, 3000), (100, 5000), (2, 8), (100, 10000), (100, 1000), (10, 11999), (5, 300), (5, 200), (0, 1000)]
  ++ [(20, 250), (1, 6), (3, 20), (1, 20), (0, 100), (5, 300), (5, 300), (300, 2000), (300, 2000), (300, 2000), (100, 1000), (50, 300), (10, 11999), (10, 100), (5, 200), (0, 10), (1000, 15000)]
  ++ [(0, 500), (5, 300), (100, 1000), (1000, 5000), (200, 2000), (100, 65535), (100, 1500), (0, 2000), (0, 1000), (50, 1500), (10, 300)]
  ++ [(50, 1500), (25, 65535), (1, 60), (5, 120), (0, 999999), (0, 999999)]

/-- The pairing condition of R23 that belongs to field `i`, true where it has none. -/
def pairingHolds (s : Schedule) (i : Nat) : Bool :=
  match i with
  | 9 => s.openThreshold < s.clampMin
  | 29 => s.bMin ≤ s.bF
  | 30 => s.bF ≤ s.bMax
  | 43 => s.dUMin ≤ s.dU
  | 47 => s.fH ≤ s.fUpMax
  | 50 => s.dMin ≤ s.demand
  | 54 => s.eMin ≤ s.eMax
  | _ => true

/-- R23: a field is good when it lies inside its own range and its pairing condition holds. -/
def fieldGood (s : Schedule) (i : Nat) : Bool :=
  match fieldRanges.getD (i - 1) (0, 0) with
  | (lo, hi) => lo ≤ s.get i && s.get i ≤ hi && pairingHolds s i

/-- R25, step 3: the first bad field in index order from 1 to 54. -/
def firstBadField (s : Schedule) : Option Nat :=
  (List.range' 1 54).find? (fun i => !fieldGood s i)

/-- The length of a bank image (R24). -/
def bankImageLength : Nat := 112

/-- R24: the fields of a staged image; fields 1 to 52 take two bytes, fields 53 and 54 four. -/
def scheduleOfImage (image : List Byte) : Schedule :=
  { fields := (List.range 52).map (fun i => fieldAt image (2 * i) 2) ++ [fieldAt image 104 4, fieldAt image 108 4] }

/-- R24: the image of a schedule. -/
def imageOfSchedule (s : Schedule) : List Byte :=
  (List.range' 1 52).flatMap (fun i => toBE 2 (s.get i)) ++ toBE 4 (s.get 53) ++ toBE 4 (s.get 54)

/-- The stored check matches the image (R31). -/
def StoredImage.checks (m : StoredImage) : Bool := crc16 m.image == m.check

/-- An image with a fresh check (R26, R172). -/
def StoredImage.fresh (image : List Byte) : StoredImage := { image := image, check := crc16 image }

/-- R31: the bank a stored half gives at a supply reset. -/
def bankOfStored (m : StoredImage) : Bank :=
  if m.checks && (firstBadField (scheduleOfImage m.image)).isNone then
    { image := scheduleOfImage m.image, valid := true, installing := false }
  else {}

/-- R26: what is written in the half of the bank that is not being installed. -/
def storedOfBank (b : Bank) : StoredImage :=
  if b.valid then StoredImage.fresh (imageOfSchedule b.image) else blankImage bankImageLength

end Sys2Proof.Machine
end

