-- ==== Sys2Proof/Machine/Operands.lean ====
section
/-! DEFINITION. How the operands of the commands are read: the code tables, the bodies of received frames (R144, R145)
and the capture program image (R170, R171). -/
namespace Sys2Proof.Machine

/-- The head sequencer state codes of R144. -/
def SeqState.code : SeqState → Nat
  | .offline => 0
  | .ready => 1
  | .clamp => 2
  | .plan => 3
  | .close => 4
  | .power => 5
  | .preheat => 6
  | .flash => 7
  | .boost => 8
  | .upset => 9
  | .hold => 10
  | .letGo => 11
  | .unclamp => 12
  | .stopping => 13
  | .locked => 14

/-- The fault kind codes of R173. -/
def FaultKind.code : FaultKind → Nat
  | .clampFail => 1
  | .tempRange => 2
  | .tempAboveNeutral => 3
  | .tensionRange => 4
  | .gapOutOfRange => 5
  | .tensorAbsent => 6
  | .tensorAmbiguous => 7
  | .tensorRefused => 8
  | .tensorTimeout => 9
  | .callCancelled => 10
  | .tensorLost => 11
  | .powerDenied => 12
  | .powerLost => 13
  | .noContact => 14
  | .flashUnstable => 15
  | .freeze => 16
  | .burnShort => 17
  | .platenStall => 18
  | .clampSlip => 19
  | .sensorRange => 20
  | .operatorStop => 21
  | .headStop => 22
  | .lineHalt => 23
  | .duplicateStation => 24
  | .upsetShort => 25
  | .powerDegraded => 26
  | .holdBroken => 27
  | .tensorSlow => 28
  | .neutralOff => 29
  | .energyRange => 30
  | .unclampSlow => 31
  | .stopInHold => 32
  | .lineFault => 33
  | .storeFault => 34
  | .settingsBad => 35

/-- The channel codes of R163. -/
def Channel.code : Channel → Nat
  | .current => 1
  | .voltage => 2
  | .position => 3
  | .velocity => 4
  | .force => 5
  | .rate => 6
  | .corrK => 7
  | .claim => 8
  | .share => 9
  | .tensorForce => 10
  | .burn => 11
  | .energy => 12

/-- The activation source codes of R159. -/
def Source.code : Source → Nat
  | .tick10ms => 0
  | .windowEnd => 1
  | .phaseEntry => 2
  | .contactStart => 3
  | .contactEnd => 4
  | .freeze => 5
  | .claimChange => 6
  | .tensorReport => 7
  | .upsetPeak => 8
  | .fault => 9
  | .holdTick => 10
  | .weldEnd => 11

/-- The ANSWER outcome codes of R144. -/
def AnswerCode.code : AnswerCode → Nat
  | .accepted => 0
  | .refused => 1
  | .busy => 2
  | .notReady => 3
  | .halted => 4
  | .locked => 5
  | .recordPending => 6
  | .range => 7
  | .role => 8
  | .stopping => 9
  | .idle => 10
  | .holding => 11
  | .unsupported => 12

/-- The status codes of R189. -/
def StatusCode.code : StatusCode → Nat
  | .ok => 0
  | .checkFailed => 1
  | .invalid => 2
  | .bankInUse => 3
  | .storeFault => 4
  | .overrun => 5
  | .abandoned => 6
  | .noRecord => 7

/-- The codes of a last verdict; NONE is 0 (R144, R189). -/
def verdictCode : Option Verdict → Nat
  | none => 0
  | some .accept => 1
  | some .review => 2
  | some .reject => 3
  | some .notWelded => 4

/-- The side codes of R144 and R189. -/
def sideCode : Side → Nat
  | .left => 0
  | .right => 1

/-- The bank codes of R144 and R189. -/
def BankName.code : BankName → Nat
  | .a => 0
  | .b => 1

/-- The mode codes of R144 and R189. -/
def Mode.code : Mode → Nat
  | .tensioned => 0
  | .free => 1

/-- The side of an ANNOUNCE: NONE for a code other than 0 and 1 (R153). -/
def sideOfCode : Nat → Option Side
  | 0 => some .left
  | 1 => some .right
  | _ => none

/-- A tensor state code: any code outside 0 to 4 is read as FAULT (R130, R144). -/
def tensorStateOfCode : Nat → TensorState
  | 0 => .idle
  | 1 => .closing
  | 2 => .holding
  | 3 => .releasing
  | _ => .fault

/-- A power unit state code: any code outside 0 to 2 is read as STOPPED (R113, R144). -/
def unitStateOfCode : Nat → UnitState
  | 0 => .running
  | 1 => .derated
  | _ => .stopped

/-- The bank a WELD_START names (R144). -/
def bankOfCode : Nat → Option BankName
  | 0 => some .a
  | 1 => some .b
  | _ => none

/-- The mode a WELD_START names (R144). -/
def modeOfCode : Nat → Option Mode
  | 0 => some .tensioned
  | 1 => some .free
  | _ => none

/-- The arguments of a WELD_START as they stand in the frame (R144, section 4.3). -/
structure StartArgs where
  bank    : Nat
  mode    : Nat
  pulled  : Nat
  tN      : Nat
  workRef : BitVec 32
  deriving DecidableEq, Repr

/-- The body of a received frame, by kind (R144, R152). -/
inductive RxBody where
  | announce (side : Option Side) (role : RoleData)
  | claim (amount : Nat)
  | yieldClaim
  | weldStart (number : Nat) (args : StartArgs)
  | weldStop (number : Nat)
  | setClosure (number : Nat)
  | letGo (number : Nat)
  | unknownCall (number : Nat)
  | answer (number outcome result : Nat)
  | halt
  | clearAll
  deriving DecidableEq, Repr

/-- The role and the role's fields of an ANNOUNCE payload (R144, R153). A claim or an offer above its range is taken as
sent (log 54); a head's state code stands as sent, and a console's state byte is not read (log 60). -/
def roleOfPayload (p : List Byte) : RoleData :=
  match fieldAt p 0 1 with
  | 1 => .head (fieldAt p 2 1) (fieldAt p 3 2)
  | 2 => .tensor (tensorStateOfCode (fieldAt p 2 1)) (fieldAt p 3 2)
  | 3 => .power (unitStateOfCode (fieldAt p 2 1)) (fieldAt p 3 2)
  | 4 => .console
  | _ => .other

/-- The body of a CALL payload, by call kind (R144). -/
def callOfPayload (p : List Byte) : RxBody :=
  let number := fieldAt p 0 1
  match fieldAt p 1 1 with
  | 1 => .weldStart number
      { bank := fieldAt p 2 1, mode := fieldAt p 3 1, pulled := fieldAt p 4 2, tN := fieldAt p 6 2,
        workRef := BitVec.ofNat 32 (fieldAt p 8 4) }
  | 2 => .weldStop number
  | 3 => .setClosure number
  | 4 => .letGo number
  | _ => .unknownCall number

/-- The body of a frame that passes test 5 of R145; none where it does not. -/
def rxBody (f : RxFrame) : Option RxBody :=
  if lengthFits f then
    match f.kind with
    | 1 => some (.announce (sideOfCode (fieldAt f.payload 1 1)) (roleOfPayload f.payload))
    | 2 => some (.claim (fieldAt f.payload 0 2))
    | 3 => some .yieldClaim
    | 4 => some (callOfPayload f.payload)
    | 5 => some (.answer (fieldAt f.payload 0 1) (fieldAt f.payload 1 1) (fieldAt f.payload 2 4))
    | 6 => some .halt
    | 7 => some .clearAll
    | _ => none
  else none

/-- R145, test 4: a CALL or an ANSWER needs a destination of its own. -/
def RxBody.needsOwnDest : RxBody → Bool
  | .weldStart _ _ => true
  | .weldStop _ => true
  | .setClosure _ => true
  | .letGo _ => true
  | .unknownCall _ => true
  | .answer _ _ _ => true
  | _ => false

/-- The channel of a code (R163). -/
def channelOfCode : Nat → Option Channel
  | 1 => some .current
  | 2 => some .voltage
  | 3 => some .position
  | 4 => some .velocity
  | 5 => some .force
  | 6 => some .rate
  | 7 => some .corrK
  | 8 => some .claim
  | 9 => some .share
  | 10 => some .tensorForce
  | 11 => some .burn
  | 12 => some .energy
  | _ => none

/-! ### The capture program image (R170, R171) -/

/-- The length of a capture program image (R170). -/
def captureImageLength : Nat := 348

/-- The channel count byte of descriptor `d` (R170). -/
def descCount (image : List Byte) (d : Nat) : Nat := fieldAt image (12 + 14 * d) 1

/-- A descriptor index byte: 255 is none (R170). -/
def indexOfByte (v : Nat) : Option Nat := if v = 255 then none else some v

/-- Descriptor `d` of an image (R170); a channel count of 0 is an unused descriptor. An image that no install has checked
may hold codes that R171 refuses: log 50 says how they are read. -/
def descriptorOfImage (image : List Byte) (d : Nat) : Option Descriptor :=
  let at0 := 12 + 14 * d
  if descCount image d = 0 then none
  else some
    { channels := (List.range (descCount image d)).filterMap (fun i => channelOfCode (fieldAt image (at0 + 1 + i) 1))
      ring := fieldAt image (at0 + 5) 1 == 1
      start := fieldAt image (at0 + 6) 2
      length := fieldAt image (at0 + 8) 2
      reload := fieldAt image (at0 + 10) 2
      chain := indexOfByte (fieldAt image (at0 + 12) 1)
      keep := fieldAt image (at0 + 13) 1 == 1 }

/-- The program of an image (R170). -/
def programOfImage (image : List Byte) : Program :=
  { vectors := (List.range 12).map (fun i => indexOfByte (fieldAt image i 1))
    descriptors := (List.range 24).map (descriptorOfImage image) }

/-- An index byte names a used descriptor, or none (R171). -/
def indexGood (image : List Byte) (v : Nat) : Bool :=
  v == 255 || (v < 24 && descCount image v != 0)

/-- The channel list of descriptor `d` is good (R171). -/
def channelsGood (image : List Byte) (d : Nat) : Bool :=
  let n := descCount image d
  let codes := (List.range 4).map (fun i => fieldAt image (13 + 14 * d + i) 1)
  n == 0 || (n ≤ 4 && (codes.take n).all (fun c => 1 ≤ c && c ≤ 12) && decide (codes.take n).Nodup
    && (codes.drop n).all (· == 0))

/-- R171, step 3: is the field of number `n`, 1 to 180, good? -/
def captureFieldGood (image : List Byte) (n : Nat) : Bool :=
  if n ≤ 12 then indexGood image (fieldAt image (n - 1) 1)
  else
    let d := (n - 13) / 7
    let at0 := 12 + 14 * d
    let start := fieldAt image (at0 + 6) 2
    let length := fieldAt image (at0 + 8) 2
    let reload := fieldAt image (at0 + 10) 2
    match (n - 13) % 7 with
    | 0 => channelsGood image d
    | j =>
      descCount image d == 0 ||
        match j with
        | 1 => fieldAt image (at0 + 5) 1 ≤ 1
        | 2 => start ≤ 8191
        | 3 => 16 ≤ length && length ≤ 8192 && start + length ≤ 8192
        | 4 => 1 ≤ reload && reload ≤ 8192
        | 5 => indexGood image (fieldAt image (at0 + 12) 1)
        | _ => fieldAt image (at0 + 13) 1 ≤ 1

/-- R171, step 3: the first bad field in field-number order. -/
def firstBadCaptureField (image : List Byte) : Option Nat :=
  (List.range' 1 180).find? (fun n => !captureFieldGood image n)

/-- R31: the program a stored capture block gives at a supply reset; every vector empty if its check fails (log 25). -/
def programOfStored (m : StoredImage) : Program :=
  if m.checks then programOfImage m.image else {}

/-! ### Commands of the service port (R185 to R188) -/

/-- The LOAD kind of a command kind code (R185). -/
def loadKindOfCode : Nat → Option LoadKind
  | 1 => some .bankA
  | 2 => some .bankB
  | 3 => some .capture
  | _ => none

/-- R186, check 4: is the byte count one the kind takes? -/
def countFits (kind count : Nat) : Bool :=
  match kind with
  | 4 => count == 1
  | 5 => count == 2
  | 6 => count == 0
  | 7 => count == 0
  | 8 => count == 0
  | _ => true

/-- R186: do the four checks pass? They all set the same status, so one answer serves. -/
def commandPasses (c : SvpCommand) : Bool :=
  c.rest.length == c.count + (if c.checkBit then 1 else 0)
    && (!c.checkBit || crc8 (c.bytes.take (2 + c.count)) == c.rest.getD c.count 0#8)
    && isKnownKind c.kind && countFits c.kind c.count

/-- The data bytes of a command (R185). -/
def SvpCommand.data (c : SvpCommand) : List Byte := c.rest.take c.count

end Sys2Proof.Machine
end

