-- ==== Sys2Proof/Machine/Flags.lean ====
section
/-! DEFINITION. Every condition the rules read off the state: timers due, the short test, the demand gate, the banks,
the caller's role, the offered capacity, the tension gate, the release test and the verdict. -/
namespace Sys2Proof.Machine

/-! ### Timers -/

/-- A timer that starts now (R53 and the other starting rules). -/
def startTimer (ms : Nat) : Option Timer := some { length := ms, elapsed := 0 }

/-- One more sample of a running timer (R1; log 2). -/
def Timer.tick (t : Timer) : Timer := { t with elapsed := t.elapsed + 1 }

/-- A periodic timer that begins its next period (R87, R146, R159; log 35). -/
def Timer.again (t : Timer) : Timer := { t with elapsed := t.elapsed - t.length }

/-- A timer is due at the sample at which its time has passed, taken before or after that sample (spec/00_scope.md,
"Time"; log 2). -/
def Timer.due (t : Timer) : Bool := (t.length : Int) ≤ t.elapsed + 1

/-- A timer that runs and is due. -/
def timerDue (t : Option Timer) : Bool := t.any Timer.due

/-- A timer that runs and whose first `ms` have passed, for a timer that measures two times (R98). -/
def timerReached (t : Option Timer) (ms : Nat) : Bool := t.any (fun t => (ms : Int) ≤ t.elapsed + 1)

/-! ### The sequencer and the weld context -/

/-- The states that have a weld context (R47). -/
def SeqState.welding : SeqState → Bool
  | .offline => false
  | .ready => false
  | .locked => false
  | _ => true

/-- CLAMP to UPSET: the states in which an abort is taken (R66). -/
def SeqState.abortable : SeqState → Bool
  | .clamp => true
  | .plan => true
  | .close => true
  | .power => true
  | .preheat => true
  | .flash => true
  | .boost => true
  | .upset => true
  | _ => false

/-- PREHEAT, FLASH and BOOST: the states of the FRG (R10, R93). -/
def SeqState.regulated : SeqState → Bool
  | .preheat => true
  | .flash => true
  | .boost => true
  | _ => false

/-- PREHEAT to UPSET: the states of the clamp slip check (R12). -/
def SeqState.slipChecked : SeqState → Bool
  | .preheat => true
  | .flash => true
  | .boost => true
  | .upset => true
  | _ => false

/-- The place of a state in the forward sequence of R49; STOPPING and the states without a weld have none. -/
def SeqState.forward : SeqState → Bool
  | .offline => false
  | .ready => false
  | .locked => false
  | .stopping => false
  | _ => true

/-- A bank by name (R17). -/
def State.bank (s : State) : BankName → Bank
  | .a => s.rst.bankA
  | .b => s.rst.bankB

/-- A bank is ready when it is VALID and its install marker is clear (R17). -/
def Bank.ready (b : Bank) : Bool := b.valid && !b.installing

/-- The schedule of the bound bank, which every block reads (R32). -/
def State.sched (s : State) : Schedule :=
  match s.ctx with
  | some c => (s.bank c.bank).image
  | none => {}

/-- A bank is bound when the weld context names it (R17, R32). -/
def State.bound (s : State) (name : BankName) : Bool := s.ctx.any (fun c => c.bank == name)

/-- The mode of the weld is TENSIONED. -/
def State.tensioned (s : State) : Bool := s.ctx.any (fun c => c.mode == .tensioned)

/-- The weld number a fault hand-over carries: that of the context, if one exists (R72). -/
def State.weldNumber? (s : State) : Option Nat := s.ctx.map (·.weldNumber)

/-- The weld number that frames carry; 0 stands where there is no weld to name (log 38). -/
def State.weldNumber (s : State) : Nat := (s.weldNumber?).getD 0

/-- The weld number shown in an ANNOUNCE: the context's, or the last (R50). -/
def State.shownWeldNumber (s : State) : Nat := (s.weldNumber?).getD s.wsq.lastWeldNumber

/-- The fault-present flag (R183). -/
def State.faultPresent (s : State) : Bool := s.rst.log.first.isSome

/-! ### Measurement -/

/-- The valid range of each input (R1). -/
def inputRange : Input → Int × Int
  | .current => (0, 12000)
  | .voltage => (0, 2000)
  | .position => (0, 15000)
  | .force => (0, 1500)
  | .clampPressure => (0, 400)
  | .railTemperature => (-500, 800)
  | .gapGauge => (0, 8000)

/-- R1: a sample is valid inside its range with its sensor-fail line not asserted. -/
def sampleValid (i : Input) (r : RawSample) : Bool :=
  !r.fail && (inputRange i).1 ≤ r.value && r.value ≤ (inputRange i).2

/-- The state of one input. -/
def Inputs.get (x : Inputs) : Input → InputState
  | .current => x.current
  | .voltage => x.voltage
  | .position => x.position
  | .force => x.force
  | .clampPressure => x.clampPressure
  | .railTemperature => x.railTemperature
  | .gapGauge => x.gapGauge

/-- The raw sample of one input. -/
def Samples.get (x : Samples) : Input → RawSample
  | .current => x.current
  | .voltage => x.voltage
  | .position => x.position
  | .force => x.force
  | .clampPressure => x.clampPressure
  | .railTemperature => x.railTemperature
  | .gapGauge => x.gapGauge

/-- The inputs in the order of R1. -/
def allInputs : List Input :=
  [.current, .voltage, .position, .force, .clampPressure, .railTemperature, .gapGauge]

/-- An input's current value, which every block reads (R1). -/
def State.input (s : State) (i : Input) : Int := (s.mfe.inputs.get i).value

/-- The platen position's current value. -/
def State.position (s : State) : Int := s.input .position

/-- The clamp pressure's current value. -/
def State.pressure (s : State) : Int := s.input .clampPressure

/-- R5: the sample is shorted, tested only while a weld context exists. -/
def State.sampleShorted (s : State) : Bool :=
  s.ctx.isSome && s.input .voltage < s.sched.vShort && (s.sched.iShort : Int) < s.input .current

/-- R10: the sample is eligible for the stall check. -/
def State.stallEligible (s : State) : Bool :=
  10 ≤ s.mfe.driven.velocity && s.frg.backoff.isNone && s.wsq.seq.regulated

/-- R14: the conditions in which the MFE passes the current demand. -/
def State.gateOpen (s : State) : Bool :=
  match s.wsq.seq with
  | .preheat => s.frg.step == .contact
  | .flash => true
  | .boost => true
  | .upset => !s.wsq.tucExpired
  | _ => false

/-- R14: heat is on while the current demand driven is above zero. -/
def State.heatOn (s : State) : Bool := 0 < s.mfe.driven.current

/-- R9: the energy figure, in 0.1 kJ. -/
def Mfe.energyFigure (m : Mfe) : Nat := min (m.energy / 1000000) 999999

/-! ### The peer view -/

/-- The row of a station (R153): EMPTY for a number that has none. -/
def State.row (s : State) (station : Nat) : PeerRow :=
  if station = 0 then .empty else s.lnp.peers.getD (station - 1) .empty

/-- A row is LIVE. -/
def PeerRow.isLive : PeerRow → Bool
  | .heard live _ _ _ => live
  | .empty => false

/-- A row is LIVE or STALE. -/
def PeerRow.isHeard : PeerRow → Bool
  | .heard _ _ _ _ => true
  | .empty => false

/-- The role and fields of a heard row. -/
def PeerRow.role? : PeerRow → Option RoleData
  | .heard _ _ _ r => some r
  | .empty => none

/-- R58: a console is a row LIVE or STALE that shows role CONSOLE. -/
def State.isConsole (s : State) (station : Nat) : Bool := (s.row station).role? == some .console

/-- The claim field of a HEAD row that is LIVE or STALE; 0 for any other row (R114). -/
def PeerRow.claim : PeerRow → Nat
  | .heard _ _ _ (.head _ c) => c
  | _ => 0

/-- What a POWER row offers (R113). -/
def PeerRow.offer : PeerRow → Nat
  | .heard _ _ _ (.power .stopped _) => 0
  | .heard _ _ _ (.power _ q) => q
  | _ => 0

/-- A row of role POWER that is LIVE or STALE. -/
def PeerRow.isPower : PeerRow → Bool
  | .heard _ _ _ (.power _ _) => true
  | _ => false

/-- R114: the others' claims ΣO. -/
def State.othersClaims (s : State) : Nat := (s.lnp.peers.map PeerRow.claim).sum

/-- The sum of the contributions of the POWER rows (R113). -/
def State.offeredSum (s : State) : Nat := (s.lnp.peers.map PeerRow.offer).sum

/-- At least one POWER row is LIVE (R113, R116). -/
def State.anyPowerLive (s : State) : Bool := s.lnp.peers.any (fun r => r.isPower && r.isLive)

/-- At least one POWER row is LIVE or STALE (R113, R125). -/
def State.anyPowerHeard (s : State) : Bool := s.lnp.peers.any PeerRow.isPower

/-- R113: Q in force as the rows now give it. -/
def State.capacityNow (s : State) : Nat :=
  if s.anyPowerLive then s.offeredSum
  else if s.anyPowerHeard then s.clu.qInForce
  else 0

/-- R116, R119: the capacity the room is worked from. -/
def State.capacityForRoom (s : State) : Nat := if s.anyPowerLive then s.clu.qInForce else 0

/-- R116: the room; 0 when no POWER row is LIVE. -/
def State.room (s : State) : Int :=
  if s.anyPowerLive then (s.clu.qInForce : Int) - s.othersClaims else 0

/-- R122: the spare power. -/
def State.sparePower (s : State) : Int := (s.clu.qInForce : Int) - s.othersClaims

/-- R123: no head row that shows a claim above 0 has a higher number than the own station. -/
def State.highestClaimant (s : State) : Bool :=
  (List.range' 1 14).all (fun n => (s.row n).claim == 0 || n < s.lnp.station)

/-- R120, R122: the share of a granted amount; with D 0, which no installed bank has, it is 0 (log 24). -/
def shareOf (granted demand : Nat) : Nat := granted * 1000 / demand

/-- The current demand of a schedule figure under the share g of the context, truncated (R76, R100). -/
def State.scaled (s : State) (figure : Nat) : Nat := figure * (s.ctx.elim 0 (·.share)) / 1000

/-! ### The tensor -/

/-- The paired station (R129). -/
def State.pair (s : State) : Option Nat := s.ctx.bind (·.pair)

/-- The paired station's row; EMPTY when none is paired. -/
def State.pairedRow (s : State) : PeerRow := s.pair.elim .empty s.row

/-- The force field of a tensor row, absent on any other row (R130, R137; log 28). -/
def PeerRow.tensorForce : PeerRow → Option Nat
  | .heard _ _ _ (.tensor _ f) => some f
  | _ => none

/-- The input value that a gate failure carries: the paired row's force, or absent (R137 to R139). -/
def State.pairedForce (s : State) : Option Int := s.pairedRow.tensorForce.map Int.ofNat

/-- R135: F_lo, in kN. -/
def State.fLo (s : State) : Nat := (s.ctx.elim 0 (·.plan.fReq)) * (1000 - s.sched.tauF) / 1000

/-- R135: the tension gate on the paired row as it stands. -/
def State.gateHolds (s : State) : Bool :=
  match s.pairedRow with
  | .heard true _ _ (.tensor .holding f) => s.fLo ≤ f
  | _ => false

/-- R108: the release test on the paired row as it stands. -/
def State.releaseHolds (s : State) : Bool :=
  match s.pairedRow with
  | .heard _ _ _ (.tensor .idle f) => 20 * f < s.ctx.elim 0 (·.plan.fReq)
  | .heard _ _ _ (.tensor .releasing f) => 20 * f < s.ctx.elim 0 (·.plan.fReq)
  | _ => false

/-- R131: a row is a candidate for pairing when it is LIVE, a TENSOR and on the own side. -/
def pairCandidate (side : Side) : PeerRow → Bool
  | .heard true (some d) _ (.tensor _ _) => d == side
  | _ => false

/-- R131: the station numbers of the candidates. -/
def State.pairCandidates (s : State) : List Nat :=
  (List.range' 1 14).filter (fun n => pairCandidate s.lnp.side (s.row n))

/-! ### The line -/

/-- R145: frames are taken only with LINE_OK high, out of OFFLINE and with no reset held. -/
def State.takesFrames (s : State) : Bool :=
  s.pins.lineOk && s.wsq.seq != .offline && !s.pins.lineReset

/-- The greatest number of frames in the outgoing queue (R148). -/
def queueLimit : Nat := 8

/-- The head frame is the queued ANNOUNCE and it is in an attempt (R146). -/
def Lnp.announceInAttempt (l : Lnp) : Bool := l.attempt.isSome && l.queue.head? == some .announce

/-- R148: an ANNOUNCE that is queued and not in an attempt. -/
def Lnp.announceRemovable (l : Lnp) : Bool := l.queue.contains .announce && !l.announceInAttempt

/-- R148: a frame of another kind than ANNOUNCE finds room. -/
def Lnp.hasRoom (l : Lnp) : Bool := l.queue.length < queueLimit || l.announceRemovable

/-- The kind code of a queued frame (R144, R147). -/
def OutFrame.kindCode : OutFrame → Nat
  | .announce => 1
  | .claim _ _ _ => 2
  | .yieldClaim _ => 3
  | .call _ _ _ => 4
  | .answer _ _ _ _ => 5

/-- R147: the bit times of unbroken idle line that the next attempt needs. -/
def Lnp.idleNeeded (l : Lnp) : Nat := if l.backoff then 12 + l.station * 40 else 12

/-- R51: the station strap reads 1 to 14. -/
def Lnp.strapValid (l : Lnp) : Bool := 1 ≤ l.station && l.station ≤ 14

/-! ### Verdicts -/

/-- The kinds that R173 classes REVIEW whatever the weld. -/
def FaultKind.isReview : FaultKind → Bool
  | .powerDegraded => true
  | .holdBroken => true
  | .tensorSlow => true
  | .neutralOff => true
  | .energyRange => true
  | .unclampSlow => true
  | .stopInHold => true
  | _ => false

/-- R174: the verdict. A TENSOR_LOST that reaches the third test was entered at UPSET entry: the weld has no abort
kind. A weld aborted in its first approach has no heat-began mark, whatever R126 says of PREHEAT (log 52). -/
def verdictOf (c : WeldCtx) : Verdict :=
  if !c.heatBegan then .notWelded
  else if c.abortKind.isSome || c.faults.any (fun e => e.kind == .upsetShort) then .reject
  else if c.overflow || c.faults.any (fun e => e.kind.isReview || e.kind == .tensorLost) then .review
  else .accept

end Sys2Proof.Machine
end

