-- ==== Sys2Proof/Machine/Capture.lean ====
section
/-! DEFINITION. The Capture Engine: trace memory, descriptors, chains and activations (R159 to R168, R172). -/
namespace Sys2Proof.Machine

/-- Change the weld context, if there is one. -/
def State.mapCtx (f : WeldCtx → WeldCtx) (s : State) : State := { s with ctx := s.ctx.map f }

/-! ### Trace memory -/

/-- The number of locations of trace memory (ch. 10). -/
def memorySize : Nat := 8192

/-- The entry at a location; an unlisted location is empty (ch. 10). -/
def Memory.read (m : Memory) (loc : Nat) : Option TraceEntry :=
  match m with
  | [] => none
  | (a, e) :: rest => if a = loc then some e else Memory.read rest loc

/-- Put an entry into its place in the rising order. -/
def Memory.insert (m : Memory) (loc : Nat) (e : TraceEntry) : Memory :=
  match m with
  | [] => [(loc, e)]
  | (a, x) :: rest =>
    if loc < a then (loc, e) :: (a, x) :: rest
    else if loc = a then (loc, e) :: rest
    else (a, x) :: Memory.insert rest loc e

/-- Overwrite a location (R164). Locations past the last do not exist, and no checked program names one (R171; log 40). -/
def Memory.write (m : Memory) (loc : Nat) (e : TraceEntry) : Memory :=
  if loc < memorySize then Memory.insert m loc e else m

/-- The canonical form: locations strictly rising, all of them below 8192. -/
def Memory.wf (m : Memory) : Bool :=
  decide (m.Pairwise (fun x y => x.1 < y.1)) && m.all (fun x => decide (x.1 < memorySize))

/-! ### One descriptor -/

/-- R163: the quantity a channel names, as it stands. -/
def State.channelValue (s : State) : Channel → Int
  | .current => s.input .current
  | .voltage => s.input .voltage
  | .position => s.input .position
  | .velocity => s.mfe.driven.velocity
  | .force => s.input .force
  | .rate => s.frg.lastRate
  | .corrK => s.frg.corrK
  | .claim => s.clu.ownClaim
  | .share => (s.ctx.elim 0 (·.share) : Nat)
  | .tensorForce => s.pairedForce.getD 0
  | .burn => (s.ctx.elim 0 (·.progress.flashBurn) : Nat)
  | .energy => s.mfe.energyFigure

/-- What running a descriptor works on: its run state, trace memory and whether a value was lost (R165). -/
structure TraceWork where
  run    : RunState
  memory : Memory
  lost   : Bool
  deriving DecidableEq, Repr

/-- R164: the entry a value merges into, with its location, when the merge test passes. -/
def TraceWork.mergeTarget (w : TraceWork) (d : Nat) (c : Channel) (v : Int) : Option (Nat × TraceEntry) :=
  match w.run.last.lookup c with
  | none => none
  | some loc =>
    match w.memory.read loc with
    | none => none
    | some e => if e.desc = d ∧ e.channel = c ∧ e.value = v ∧ e.run < 128 then some (loc, e) else none

/-- R165: the step of the write position after a new entry. A segment of length 0, which R171 refuses at an install, is
full with its first entry (log 50). -/
def RunState.advance (desc : Descriptor) (r : RunState) : RunState :=
  if r.pos + 1 < desc.start + desc.length then { r with pos := r.pos + 1 }
  else if desc.ring then { r with pos := desc.start, full := true, wrapped := true }
  else { r with full := true }

/-- R164, R165: write one value of one channel. A ONCE segment that is full loses a value that does not merge. -/
def TraceWork.put (desc : Descriptor) (d : Nat) (w : TraceWork) (cv : Channel × Int) : TraceWork :=
  match w.mergeTarget d cv.1 cv.2 with
  | some (loc, e) => { w with memory := w.memory.write loc { e with run := e.run + 1 } }
  | none =>
    if !desc.ring && w.run.full then { w with lost := true }
    else
      { w with
        memory := w.memory.write w.run.pos { desc := d, channel := cv.1, value := cv.2, run := 1 }
        run := RunState.advance desc
          { w.run with last := (cv.1, w.run.pos) :: w.run.last.filter (fun x => x.1 != cv.1) } }

/-- R165: the remaining count after the activation, and what follows when it or the segment has run out. A reload count
of 0, which R171 refuses at an install, acts as one of 1 (log 50). -/
def TraceWork.finish (desc : Descriptor) (w : TraceWork) : TraceWork :=
  let n := w.run.remaining - 1
  if desc.ring then
    if n = 0 then { w with run := { w.run with remaining := desc.reload, last := [] } }
    else { w with run := { w.run with remaining := n } }
  else if n = 0 then { w with run := { w.run with remaining := 0, spent := true } }
  else if w.run.full then { w with run := { w.run with remaining := n, spent := true }, lost := true }
  else { w with run := { w.run with remaining := n } }

/-- R164, R165: run one descriptor on an activation. A spent one writes nothing (R166). -/
def runDescriptor (d : Nat) (desc : Descriptor) (s : State) : State :=
  let run := s.cap.runs.getD d {}
  if run.spent then s
  else
    let w := TraceWork.finish desc
      ((desc.channels.map (fun c => (c, s.channelValue c))).foldl (TraceWork.put desc d)
        { run := run, memory := s.cap.memory, lost := false })
    { s with
      cap := { s.cap with runs := s.cap.runs.set d w.run, memory := w.memory }
      ctx := s.ctx.map (fun c => { c with truncated := c.truncated || w.lost }) }

/-- R166: run a descriptor and its chain, stopping at a descriptor already run on this activation. The first argument
bounds the chain's length: there are 24 descriptors. -/
def runChain : Nat → Nat → List Nat → State → State
  | 0, _, _, s => s
  | n + 1, d, seen, s =>
    if seen.contains d then s
    else
      match s.cap.program.descriptors.getD d none with
      | none => s
      | some desc =>
        match desc.chain with
        | none => runDescriptor d desc s
        | some d' => runChain n d' (d :: seen) (runDescriptor d desc s)

/-- R159, R160: an activation, taken only while a weld context exists. -/
def activate (src : Source) (s : State) : State :=
  if s.ctx.isSome then
    match s.cap.program.vectors.getD src.code none with
    | none => s
    | some d => runChain 24 d [] s
  else s

/-! ### The program and the weld -/

/-- R162: the run state of each used descriptor after a reset of the run state. -/
def Program.freshRuns (p : Program) : List RunState :=
  p.descriptors.map (fun d => d.elim {} (fun d => { pos := d.start, remaining := d.reload }))

/-- R172: a new program takes effect. -/
def Cap.takeProgram (p : Program) (c : Cap) : Cap :=
  { c with program := p, runs := p.freshRuns, memory := [], waiting := none }

/-- R172: a waiting program takes effect when the context ends. -/
def Cap.takeWaiting (c : Cap) : Cap := c.waiting.elim c (fun p => c.takeProgram p)

/-- R168: acceptance empties trace memory, resets the run state and starts the TICK_10MS timer. -/
def Cap.accept (c : Cap) : Cap :=
  { c with runs := c.program.freshRuns, memory := [], tick := startTimer 10 }

/-- R168: the locations of a descriptor's segment that may hold its entries, oldest first. -/
def keptLocations (desc : Descriptor) (r : RunState) : List Nat :=
  if r.wrapped then
    List.range' r.pos (desc.start + desc.length - r.pos) ++ List.range' desc.start (r.pos - desc.start)
  else
    List.range' desc.start (r.pos - desc.start) ++ (if r.full then [r.pos] else [])

/-- R168: the entries one descriptor hands over. -/
def Cap.keptOf (c : Cap) (d : Nat) : List TraceEntry :=
  match c.program.descriptors.getD d none with
  | none => []
  | some desc =>
    if desc.keep then
      ((keptLocations desc (c.runs.getD d {})).filterMap c.memory.read).filter (fun e => e.desc == d)
    else []

/-- R168: the entries handed to the RST, in descriptor index order. -/
def Cap.kept (c : Cap) : List TraceEntry := (List.range 24).flatMap c.keptOf

end Sys2Proof.Machine
end

