-- ==== Sys2Proof/Machine/Line.lean ====
section
/-! DEFINITION. Sending on the weld line: the outgoing queue, the ANNOUNCE requests, the device fault log whose flag an
ANNOUNCE shows, and the bytes of each frame (R144, R146 to R149, R183). -/
namespace Sys2Proof.Machine

/-! ### Asking for an ANNOUNCE -/

/-- R146, R148: a request for an ANNOUNCE finds one in an attempt, one waiting, or none. A frame offered while the
silence flag is set is discarded, and an ANNOUNCE that finds the queue full is dropped. -/
def Lnp.wantAnnounce (silence : Bool) (l : Lnp) : Lnp :=
  if l.queue.contains .announce then
    if l.announceInAttempt then { l with announceOwed := true } else l
  else if silence then l
  else if l.queue.length < queueLimit then { l with queue := l.queue ++ [.announce] }
  else l

/-- R146: ask for an ANNOUNCE. -/
def requestAnnounce (s : State) : State := { s with lnp := s.lnp.wantAnnounce s.wsq.silence }

/-- R146: an announced field has changed; an ANNOUNCE is asked for while the announce timer runs. -/
def announceChange (s : State) : State :=
  if s.lnp.announceTimer.isSome then requestAnnounce s else s

/-! ### The device fault log -/

/-- R183: file one fault: the first becomes the first-fault record, any other raises the count of its kind. -/
def FaultLog.file (f : FirstFault) (log : FaultLog) : FaultLog :=
  match log.first with
  | none => { log with first := some f }
  | some _ =>
    let i := f.kind.code - 1
    { log with counts := log.counts.set i (min (log.counts.getD i 0 + 1) 255) }

/-- R72, R183: hand a fault to the device fault log with the sequencer state. The fault-present flag is an announced
field (R146). -/
def logFault (kind : FaultKind) (weldNumber : Option Nat) (input : Option Int) (s : State) : State :=
  let f : FirstFault := { kind := kind, state := s.wsq.seq, weldNumber := weldNumber, input := input }
  let s' : State := { s with rst := { s.rst with log := s.rst.log.file f } }
  if s.faultPresent then s' else announceChange s'

/-- R147, R148: LINE_FAULT with the kind code of the lost frame. -/
def lineFault (f : OutFrame) (s : State) : State :=
  logFault .lineFault s.weldNumber? (some f.kindCode) s

/-! ### The outgoing queue -/

/-- R148: a frame of another kind than ANNOUNCE joins a queue that has room, in place of the waiting ANNOUNCE when the
queue is full. The attempt count is that of the head frame, so it begins anew when the ANNOUNCE removed was the head
(log 18). -/
def Lnp.join (f : OutFrame) (l : Lnp) : Lnp :=
  if l.queue.length < queueLimit then { l with queue := l.queue ++ [f] }
  else
    { l with
      queue := l.queue.erase .announce ++ [f]
      attemptCount := if l.queue.head? == some .announce then 0 else l.attemptCount }

/-- R148: offer a frame of another kind than ANNOUNCE to the queue. While the silence flag is set it is discarded at
the offer with no fault. -/
def offer (f : OutFrame) (s : State) : State :=
  if s.wsq.silence then s
  else if s.lnp.hasRoom then { s with lnp := s.lnp.join f }
  else lineFault f s

/-- R148: an offered frame is queued, or is taken as sent because the head is silenced. -/
def offerTaken (s : State) : Bool := s.wsq.silence || s.lnp.hasRoom

/-! ### The bytes of a frame -/

/-- R146: the payload of an ANNOUNCE, every announced field as it stands. -/
def announcePayload (s : State) : List Byte :=
  toBE 1 1 ++ toBE 1 (sideCode s.lnp.side) ++ toBE 1 s.wsq.seq.code ++ toBE 2 s.clu.ownClaim
    ++ toBE 2 s.shownWeldNumber ++ toBE 1 (verdictCode s.wsq.lastVerdict)
    ++ toBE 1 ((if s.wsq.haltLatch then 1 else 0) + (if s.faultPresent then 2 else 0))

/-- The payload of a CALL after its number (R132, R140, R144). -/
def CallBody.payload : CallBody → List Byte
  | .setClosure tension travel weldNumber => toBE 1 3 ++ toBE 2 tension ++ toBE 2 travel ++ toBE 4 weldNumber
  | .letGo weldNumber => toBE 1 4 ++ toBE 4 weldNumber

/-- The destination and payload of a queued frame. A frame for every station has destination 0 (log 16). -/
def OutFrame.contents (s : State) : OutFrame → Nat × List Byte
  | .announce => (0, announcePayload s)
  | .claim amount weldNumber _ => (0, toBE 2 amount ++ toBE 4 weldNumber)
  | .yieldClaim weldNumber => (0, toBE 4 weldNumber)
  | .call dest number body => (dest, toBE 1 number ++ body.payload)
  | .answer dest number code result => (dest, toBE 1 number ++ toBE 1 code.code ++ toBE 4 result)

/-- The bytes the controller drives for a queued frame (R144). -/
def frameBytes (f : OutFrame) (s : State) : List Byte :=
  encodeFrame
    { source := s.lnp.station, dest := (f.contents s).1, kind := f.kindCode, payload := (f.contents s).2 }

end Sys2Proof.Machine
end

