-- ==== Sys2Proof/Machine/Ops.lean ====
section
/-! DEFINITION. The operations every family shares: entering faults, changing the sequencer state, claiming and giving
back, calling the tensor, and the abort path (R49, R50, R66 to R72, R115, R117, R127, R140, R141, R150). -/
namespace Sys2Proof.Machine

/-! ### Small changes of one block -/

/-- Change the outputs as their owner sets them (R13). -/
def State.mapSet (f : Outputs → Outputs) (s : State) : State := { s with mfe := { s.mfe with set := f s.mfe.set } }

/-- Change the progress fields of the weld context (R48). -/
def State.mapProgress (f : Progress → Progress) (s : State) : State :=
  s.mapCtx (fun c => { c with progress := f c.progress })

/-- R14: the gate drives the current demand as 0 whenever none of its conditions holds. Every meaning ends with it. -/
def gateCurrent (s : State) : State :=
  if s.gateOpen then s
  else { s with mfe := { s.mfe with driven := { s.mfe.driven with current := 0 } } }

/-! ### Entering faults -/

/-- R71: enter a kind in the weld fault list; the answer says whether an entry was added or a count rose. -/
def WeldCtx.addFault (kind : FaultKind) (phase : SeqState) (c : WeldCtx) : WeldCtx × Bool :=
  match c.faults.find? (fun e => e.kind == kind) with
  | some e =>
    if e.count < 255 then
      ({ c with faults := c.faults.map (fun e => if e.kind == kind then { e with count := e.count + 1 } else e) }, true)
    else (c, false)
  | none =>
    if c.faults.length < 8 then
      ({ c with faults := c.faults ++ [{ kind := kind, phase := phase, count := 1 }] }, true)
    else ({ c with overflow := true }, false)

/-- R71, R72: enter a kind with a given phase, raise FAULT, and hand it to the device fault log. Without a context there
is no list, and the log takes it with no weld number. -/
def enterFaultAs (phase : SeqState) (kind : FaultKind) (input : Option Int) (s : State) : State :=
  match s.ctx with
  | none => logFault kind none input s
  | some c =>
    let r := c.addFault kind phase
    let s' : State := { s with ctx := some r.1 }
    logFault kind (some c.weldNumber) input (if r.2 then activate .fault s' else s')

/-- R71: enter a kind with the sequencer state as its phase. -/
def enterFault (kind : FaultKind) (input : Option Int) (s : State) : State := enterFaultAs s.wsq.seq kind input s

/-! ### Changing the sequencer state -/

/-- R49, R50: enter a sequencer state. The slip count and the stall window follow R12 and R10; the change raises
PHASE_ENTRY and asks for an ANNOUNCE. -/
def enterState (st : SeqState) (s : State) : State :=
  announceChange (activate .phaseEntry
    { s with
      wsq := { s.wsq with seq := st }
      ctx := s.ctx.map (fun c => if st.forward then { c with phaseReached := st } else c)
      mfe := { s.mfe with
        slip := if st.slipChecked then s.mfe.slip else 0
        stall := if st.regulated then s.mfe.stall else [] } })

/-! ### The own claim -/

/-- R115: set the own claim; a change raises CLAIM_CHANGE and asks for an ANNOUNCE. -/
def setOwnClaim (v : Nat) (s : State) : State :=
  if s.clu.ownClaim = v then s
  else announceChange (activate .claimChange { s with clu := { s.clu with ownClaim := v } })

/-- R117: the newest CLAIM was sent in full. -/
def claimSent (serial : Nat) (s : State) : State :=
  if s.clu.step = .sending ∧ serial = s.clu.serial then
    { s with clu := { s.clu with step := .settling, settleTimer := startTimer 30 } }
  else s

/-- R117, R149: have the LNP queue a CLAIM with the own claim. One dropped from a full queue is followed up when the
queue has room; one offered by a silenced head is taken as sent (log 23). -/
def sendClaim (s : State) : State :=
  let n := s.clu.serial + 1
  let s' := offer (.claim s.clu.ownClaim s.weldNumber n)
    { s with clu := { s.clu with serial := n }, lnp := { s.lnp with claimDropped := !offerTaken s } }
  if s.wsq.silence then claimSent n s' else s'

/-- R127: give the claim back, on heat over or on entry to STOPPING. -/
def yieldOwnClaim (s : State) : State :=
  let stopped : State := { s with clu := { s.clu with
    settleTimer := none, backoffTimer := none, shedTimer := none, claimWait := none } }
  let idled (s : State) : State := { s with clu := { s.clu with step := .idle } }
  match s.clu.step with
  | .idle => s
  | .waiting => idled stopped
  | .backoff => idled stopped
  | _ => idled (offer (.yieldClaim s.weldNumber) (setOwnClaim 0 stopped))

/-! ### Calls to the tensor -/

/-- R150: the limits on call records allow a call to this destination. -/
def Lnp.callAllowed (dest : Nat) (l : Lnp) : Bool :=
  l.calls.length < 2 && !l.calls.any (fun r => r.dest == dest)

/-- Is this a SET_CLOSURE? -/
def CallBody.isClosure : CallBody → Bool
  | .setClosure _ _ _ => true
  | .letGo _ => false

/-- The weld number a call carries (R132, R140). -/
def CallBody.weldNumber : CallBody → Nat
  | .setClosure _ _ n => n
  | .letGo n => n

/-- R150: the TNL asks for a call. It takes the next number and is offered to the queue, or is held, or is refused;
the tensor call is none afterwards when it was dropped or refused. A silenced head takes it as sent (log 23). -/
def requestCall (dest : Nat) (body : CallBody) (s : State) : State :=
  let call (number : Option Nat) : TensorCall :=
    { closure := body.isClosure, dest := dest, weldNumber := body.weldNumber, number := number }
  if s.lnp.callAllowed dest then
    let n := s.lnp.nextCall
    let numbered : State := { s with lnp := { s.lnp with nextCall := (n + 1) % 256 } }
    if offerTaken s then
      let record : CallRecord :=
        { dest := dest, number := n, closure := body.isClosure,
          deadline := if s.wsq.silence then startTimer 250 else none }
      offer (.call dest n body)
        { numbered with
          lnp := { numbered.lnp with calls := s.lnp.calls ++ [record] }
          tnl := { s.tnl with call := some (call (some n)) } }
    else offer (.call dest n body) { numbered with tnl := { s.tnl with call := none } }
  else if s.lnp.held.isNone then
    { s with
      lnp := { s.lnp with held := some { dest := dest, body := body } }
      tnl := { s.tnl with call := some (call none) } }
  else { s with tnl := { s.tnl with call := none } }

/-- R140: the TNL calls the paired tensor with LET_GO. A silenced head queues none. -/
def sendLetGo (s : State) : State :=
  match s.pair with
  | none => s
  | some p => if s.wsq.silence then s else requestCall p (.letGo s.weldNumber) s

/-! ### The abort path -/

/-- R82, R96: the FRG's work for the weld ends; in PREHEAT the preheat burn is written, in
GATE_WAIT too (log 48). The step stands (log 30). -/
def stopRegulation (s : State) : State :=
  let burn := (s.position - s.frg.preheatEntry).toNat
  let s' := if s.wsq.seq = .preheat then s.mapProgress (fun p => { p with preheatBurn := burn }) else s
  { s' with frg := { s'.frg with
    approachTimer := none, contactTimer := none, openTimer := none, gateTimer := none, windowTimer := none
    backoff := none } }

/-- R141, R142: the TNL ends its watch and wait. A SET_CLOSURE of this weld still outstanding becomes the release owed. -/
def stopTensor (s : State) : State :=
  let owed := match s.tnl.owed, s.tnl.call with
    | none, some c =>
      if c.closure && !s.tnl.closureWaiting then some { station := c.dest, weldNumber := c.weldNumber } else none
    | o, _ => o
  { s with tnl := { s.tnl with watch := .none, tensorWait := none, closureWaiting := false, owed := owed } }

/-- R68: what STOPPING does on entry, after the state has changed: outputs safe, claim yielded, LET_GO where the tensor
has accepted, clamp timer started; the stroke ends where it stands (R105). -/
def makeSafe (s : State) : State :=
  let s1 := s.mapSet (fun _ => { current := 0, velocity := 0, force := 0, clamp := .opn })
  let s2 := stopTensor (yieldOwnClaim { s1 with wsq := { s1.wsq with stroke := .none, upsetTimer := none } })
  let s3 := if s2.tnl.closureAccepted then sendLetGo s2 else s2
  { s3 with wsq := { s3.wsq with clampTimer := startTimer 5000 } }

/-- R66: an abort, as one step. -/
def abortWeld (kind : FaultKind) (input : Option Int) (s : State) : State :=
  let s1 := (enterFault kind input s).mapCtx (fun c => { c with abortKind := some kind })
  makeSafe (enterState .stopping (stopRegulation s1))

/-- R66, R69: a fault that a block hands to the WSQ for the weld: it aborts in CLAMP to UPSET, and is only entered in
STOPPING. In HOLD and later no rule gives such a fault an effect (log 22). -/
def takeFault (kind : FaultKind) (input : Option Int) (s : State) : State :=
  if s.wsq.seq.abortable then abortWeld kind input s
  else if s.wsq.seq = .stopping then enterFault kind input s
  else s

/-- R69: a SENSOR_RANGE or DUPLICATE_STATION in HOLD, LET_GO or UNCLAMP is entered and becomes the abort kind if none is
present. -/
def enterLate (kind : FaultKind) (input : Option Int) (s : State) : State :=
  (enterFault kind input s).mapCtx (fun c => { c with abortKind := c.abortKind <|> some kind })

/-- R66, R67, R69: a stop (WELD_STOP, HEAD_STOP or HALT) acts on the weld in flight: an abort with its kind in CLAMP to
UPSET, STOP_IN_HOLD in HOLD, nothing elsewhere. -/
def stopWeld (kind : FaultKind) (s : State) : State :=
  if s.wsq.seq.abortable then abortWeld kind none s
  else if s.wsq.seq = .hold then enterFault .stopInHold none s
  else s

/-- R65, R69, R72: SENSOR_RANGE and DUPLICATE_STATION act by state; without a context they go to the log alone. -/
def takeStationFault (kind : FaultKind) (input : Option Int) (s : State) : State :=
  if s.wsq.seq.abortable then abortWeld kind input s
  else
    match s.wsq.seq with
    | .hold => enterLate kind input s
    | .letGo => enterLate kind input s
    | .unclamp => enterLate kind input s
    | _ => enterFault kind input s

end Sys2Proof.Machine
end

