-- ==== Sys2Proof/Machine/Closure.lean ====
section
/-! DEFINITION. The Closure Planner's arithmetic: the plan at PLAN (R36 to R43) and the achieved neutral temperature at
the outcome (R44 to R46). Every product is exact. -/
namespace Sys2Proof.Machine

/-- R37, R38: the temperature difference ΔT. -/
def deltaT (c : WeldCtx) (tR : Int) : Int := c.tN - tR

/-- R37, R38: the effective difference ΔT_eff, never negative. -/
def deltaTEff (c : WeldCtx) (tR : Int) : Nat :=
  match c.mode with
  | .tensioned => (deltaT c tR).toNat
  | .free => 0

/-- R39: the required stretch P, rounded half up. -/
def stretch (pulled alpha dT : Nat) : Nat := (pulled * alpha * dT + 5000) / 10000

/-- R40: the required tension F_req, rounded half up. -/
def tension (area alpha dT : Nat) : Nat := (210 * area * alpha * dT + 500000000) / 1000000000

/-- R41: the planned consumption C_plan. -/
def plannedConsumption (k : Schedule) : Nat := k.cPre + k.bF + k.dBoost + k.dU

/-- R42: `v` clamped to [lo, hi]. -/
def clampTo (lo hi v : Int) : Int := if v < lo then lo else if hi < v then hi else v

/-- R42, R43: the adjusted burn-off for a gap error, or none where the residual is above the gap tolerance. -/
def adjustedBurn (k : Schedule) (e : Int) : Option Nat :=
  if e.natAbs ≤ k.tauG then some k.bF
  else
    let raw : Int := k.bF - e
    let adj := clampTo k.bMin k.bMax raw
    if (raw - adj).natAbs ≤ k.tauG then some adj.toNat else none

/-- The CPL's answer: the plan fields as far as they were worked, and the refusal with its input value, if any (R34). -/
structure PlanResult where
  plan    : Plan
  refusal : Option (FaultKind × Int)
  deriving DecidableEq, Repr

/-- R34 to R43: the six planning stages in order; the first that refuses ends the work. -/
def workPlan (k : Schedule) (c : WeldCtx) (tR g0 : Int) : PlanResult :=
  let p0 : Plan := { c.plan with tR := tR, g0 := g0 }
  if tR < -400 ∨ 650 < tR then { plan := p0, refusal := some (.tempRange, tR) }
  else if c.mode = .tensioned ∧ deltaT c tR < -30 then { plan := p0, refusal := some (.tempAboveNeutral, deltaT c tR) }
  else
    let dT := deltaTEff c tR
    let f := tension k.area k.alpha dT
    let p1 : Plan := { p0 with p := stretch c.pulled k.alpha dT, fReq := f }
    if k.fLim < f then { plan := p1, refusal := some (.tensionRange, f) }
    else
      match c.mode with
      | .free => { plan := { p1 with cPlan := plannedConsumption k, gT := 0, e := 0, bAdj := k.bF }, refusal := none }
      | .tensioned =>
        let gT : Int := p1.p - plannedConsumption k
        let e := g0 - gT
        let p2 : Plan := { p1 with cPlan := plannedConsumption k, gT := gT, e := e }
        match adjustedBurn k e with
        | some adj => { plan := { p2 with bAdj := adj }, refusal := none }
        | none => { plan := p2, refusal := some (.gapOutOfRange, e) }

/-- R44: the actual consumption C_act. -/
def actualConsumption (p : Progress) : Nat := p.preheatBurn + p.flashBurn + p.boostBurn + p.upsetDistance

/-- R44, R45: the achieved neutral temperature of a TENSIONED weld in which heat began. `L × α` is never 0 in an
accepted weld (log 24). -/
def achievedNeutral (k : Schedule) (c : WeldCtx) : Option Int :=
  if c.mode = .tensioned ∧ c.heatBegan then
    let s := (c.plan.g0 + actualConsumption c.progress).toNat
    let d := c.pulled * k.alpha
    some (c.plan.tR + ((2 * (s * 10000) + d) / (2 * d) : Nat))
  else none

/-- R46: is the achieved neutral temperature further from its target than the neutral tolerance? -/
def neutralOff (k : Schedule) (c : WeldCtx) (tA : Int) : Bool := k.tauN < (tA - c.tN).natAbs

end Sys2Proof.Machine
end

