-- ==== Sys2Proof/Machine/Store.lean ====
section
/-! DEFINITION. The Record Store: the record ring, the pending slot, the settings writes and the supply-reset scan (R25 to
R31, R171, R172, R175 to R182). -/
namespace Sys2Proof.Machine

/-! ### The ring -/

/-- The number of record blocks (R177). -/
def ringSize : Nat := 32

/-- A block is not BAD. -/
def Block.usable : Block → Bool
  | .bad => false
  | _ => true

/-- A block is HELD. -/
def Block.isHeld : Block → Bool
  | .held _ => true
  | _ => false

/-- The record a HELD block holds, if it holds one (R177). -/
def Block.record? : Block → Option WeldRecord
  | .held r => r
  | _ => none

/-- A block by number; past the last there is none. -/
def Rst.block (r : Rst) (n : Nat) : Block := r.blocks.getD n .bad

/-- The block numbers in ring order from the write position (R177). -/
def Rst.ringOrder (r : Rst) : List Nat := (List.range ringSize).map (fun i => (r.writePos + i) % ringSize)

/-- R177: the target block, the first that is not BAD in ring order from the write position. -/
def Rst.targetBlock (r : Rst) : Option Nat := r.ringOrder.find? (fun n => (r.block n).usable)

/-- Change one block. -/
def Rst.setBlock (n : Nat) (b : Block) (r : Rst) : Rst := { r with blocks := r.blocks.set n b }

/-- R179: with no erase in progress and the target block HELD, its erase begins. Tested only where R179 says (log 20). -/
def Rst.testErase (r : Rst) : Rst :=
  match r.erase, r.targetBlock with
  | none, some t => if (r.block t).isHeld then { r with erase := some t } else r
  | _, _ => r

/-- R178: a record in WAITING goes to PROGRAMMING when the target block is ERASED. -/
def Rst.tryCommit (r : Rst) : Rst :=
  match r.slot, r.targetBlock with
  | some p, some t =>
    if !p.programming && r.block t == .erased then { r with slot := some { p with programming := true } } else r
  | _, _ => r

/-- R178: a composed record goes into the pending slot, and its commit begins at once when the target block is ERASED. -/
def Rst.place (w : WeldRecord) (r : Rst) : Rst := Rst.tryCommit { r with slot := some { record := w, programming := false } }

/-- R180: a block that failed is marked BAD, STORE_FAULT is logged, and the erase-ahead condition is tested. -/
def markBad (n : Nat) (s : State) : State :=
  let s1 : State := { s with rst := s.rst.setBlock n .bad }
  let s2 := logFault .storeFault s1.weldNumber? (some (100 + n : Nat)) s1
  { s2 with rst := s2.rst.testErase }

/-- R178, R180: the program of the record in the slot ends. -/
def endCommit (ok : Bool) (s : State) : State :=
  match s.rst.slot, s.rst.targetBlock with
  | some p, some t =>
    if !p.programming then s
    else if ok then
      let r := s.rst.setBlock t (.held (some p.record))
      { s with rst := Rst.testErase { r with writePos := (t + 1) % ringSize, slot := none } }
    else
      let s1 := markBad t { s with rst := { s.rst with slot := some { p with programming := false } } }
      { s1 with rst := s1.rst.tryCommit }
  | _, _ => s

/-- R179, R180: the erase in progress ends. A commit that waits begins into the erased block. -/
def endErase (ok : Bool) (s : State) : State :=
  match s.rst.erase with
  | none => s
  | some n =>
    let r : Rst := { s.rst with erase := none }
    if ok then { s with rst := ((r.setBlock n .erased).tryCommit).testErase }
    else
      let s1 := markBad n { s with rst := r }
      { s1 with rst := s1.rst.tryCommit }

/-! ### The record -/

/-- The greatest number of trace entries in a record (R176). -/
def keptLimit : Nat := 1900

/-- R175, R176: the record composed from the weld context, the own side and the kept trace. -/
def composeRecord (side : Side) (kept : List TraceEntry) (c : WeldCtx) : WeldRecord :=
  { weldNumber := c.weldNumber, workRef := c.workRef, bank := c.bank, side := side, mode := c.mode, pair := c.pair
    pulled := c.pulled, tN := c.tN
    tR := c.plan.tR, g0 := c.plan.g0, p := c.plan.p, fReq := c.plan.fReq, bAdj := c.plan.bAdj
    preheatBurn := c.progress.preheatBurn, flashBurn := c.progress.flashBurn, boostBurn := c.progress.boostBurn
    upsetDistance := c.progress.upsetDistance, peakForce := c.progress.peakForce
    contacts := c.progress.contactsDone, freezes := c.progress.freezeCount, flashTime := c.progress.flashTime
    energy := c.progress.energy, share := c.share, tA := c.plan.tA
    phaseReached := c.phaseReached, verdict := c.verdict, abortKind := c.abortKind
    faults := c.faults, overflow := c.overflow
    truncated := c.truncated || decide (keptLimit < kept.length)
    trace := kept.take keptLimit }

/-! ### The scan at a supply reset -/

/-- R181: a block as the scan classes it, given the block being erased and the block being programmed when the supply
was lost. -/
def scanBlock (erasing programming : Option Nat) (n : Nat) (b : Block) : Block :=
  match b with
  | .bad => .bad
  | b => if erasing = some n ∨ programming = some n then .held none else b

/-- The block being programmed (R178). -/
def Rst.programmingBlock (r : Rst) : Option Nat :=
  match r.slot with
  | some p => if p.programming then r.targetBlock else none
  | none => none

/-- R181: the blocks as the scan classes them. -/
def Rst.scannedBlocks (r : Rst) : List Block :=
  r.blocks.mapIdx (fun n b => scanBlock r.erase r.programmingBlock n b)

/-- The block holding the highest weld number, with that number (R181, R188). -/
def newestBlock (blocks : List Block) : Option (Nat × Nat) :=
  (blocks.mapIdx (fun n b => (n, b.record?.map (·.weldNumber)))).foldl
    (fun best x =>
      match x.2, best with
      | some w, some (_, v) => if v < w then some (x.1, w) else best
      | some w, none => some (x.1, w)
      | none, _ => best)
    none

/-- R181: the ring after a supply reset, before the erase-ahead condition is tested. -/
def Rst.scanned (r : Rst) : Rst :=
  let blocks := r.scannedBlocks
  let newest := newestBlock blocks
  { r with
    blocks := blocks
    nextWeld := newest.elim 1 (fun x => x.2 + 1)
    writePos := newest.elim 0 (fun x => (x.1 + 1) % ringSize)
    slot := none, erase := none }

/-- R182: a line reset empties the pending slot; the block of a program cut short stays HELD with no record. -/
def Rst.lineReset (r : Rst) : Rst :=
  match r.programmingBlock with
  | some t => { r.setBlock t (.held none) with slot := none }
  | none => { r with slot := none }

/-! ### The settings area -/

/-- Change a bank by name. -/
def Rst.mapBank (name : BankName) (f : Bank → Bank) (r : Rst) : Rst :=
  match name with
  | .a => { r with bankA := f r.bankA }
  | .b => { r with bankB := f r.bankB }

/-- The status of the port as the RST's outcome or a command sets it (R187, R189). -/
def setStatus (code : StatusCode) (field : Nat) (s : State) : State :=
  { s with svp := { s.svp with status := code, field := field } }

/-- The RST gives the outcome of an install: the status takes it and the port is no longer busy (R187). -/
def installOutcome (code : StatusCode) (field : Nat) (s : State) : State :=
  let s1 := setStatus code field s
  { s1 with svp := { s1.svp with busy := .none } }

/-- R26: the write of the schedule block begins: the marker is set, and the erase takes the old contents (log 7). -/
def beginScheduleWrite (name : BankName) (image : List Byte) (s : State) : State :=
  { s with
    rst := { s.rst.mapBank name (fun b => { b with installing := true }) with
      write := some (.schedule name image)
      scheduleBlock := { a := blankImage bankImageLength, b := blankImage bankImageLength } }
    svp := { s.svp with busy := .install } }

/-- R25: the checks of a staged bank image; one that passes is written. -/
def installBank (name : BankName) (image : List Byte) (s : State) : State :=
  if s.bound name then installOutcome .bankInUse 0 s
  else if image.length ≠ bankImageLength then installOutcome .invalid 0 s
  else
    match firstBadField (scheduleOfImage image) with
    | some i => installOutcome .invalid i s
    | none => beginScheduleWrite name image s

/-- R172: the write of the capture block begins (log 7). -/
def beginCaptureWrite (image : List Byte) (s : State) : State :=
  { s with
    rst := { s.rst with write := some (.capture image), captureBlock := blankImage captureImageLength }
    svp := { s.svp with busy := .install } }

/-- R171: the checks of a staged capture image; one that passes is written. -/
def installCapture (image : List Byte) (s : State) : State :=
  if s.ctx.isSome then installOutcome .bankInUse 0 s
  else if image.length ≠ captureImageLength then installOutcome .invalid 0 s
  else
    match firstBadCaptureField image with
    | some n => installOutcome .invalid n s
    | none => beginCaptureWrite image s

/-- The other bank. -/
def BankName.other : BankName → BankName
  | .a => .b
  | .b => .a

/-- R26: the contents the schedule block holds once an image is installed in a bank. -/
def scheduleContents (name : BankName) (image : List Byte) (s : State) : ScheduleBlock :=
  match name with
  | .a => { a := StoredImage.fresh image, b := storedOfBank (s.bank .b) }
  | .b => { a := storedOfBank (s.bank .a), b := StoredImage.fresh image }

/-- The free bytes from the `start`th on, `n` of them (log 8). -/
def freeBytes (start n : Nat) : List Byte := (List.range n).map (fun i => Config.freeByte (start + i))

/-- A stored image of `n` bytes of which nothing is known, its check included (R27; log 8). -/
def freeImage (start n : Nat) : StoredImage :=
  { image := freeBytes start n, check := BitVec.ofNat 16 (beNat (freeBytes (start + n) 2)) }

/-- R27, R172: a settings write has failed: STORE_FAULT with the area, and the status. -/
def failWrite (area : Nat) (s : State) : State :=
  installOutcome .storeFault 0 (logFault .storeFault s.weldNumber? (some area) s)

/-- R26, R27: the write of the schedule block ends. -/
def endScheduleWrite (ok : Bool) (s : State) : State :=
  match s.rst.write with
  | some (.schedule name image) =>
    if ok then
      let r := s.rst.mapBank name
        (fun _ => { image := scheduleOfImage image, valid := true, installing := false })
      installOutcome .ok 0
        { s with rst := { r with write := none, scheduleBlock := scheduleContents name image s } }
    else
      let n := bankImageLength + 2
      failWrite 1
        { s with
          freeCount := s.freeCount + 2 * n
          rst := { s.rst.mapBank name (fun b => { b with installing := false }) with
            write := none
            scheduleBlock := { a := freeImage s.freeCount bankImageLength
                               b := freeImage (s.freeCount + n) bankImageLength } } }
  | _ => s

/-- R172: a program that has been written takes effect, or waits while a weld context exists. -/
def programWritten (p : Program) (s : State) : State :=
  if s.ctx.isSome then { s with cap := { s.cap with waiting := some p } }
  else { s with cap := s.cap.takeProgram p }

/-- R172: the write of the capture block ends. -/
def endCaptureWrite (ok : Bool) (s : State) : State :=
  match s.rst.write with
  | some (.capture image) =>
    if ok then
      installOutcome .ok 0 (programWritten (programOfImage image)
        { s with rst := { s.rst with write := none, captureBlock := StoredImage.fresh image } })
    else
      failWrite 2
        { s with
          freeCount := s.freeCount + (captureImageLength + 2)
          rst := { s.rst with write := none, captureBlock := freeImage s.freeCount captureImageLength } }
  | _ => s

/-- R31: SETTINGS_BAD for one area, when its check failed. -/
def settingsBad (area : Nat) (bad : Bool) (s : State) : State :=
  if bad then logFault .settingsBad none (some area) s else s

/-- R31: the settings check of a supply reset: bank A, bank B, then the capture program. -/
def checkSettings (s : State) : State :=
  let a := bankOfStored s.rst.scheduleBlock.a
  let b := bankOfStored s.rst.scheduleBlock.b
  settingsBad 3 (!s.rst.captureBlock.checks)
    (settingsBad 2 (!b.valid)
      (settingsBad 1 (!a.valid)
        { s with
          rst := { s.rst with bankA := a, bankB := b }
          cap := s.cap.takeProgram (programOfStored s.rst.captureBlock) }))

end Sys2Proof.Machine
end

