-- ==== Sys2Proof/Machine/Outcome.lean ====
section
/-! DEFINITION. Building the outcome of a weld (R73). -/
namespace Sys2Proof.Machine

/-- R73, step 1: the energy figure, and ENERGY_RANGE when heat began and the figure lies outside the bank's limits (R9). -/
def settleEnergy (s : State) : State :=
  let s1 := s.mapProgress (fun p => { p with energy := s.mfe.energyFigure })
  match s1.ctx with
  | none => s1
  | some c =>
    if c.heatBegan && (c.progress.energy < s.sched.eMin || s.sched.eMax < c.progress.energy) then
      enterFaultAs c.phaseReached .energyRange none s1
    else s1

/-- R73, step 2: the achieved neutral temperature, absent where R44 gives none, and NEUTRAL_OFF (R44 to R46). -/
def settleNeutral (s : State) : State :=
  match s.ctx with
  | none => s
  | some c =>
    let worked := achievedNeutral s.sched c
    let s1 := s.mapCtx (fun c => { c with plan := { c.plan with tA := worked } })
    match worked with
    | none => s1
    | some tA => if neutralOff s.sched c tA then enterFaultAs c.phaseReached .neutralOff (some tA) s1 else s1

/-- R73, step 3: the verdict is set and WELD_END raised (R174). -/
def settleVerdict (s : State) : State :=
  activate .weldEnd (s.mapCtx (fun c => { c with verdict := some (verdictOf c) }))

/-- R73, step 4: the record is composed and placed in the pending slot (R175, R178). -/
def handRecord (s : State) : State :=
  match s.ctx with
  | none => s
  | some c => { s with rst := s.rst.place (composeRecord s.lnp.side s.cap.kept c) }

/-- What the MFE sets at the end of the weld context (R16). -/
def Mfe.endWeld (m : Mfe) : Mfe :=
  { m with
    planning := .none, shorted := false, onsets := 0, shortDuration := 0, freezeNotices := 0, stall := []
    slipNotice := none }

/-- What the FRG sets at the end of the weld context (R96). -/
def Frg.endWeld (f : Frg) : Frg :=
  { f with
    step := .none, approachTimer := none, contactTimer := none, openTimer := none, gateTimer := none
    windowTimer := none, backoff := none }

/-- R73, step 5: the last verdict and number, the end of the context, and what ends with it (R16, R96, R129, R159,
R172). The clamp timer stops (log 49). -/
def endContext (s : State) : State :=
  match s.ctx with
  | none => s
  | some c =>
    { s with
      ctx := none
      wsq := { s.wsq with lastVerdict := c.verdict, lastWeldNumber := c.weldNumber, clampTimer := none, stroke := .none }
      mfe := s.mfe.endWeld
      frg := s.frg.endWeld
      tnl := { s.tnl with watch := .none, tensorWait := none, closureWaiting := false }
      cap := { s.cap.takeWaiting with tick := none } }

/-- R73, step 6: where the sequencer goes from the outcome. -/
def State.restState (s : State) : SeqState :=
  if s.wsq.silence then .offline else if s.wsq.lock then .locked else .ready

/-- R73: the outcome of a weld, as one step. -/
def buildOutcome (s : State) : State :=
  let s1 := endContext (handRecord (settleVerdict (settleNeutral (settleEnergy s))))
  enterState s1.restState s1

end Sys2Proof.Machine
end

