-- ==== Sys2Proof/Machine/Claim.lean ====
section
/-! DEFINITION. The Claim Unit's decisions and its answers to changes of the peer view (R113 to R126). -/
namespace Sys2Proof.Machine

/-- R116, R117: claim an amount: the step becomes SENDING, the own claim is set and a CLAIM is queued. -/
def claimAmount (amount : Nat) (s : State) : State :=
  sendClaim (setOwnClaim amount { s with clu := { s.clu with step := .sending } })

/-- R116: the amount a room decides, if it gives D_min or more. -/
def decidedAmount (c : WeldCtx) (room : Int) : Option Nat :=
  if (c.demand : Int) ≤ room then some c.demand
  else if (c.dMin : Int) ≤ room then some room.toNat
  else none

/-- R116: work the room and decide. -/
def decideClaim (s : State) : State :=
  match s.ctx with
  | none => s
  | some c =>
    let s' : State := { s with clu := { s.clu with room := s.room } }
    match decidedAmount c s.room with
    | some amount => claimAmount amount s'
    | none => { s' with clu := { s'.clu with step := .waiting } }

/-- R119: capacity fell before the grant: decide again, and yield to WAITING where the new room gives too little. -/
def redecideClaim (s : State) : State :=
  match s.ctx with
  | none => s
  | some c =>
    let s' : State := { s with clu := { s.clu with room := s.room, settleTimer := none } }
    match decidedAmount c s.room with
    | some amount => claimAmount amount s'
    | none => offer (.yieldClaim s.weldNumber) (setOwnClaim 0 { s' with clu := { s'.clu with step := .waiting } })

/-- R118: yield to a lower-numbered head and back off. -/
def yieldToLower (s : State) : State :=
  offer (.yieldClaim s.weldNumber) (setOwnClaim 0
    { s with clu := { s.clu with
      settleTimer := none, step := .backoff, backoffTimer := startTimer (s.lnp.station * 20) } })

/-- R122: shrink the granted claim; POWER_DEGRADED is entered with the new amount. The share is worked before the claim
change is raised (log 10 for the order). -/
def shrinkClaim (amount : Nat) (s : State) : State :=
  let s1 := s.mapCtx (fun c => { c with granted := amount, share := shareOf amount c.demand })
  enterFault .powerDegraded (some amount) (sendClaim (setOwnClaim amount s1))

/-- R126: the kind of a shortfall or loss is POWER_DENIED while the sequencer is still in POWER, and POWER_LOST after. -/
def losePower (input : Option Int) (s : State) : State :=
  takeFault (if s.wsq.seq = .power then .powerDenied else .powerLost) input s

/-- The least power D_min of the weld context (R48). -/
def State.leastPower (s : State) : Nat := s.ctx.elim 0 (·.dMin)

/-- R123: the spare power is below D_min. -/
def shortfall (s : State) : State :=
  if s.highestClaimant then losePower (some s.sparePower) s
  else
    let s1 := if s.leastPower < s.clu.ownClaim then shrinkClaim s.leastPower s else s
    { s1 with clu := { s1.clu with step := .shed, shedTimer := startTimer 100 } }

/-- R122: compare the spare power with the own claim in GRANTED. -/
def checkSpare (s : State) : State :=
  if (s.clu.ownClaim : Int) ≤ s.sparePower then s
  else if (s.leastPower : Int) ≤ s.sparePower then shrinkClaim s.sparePower.toNat s
  else shortfall s

/-- R124: the shed wait ends with the claim unchanged. -/
def endShed (s : State) : State := { s with clu := { s.clu with step := .granted, shedTimer := none } }

/-- R124: compare the spare power with the own claim in SHED. The kind carries the spare power (log 53). -/
def checkShed (s : State) : State :=
  if (s.clu.ownClaim : Int) ≤ s.sparePower then endShed s
  else if s.highestClaimant then losePower (some s.sparePower) s
  else s

/-- R118, R119: a notice in SENDING or SETTLING: `rose` when the head row of station `n` shows a higher claim than
before, `fell` when the capacity fell. The conflict is tested first where one row brings both (log 43). -/
def settleNotice (n : Nat) (rose fell : Bool) (s : State) : State :=
  if rose && s.clu.qInForce < s.othersClaims + s.clu.ownClaim && n < s.lnp.station then yieldToLower s
  else if fell && s.capacityForRoom < s.clu.ownClaim + s.othersClaims then redecideClaim s
  else s

/-- R114: the CLU takes a notice of a change of the row of station `n`; `before` is the state before the row changed. -/
def cluNotice (before : State) (n : Nat) (s : State) : State :=
  let s1 : State :=
    if (before.row n).isPower || (s.row n).isPower then { s with clu := { s.clu with qInForce := s.capacityNow } } else s
  let sums := s1.clu.qInForce != before.clu.qInForce || s1.othersClaims != before.othersClaims
  let lost := before.anyPowerHeard && !s1.anyPowerHeard
  let rose := (before.row n).claim < (s1.row n).claim
  let fell := s1.clu.qInForce < before.clu.qInForce || (before.anyPowerLive && !s1.anyPowerLive)
  match s1.clu.step with
  | .idle => s1
  | .backoff => s1
  | .waiting => if sums || before.anyPowerLive != s1.anyPowerLive then decideClaim s1 else s1
  | .sending => settleNotice n rose fell s1
  | .settling => settleNotice n rose fell s1
  | .granted => if lost then losePower none s1 else if sums then checkSpare s1 else s1
  | .shed => if lost then losePower none s1 else if sums then checkShed s1 else s1

/-- R149: the queue holds fewer than 8 frames again after a CLAIM was dropped; in SENDING a fresh one is queued (R117). -/
def tellRoom (s : State) : State :=
  if s.lnp.claimDropped && s.lnp.queue.length < queueLimit then
    let s' : State := { s with lnp := { s.lnp with claimDropped := false } }
    if s.clu.step = .sending then sendClaim s' else s'
  else s

/-- R117, R149: a CLAIM was discarded after 16 attempts; in SENDING the newest is queued afresh at once. -/
def claimDiscarded (serial : Nat) (s : State) : State :=
  if s.clu.step = .sending ∧ serial = s.clu.serial then sendClaim s else s

/-- R117, R128, R156: the CLU is told of a CLEAR: in SENDING and SETTLING a fresh CLAIM is queued and the settle window
begins again. -/
def cluCleared (s : State) : State :=
  match s.clu.step with
  | .sending => sendClaim s
  | .settling => sendClaim { s with clu := { s.clu with step := .sending, settleTimer := none } }
  | _ => s

end Sys2Proof.Machine
end

