-- ==== Sys2Proof/Machine/Phases.lean ====
section
/-! DEFINITION. The phases of a weld: entering each sequencer state from CLAMP to UNCLAMP, the tension gate, the tensor's
answers, preheat's steps, flashing and the upset (R53 to R57, R77 to R111, R132 to R141). -/
namespace Sys2Proof.Machine

/-! ### Preheat (ch. 5) -/

/-- R77: an approach begins. -/
def beginApproach (s : State) : State :=
  let s1 := s.mapSet (fun o => { o with current := 0, velocity := s.sched.vApp })
  { s1 with frg := { s1.frg with
    k := s1.frg.k + 1, step := .approach, approachTimer := startTimer 2000, openTimer := none } }

/-- R77: entry to PREHEAT. -/
def enterPreheat (s : State) : State :=
  let s1 := enterState .preheat s
  beginApproach { s1 with frg := { s1.frg with preheatEntry := s1.position, k := 0 } }

/-- R79: the length of contact `k`, in ms; pattern 2 is FALLING. -/
def contactLength (k : Schedule) (n : Nat) : Nat :=
  if k.pattern = 2 then max (k.tC - (n - 1) * k.tC / k.nPre) 100 else k.tC

/-- R80: the length of the open after contact `n`; pattern 1 is GROUPED. -/
def openLength (k : Schedule) (n : Nat) : Nat :=
  if k.pattern = 1 ∧ n % k.groupG = 0 then k.tR else k.tO

/-- R78, R49: contact is detected; the heat-began mark is set at the first. -/
def beginContact (s : State) : State :=
  let s1 := s.mapSet (fun o => { o with current := s.scaled s.sched.iPre, velocity := 0 })
  activate .contactStart
    ({ s1 with frg := { s1.frg with
        step := .contact, approachTimer := none, contactTimer := startTimer (contactLength s.sched s.frg.k) } }.mapCtx
      (fun c => { c with heatBegan := true }))

/-- R78, R80: the contact timer expires; the open begins. The end of the retreat is tested from the next sample on
(log 51). -/
def endContact (s : State) : State :=
  let s1 := (s.mapSet (fun o => { o with current := 0, velocity := -300 })).mapProgress
    (fun p => { p with contactsDone := p.contactsDone + 1 })
  activate .contactEnd
    { s1 with frg := { s1.frg with
      step := .opn, contactTimer := none, openStart := s.position, retreatOver := false
      openTimer := startTimer (openLength s.sched s.frg.k) } }

/-- R80: the retreat of an open, at one sample. -/
def retreat (s : State) : State :=
  if s.frg.retreatOver then s
  else if s.position ≤ max (s.frg.openStart - s.sched.dOpen) 0 then
    let s1 := s.mapSet (fun o => { o with velocity := 0 })
    { s1 with frg := { s1.frg with retreatOver := true } }
  else s.mapSet (fun o => { o with velocity := -300 })

/-- R82: the preheat burn, written at the end of each open. -/
def writePreheatBurn (s : State) : State :=
  s.mapProgress (fun p => { p with preheatBurn := (s.position - s.frg.preheatEntry).toNat })

/-! ### Flashing and boost (ch. 5) -/

/-- R86: the lower bound of the rate window, rounded down. -/
def rateMin (k : Schedule) : Nat := k.rC * 8 / (8 + k.bandwidth)

/-- R86: the upper bound of the rate window, rounded up. -/
def rateMax (k : Schedule) : Nat := (k.rC * (8 + k.bandwidth) + 7) / 8

/-- `v` clamped to the velocity limits [5, 300] of the FRG (R88, R94). -/
def clampVelocity (v : Int) : Int := if v < 5 then 5 else if 300 < v then 300 else v

/-- R88, step 1: the programmed velocity; the division truncates toward zero. -/
def programmedVelocity (k : Schedule) (bAdj x : Nat) : Int :=
  k.vS + (((k.vE : Int) - k.vS) * (min x bAdj : Nat)).tdiv bAdj

/-- R88: the velocity law. -/
def flashVelocity (k : Schedule) (bAdj share x : Nat) (corrK : Int) : Int :=
  clampVelocity ((programmedVelocity k bAdj x * share).tdiv 1000 + corrK)

/-- R88: the velocity the law gives for the weld as it stands. -/
def State.lawVelocity (s : State) : Int :=
  match s.ctx with
  | none => 0
  | some c => flashVelocity s.sched c.plan.bAdj c.share c.progress.flashBurn s.frg.corrK

/-- R85, R6, R49: entry to FLASH. -/
def enterFlash (s : State) : State :=
  let s1 := enterState .flash s
  let s2 := { s1 with
      mfe := { s1.mfe with onsets := 0 }
      frg := { s1.frg with
        gateTimer := none, flashEntry := s1.position, corrK := 0, unstable := 0, rMin := rateMin s1.sched
        rMax := rateMax s1.sched, windowTimer := startTimer 100 } }.mapCtx
    (fun c => { c with
      heatBegan := c.heatBegan || s1.sched.nPre == 0
      progress := { c.progress with flashBurn := 0, flashTime := 0 } })
  s2.mapSet (fun o => { o with current := s2.scaled s2.sched.iFlash, velocity := s2.lawVelocity })

/-- R94: entry to BOOST; the window in progress is not evaluated (R87). Its outputs are set from the next sample on
(log 37). -/
def enterBoost (s : State) : State :=
  let s1 := enterState .boost s
  { s1 with frg := { s1.frg with windowTimer := none, boostEntry := s1.position } }.mapProgress
    (fun p => { p with boostBurn := 0 })

/-- R92: one sample of a backoff. -/
def backoffSample (b : Backoff) (s : State) : State :=
  let s1 := s.mapSet (fun o => { o with velocity := -300 })
  if s.position ≤ max (b.start - s.sched.dB) 0 then { s1 with frg := { s1.frg with backoff := none } } else s1

/-! ### The tension gate (ch. 8) -/

/-- R136: a request sets the gate watch and evaluates the gate at once. -/
def requestGate (w : Watch) (s : State) : State :=
  { s with tnl := { s.tnl with watch := w, gateMet := s.gateHolds } }

/-- The gate watch ends (R136). -/
def endWatch (s : State) : State := { s with tnl := { s.tnl with watch := .none } }

/-- R107, R139: HOLD_BROKEN is entered once in a hold. -/
def holdBroken (s : State) : State :=
  if s.wsq.holdBroken then s
  else
    let s1 := enterFault .holdBroken s.pairedForce s
    { s1 with wsq := { s1.wsq with holdBroken := true } }

/-- R83, R84: the FRG asks for the gate; FLASH is entered on the gate met, and a wait is started otherwise. -/
def requestHeatGate (s : State) : State :=
  let s1 := requestGate .heatEntry s
  if s1.tnl.gateMet then enterFlash (endWatch s1)
  else { s1 with frg := { s1.frg with gateTimer := startTimer (s1.sched.tensorWait * 1000) } }

/-! ### POWER (ch. 7) -/

/-- R116: entry to POWER. -/
def enterPower (s : State) : State :=
  let s1 := enterState .power s
  decideClaim { s1 with clu := { s1.clu with claimWait := startTimer (s1.sched.claimWait * 1000) } }

/-- R55, R84: the claim is granted and the sequencer leaves POWER, or stays for the gate. -/
def leavePower (s : State) : State :=
  if 1 ≤ s.sched.nPre then enterPreheat s
  else if s.tensioned then requestHeatGate s
  else enterFlash s

/-- R120: the settle timer expires and the claim is granted. -/
def grantClaim (s : State) : State :=
  let own := s.clu.ownClaim
  let s1 := s.mapCtx (fun c => { c with granted := own, share := shareOf own c.demand })
  let s2 : State := { s1 with clu := { s1.clu with step := .granted, settleTimer := none, claimWait := none } }
  let s3 := if own < s.ctx.elim 0 (·.demand) then enterFault .powerDegraded (some own) s2 else s2
  leavePower s3

/-! ### CLOSE (ch. 8) -/

/-- R132: the travel of a SET_CLOSURE. -/
def State.closureTravel (s : State) : Nat := (s.ctx.elim 0 (·.plan.g0) - s.sched.workingGap).toNat

/-- R132, R134: the TNL calls the paired tensor with SET_CLOSURE; a call dropped at once aborts with TENSOR_TIMEOUT. -/
def sendClosure (s : State) : State :=
  match s.pair with
  | none => s
  | some p =>
    let s1 := requestCall p (.setClosure (s.ctx.elim 0 (·.plan.fReq)) s.closureTravel s.weldNumber)
      { s with tnl := { s.tnl with closureWaiting := false } }
    if s1.tnl.call.isNone then takeFault .tensorTimeout none s1 else s1

/-- R132, R141: entry to CLOSE; the SET_CLOSURE waits while a tensor call of an earlier weld is held. -/
def enterClose (s : State) : State :=
  let s1 := enterState .close s
  if s1.tnl.call.isNone then sendClosure s1
  else { s1 with tnl := { s1.tnl with closureWaiting := true } }

/-- How a call was freed (R151). -/
inductive CallResult where
  | answered (outcome result : Nat)
  | timeout
  | discarded
  | cancelled
  deriving DecidableEq, Repr

/-- R133, R137: the tensor has accepted the closure. -/
def closureTaken (s : State) : State :=
  let s1 := requestGate .close { s with tnl := { s.tnl with closureAccepted := true } }
  if s1.tnl.gateMet then enterPower (endWatch s1)
  else { s1 with tnl := { s1.tnl with tensorWait := startTimer (s1.sched.tensorWait * 1000) } }

/-- R133, R134: the SET_CLOSURE of the weld in CLOSE was freed. -/
def closureFreed (r : CallResult) (s : State) : State :=
  match r with
  | .answered 0 _ => closureTaken s
  | .answered _ v => takeFault .tensorRefused (some v) s
  | .timeout => takeFault .tensorTimeout none s
  | .discarded => takeFault .tensorTimeout none s
  | .cancelled => takeFault .callCancelled none s

/-- R141: the SET_CLOSURE held as a release owed was freed; only ACCEPTED is followed by a LET_GO. -/
def owedFreed (o : Owed) (r : CallResult) (s : State) : State :=
  let s1 : State := { s with tnl := { s.tnl with owed := none } }
  match r with
  | .answered 0 _ => requestCall o.station (.letGo o.weldNumber) s1
  | _ => s1

/-- R140, R141: the TNL acts on a freed call; then a waiting SET_CLOSURE goes out if the tensor call is none. -/
def tensorFreed (c : TensorCall) (r : CallResult) (s : State) : State :=
  let s1 :=
    if c.closure then
      match s.tnl.owed with
      | some o => owedFreed o r s
      | none => if s.wsq.seq = .close then closureFreed r s else s
    else s
  if s1.tnl.closureWaiting && s1.tnl.call.isNone && s1.wsq.seq == .close then sendClosure s1 else s1

/-- R151: the record of a call to `dest` is gone; a held call that now fits is queued at once (R150). -/
def dropRecord (dest : Nat) (s : State) : State :=
  let s1 : State := { s with lnp := { s.lnp with calls := s.lnp.calls.filter (fun r => r.dest != dest) } }
  match s1.lnp.held with
  | none => s1
  | some h =>
    if s1.lnp.callAllowed h.dest then requestCall h.dest h.body { s1 with lnp := { s1.lnp with held := none } } else s1

/-- R151: a call is freed and its result handed to the TNL. -/
def callFreed (dest : Nat) (r : CallResult) (s : State) : State :=
  match s.tnl.call with
  | some c =>
    if c.dest = dest then tensorFreed c r (dropRecord dest { s with tnl := { s.tnl with call := none } })
    else dropRecord dest s
  | none => dropRecord dest s

/-! ### Hold, let-go and unclamp (ch. 6) -/

/-- R111: entry to UNCLAMP. -/
def enterUnclamp (s : State) : State :=
  let s1 := (enterState .unclamp s).mapSet (fun o => { o with clamp := .opn })
  { s1 with wsq := { s1.wsq with clampTimer := startTimer 5000, releaseWait := none } }

/-- R109: entry to LET_GO. -/
def enterLetGo (s : State) : State :=
  let s1 := sendLetGo (enterState .letGo s)
  let s2 : State := { s1 with wsq := { s1.wsq with releaseWait := startTimer 30000 } }
  if s2.releaseHolds then enterUnclamp s2 else s2

/-- R106, R107: entry to HOLD. The upset timer stops (log 49). -/
def enterHold (s : State) : State :=
  let s1 := ((enterState .hold s).mapSet
    (fun _ => { current := 0, velocity := 0, force := s.sched.fH, clamp := .keep })).mapProgress
    (fun p => { p with holdElapsed := 0 })
  let s2 : State := { s1 with
    mfe := { s1.mfe with slipNotice := none }
    wsq := { s1.wsq with
      upsetTimer := none, holdTimer := startTimer (s.sched.tH * 1000), holdTicks := 0, holdBroken := false } }
  if s2.tensioned then
    let s3 := requestGate .hold s2
    if s3.tnl.gateMet then s3 else holdBroken s3
  else s2

/-- R106: the hold timer expires: force off, the last HOLD_TICK, and on to LET_GO or UNCLAMP. -/
def endHold (s : State) : State :=
  let s1 := (s.mapSet (fun o => { o with force := 0 })).mapProgress
    (fun p => { p with holdElapsed := s.sched.tH * 1000 })
  let s2 := endWatch (activate .holdTick
    { s1 with wsq := { s1.wsq with holdTimer := none, holdTicks := s.sched.tH } })
  if s2.tensioned then enterLetGo s2 else enterUnclamp s2

/-! ### Upset (ch. 6) -/

/-- R104: UPSET ends when the stroke is ENDED and t_uc has expired. -/
def leaveUpset (s : State) : State :=
  if s.wsq.seq = .upset ∧ s.wsq.stroke = .ended ∧ s.wsq.tucExpired then enterHold s else s

/-- R100: t_uc expires: the demand goes to 0 and the CLU is told that heat is over. -/
def heatOver (s : State) : State :=
  let s1 := s.mapSet (fun o => { o with current := 0 })
  yieldOwnClaim { s1 with wsq := { s1.wsq with tucExpired := true } }

/-- R102, R103: the stroke ends: velocity 0, ENDED, UPSET_PEAK; UPSET_SHORT is entered when it was short. -/
def endStroke (short : Bool) (s : State) : State :=
  let s1 := s.mapSet (fun o => { o with velocity := 0 })
  let s2 := activate .upsetPeak { s1 with wsq := { s1.wsq with stroke := .ended } }
  if short then enterFault .upsetShort (some (s.ctx.elim 0 (·.progress.upsetDistance) : Nat)) s2 else s2

/-- R101: the upset distance and the peak upset force are worked while the stroke runs; once it is ENDED they stand. -/
def workStroke (s : State) : State :=
  s.mapProgress (fun p =>
    if s.wsq.stroke = .stroke then
      { p with
        upsetDistance := (s.position - s.wsq.upsetEntry).toNat
        peakForce := max p.peakForce (s.input .force).toNat }
    else p)

/-- R102: the end of the stroke at one sample. Distance wins over force when both are reached. -/
def strokeSample (s : State) : State :=
  let d := (s.position - s.wsq.upsetEntry).toNat
  if s.wsq.stroke ≠ .stroke then s
  else if s.sched.dU ≤ d then endStroke false s
  else if (s.sched.fUpMax : Int) ≤ s.input .force then endStroke (d < s.sched.dUMin) s
  else s

/-- R98 to R102: entry to UPSET, the sample of entry included. A gate not met at the entry is entered before an UPSET_SHORT
of the same sample (log 59). -/
def enterUpset (s : State) : State :=
  let s1 := enterState .upset s
  let s2 := ({ s1 with
      frg := { s1.frg with windowTimer := none }
      wsq := { s1.wsq with
        upsetEntry := s1.position, stroke := .stroke, upsetTimer := startTimer 2000, tucExpired := false } }.mapSet
      (fun _ => { current := s1.scaled s1.sched.iUpset, velocity := s1.sched.vUp, force := 0, clamp := .keep })).mapProgress
    (fun p => { p with upsetDistance := 0, peakForce := 0 })
  let s3 :=
    if s2.tensioned then
      let g := endWatch (requestGate .upset s2)
      if g.tnl.gateMet then g else enterFault .tensorLost g.pairedForce g
    else s2
  let s4 := if s3.sched.tUc = 0 then heatOver s3 else s3
  leaveUpset (strokeSample (workStroke s4))

/-- R90: flashing ends. -/
def endFlash (s : State) : State := if 0 < s.sched.dBoost then enterBoost s else enterUpset s

/-! ### The gate reported to its requester (ch. 8) -/

/-- R136 to R139: the gate is evaluated again at a notice of the paired row, and a change is reported. -/
def gateNotice (s : State) : State :=
  if s.tnl.watch = .none ∨ s.gateHolds = s.tnl.gateMet then s
  else
    let s1 : State := { s with tnl := { s.tnl with gateMet := s.gateHolds } }
    match s.tnl.watch, s.gateHolds with
    | .close, true => enterPower { s1 with tnl := { s1.tnl with watch := .none, tensorWait := none } }
    | .heatEntry, true => enterFlash (endWatch s1)
    | .hold, false => holdBroken s1
    | _, _ => s1

/-- R134: the paired row went EMPTY before the closure was accepted: the call is freed and the weld is aborted with
TENSOR_TIMEOUT. A call of an earlier weld stays outstanding (R141). The frame of a freed call that is still queued
stays in the queue (log 19). -/
def closeRowLost (s : State) : State :=
  if s.wsq.seq = .close ∧ !s.tnl.closureAccepted ∧ !s.pairedRow.isHeard then
    if s.tnl.closureWaiting then takeFault .tensorTimeout none s
    else
      match s.tnl.call with
      | some c => takeFault .tensorTimeout none (dropRecord c.dest { s with tnl := { s.tnl with call := none } })
      | none => takeFault .tensorTimeout none s
  else s

/-- R109, R154: the WSQ makes the release test at each change of the paired row in LET_GO. -/
def releaseNotice (s : State) : State :=
  if s.wsq.seq = .letGo ∧ s.releaseHolds then enterUnclamp s else s

end Sys2Proof.Machine
end

