-- ==== Sys2Proof/Machine/Peers.lean ====
section
/-! DEFINITION. The peer view: its rows and the notices of their changes (R130, R153, R154). -/
namespace Sys2Proof.Machine

/-- Change the row of a station (R153). -/
def State.setRow (n : Nat) (r : PeerRow) (s : State) : State :=
  if n = 0 then s else { s with lnp := { s.lnp with peers := s.lnp.peers.set (n - 1) r } }

/-- R154: the notices of a change of the paired station's row, to the TNL and to the WSQ. `announced` says whether an
ANNOUNCE made the change, which raises TENSOR_REPORT (R130). -/
def pairedNotice (announced : Bool) (s : State) : State :=
  let s1 := if announced then activate .tensorReport s else s
  releaseNotice (gateNotice (closeRowLost s1))

/-- R154: a row changes and the notices are given: to the CLU, then to the TNL and the WSQ (log 10). -/
def changeRow (n : Nat) (announced : Bool) (r : PeerRow) (s : State) : State :=
  let s1 := cluNotice s n (s.setRow n r)
  if s1.pair = some n then pairedNotice announced s1 else s1

/-- R153: an ANNOUNCE makes the row LIVE at age 0 with the frame's side, role and fields. -/
def takeAnnounce (source : Nat) (side : Option Side) (role : RoleData) (s : State) : State :=
  changeRow source true (.heard true side 0 role) s

/-- R154: a CLAIM or YIELD sets the claim of a row that is heard in role HEAD, and is discarded on any other row. -/
def takeClaim (source amount : Nat) (s : State) : State :=
  match s.row source with
  | .heard live side age (.head state _) => changeRow source false (.heard live side age (.head state amount)) s
  | _ => s

/-- R154: a LIVE row that has reached 200 ms becomes STALE. -/
def staleRow (n : Nat) (s : State) : State :=
  match s.row n with
  | .heard true side age role => if 200 ≤ age + 1 then changeRow n false (.heard false side age role) s else s
  | _ => s

/-- R154: a row that has reached 2000 ms becomes EMPTY. -/
def emptyRow (n : Nat) (s : State) : State :=
  match s.row n with
  | .heard _ _ age _ => if 2000 ≤ age + 1 then changeRow n false .empty s else s
  | .empty => s

/-- R154: one more millisecond of age; an age of 2000 ms goes no higher. -/
def PeerRow.older : PeerRow → PeerRow
  | .heard live side age role => .heard live side (min (age + 1) 2000) role
  | .empty => .empty

end Sys2Proof.Machine
end

