-- ==== Sys2Proof/Machine/Receive.lean ====
section
/-! DEFINITION. Receiving a frame: the tests of R145, the weld orders (R58 to R61), the stops (R62, R63), the duplicate
station (R65, R155), the answers (R151) and CLEAR (R156). -/
namespace Sys2Proof.Machine

/-! ### Freeing calls all at once -/

/-- R151: the calls to these stations are freed with one result. -/
def freeCalls (r : CallResult) (dests : List Nat) (s : State) : State := dests.foldl (fun s d => callFreed d r s) s

/-- R155, R156: the held call is freed. -/
def freeHeld (r : CallResult) (s : State) : State :=
  let s1 : State := { s with lnp := { s.lnp with held := none } }
  match s.lnp.held, s.tnl.call with
  | some _, some c => if c.number.isNone then tensorFreed c r { s1 with tnl := { s1.tnl with call := none } } else s1
  | _, _ => s1

/-! ### A duplicate station -/

/-- R155: what the LNP does at the moment of a duplicate-station fault. An AWAITING call keeps its deadline. -/
def silenceLine (s : State) : State :=
  let s1 := freeHeld .discarded { s with lnp := { s.lnp with
    announceTimer := none, backoff := false, attemptCount := 0, queue := [], announceOwed := false
    claimDropped := false } }
  freeCalls .discarded ((s1.lnp.calls.filter (fun r => r.deadline.isNone)).map (·.dest)) s1

/-- R65, R155: a frame from the own station number: the silence flag, the fault by state, and the line silenced. With
the flag already set nothing happens. -/
def duplicateFound (s : State) : State :=
  if s.wsq.silence then s
  else
    let s1 := takeStationFault .duplicateStation none { s with wsq := { s.wsq with silence := true } }
    silenceLine
      (match s1.wsq.seq with
      | .ready => enterState .offline s1
      | .locked => enterState .offline s1
      | _ => s1)

/-! ### Weld orders -/

/-- R152: the answer to a call joins the queue. -/
def answerCall (dest number : Nat) (code : AnswerCode) (result : Nat) (s : State) : State :=
  offer (.answer dest number code result) s

/-- R59, condition 6: the order's bank, mode, L and T_n, or none when one is out of range. -/
def orderOf (args : StartArgs) : Option (BankName × Mode) :=
  match bankOfCode args.bank, modeOfCode args.mode with
  | some bank, some mode =>
    if 20 ≤ args.pulled ∧ args.pulled ≤ 400 ∧ 100 ≤ args.tN ∧ args.tN ≤ 400 then some (bank, mode) else none
  | _, _ => none

/-- R181: the weld number at which no number is left. -/
def weldNumberLimit : Nat := 2 ^ 32

/-- R59: the conditions in order; the order is accepted where none holds. -/
def startTest (args : StartArgs) (s : State) : Except AnswerCode (BankName × Mode) :=
  if s.wsq.seq = .locked then .error .locked
  else if s.ctx.isSome then .error .busy
  else if s.wsq.haltLatch then .error .halted
  else if s.rst.slot.isSome then .error .recordPending
  else if s.pins.headStop then .error .notReady
  else
    match orderOf args with
    | none => .error .range
    | some (bank, mode) =>
      if !(s.bank bank).ready then .error .notReady
      else if weldNumberLimit ≤ s.rst.nextWeld then .error .notReady
      else .ok (bank, mode)

/-- R48: the weld context at acceptance. -/
def newContext (bank : BankName) (mode : Mode) (args : StartArgs) (s : State) : WeldCtx :=
  { weldNumber := s.rst.nextWeld, workRef := args.workRef, bank := bank, mode := mode, pulled := args.pulled
    tN := args.tN, demand := (s.bank bank).image.demand, dMin := (s.bank bank).image.dMin }

/-- R61, steps 1 to 4: the number, the context, and what the blocks set at acceptance (R16, R97, R129, R163, R168). -/
def createWeld (bank : BankName) (mode : Mode) (args : StartArgs) (s : State) : State :=
  { s with
    ctx := some (newContext bank mode args s)
    rst := { s.rst with nextWeld := s.rst.nextWeld + 1 }
    mfe := { s.mfe with onsets := 0, energy := 0, stall := [], slip := 0, slipNotice := none }
    frg := { s.frg with corrK := 0, unstable := 0, lastRate := 0 }
    tnl := { s.tnl with closureAccepted := false }
    cap := s.cap.accept }

/-- R53: entry to CLAMP. -/
def enterClamp (s : State) : State :=
  let s1 := (enterState .clamp s).mapSet (fun o => { o with clamp := .close })
  { s1 with wsq := { s1.wsq with clampTimer := startTimer 5000 } }

/-- R61: an accepted WELD_START, as one step. -/
def acceptWeld (source number : Nat) (bank : BankName) (mode : Mode) (args : StartArgs) (s : State) : State :=
  answerCall source number .accepted s.rst.nextWeld (enterClamp (createWeld bank mode args s))

/-- R58, R59: a WELD_START. -/
def takeWeldStart (source number : Nat) (args : StartArgs) (s : State) : State :=
  if s.isConsole source then
    match startTest args s with
    | .error code => answerCall source number code 0 s
    | .ok (bank, mode) => acceptWeld source number bank mode args s
  else answerCall source number .role 0 s

/-- R60: the answer to a WELD_STOP in a state, and whether it carries the weld number. -/
def stopAnswer : SeqState → AnswerCode × Bool
  | .offline => (.idle, false)
  | .ready => (.idle, false)
  | .locked => (.idle, false)
  | .hold => (.holding, true)
  | _ => (.stopping, true)

/-- R58, R60: a WELD_STOP. -/
def takeWeldStop (source number : Nat) (s : State) : State :=
  if s.isConsole source then
    let a := stopAnswer s.wsq.seq
    answerCall source number a.1 (if a.2 then s.weldNumber else 0) (stopWeld .operatorStop s)
  else answerCall source number .role 0 s

/-! ### Answers, HALT and CLEAR -/

/-- R151: an ANSWER frees the AWAITING record it matches, and is discarded otherwise. -/
def takeAnswer (source number outcome result : Nat) (s : State) : State :=
  if s.lnp.calls.any (fun r => r.dest == source && r.number == number && r.deadline.isSome) then
    callFreed source (.answered outcome result) s
  else s

/-- R63: set the halt latch, an announced field (R146). -/
def setHaltLatch (s : State) : State :=
  if s.wsq.haltLatch then s else announceChange { s with wsq := { s.wsq with haltLatch := true } }

/-- R63, R156: a HALT. -/
def takeHalt (s : State) : State := stopWeld .lineHalt (setHaltLatch s)

/-- R156, step 1: the queue is emptied and the CLU is told. -/
def clearQueue (s : State) : State :=
  cluCleared { s with lnp := { s.lnp with queue := [], announceOwed := false, claimDropped := false } }

/-- R156, steps 2 and 3: every record and the held call go, the attempt count is 0 and the backoff ends. -/
def clearCalls (s : State) : State :=
  { s with
    lnp := { s.lnp with calls := [], held := none, attemptCount := 0, backoff := false }
    tnl := { s.tnl with call := none } }

/-- R63, R156, step 4: a CLEAR from a console clears the halt latch. R156 asks for no ANNOUNCE here, where R50 and R146
ask for one at each change of the latch: R156 is followed (log 45). -/
def clearHaltLatch (s : State) : State := { s with wsq := { s.wsq with haltLatch := false } }

/-- R64, R156: a CLEAR, in the order of R156; the TNL acts on its cancelled call last. -/
def takeClear (source : Nat) (s : State) : State :=
  let s1 := clearCalls (clearQueue s)
  let s2 := if s.isConsole source then clearHaltLatch s1 else s1
  match s.tnl.call with
  | some c => tensorFreed c .cancelled s2
  | none => s2

/-! ### The tests of R145 -/

/-- R152: a call the controller does not serve is answered UNSUPPORTED with result 0. -/
def takeUnsupported (source number : Nat) (s : State) : State := answerCall source number .unsupported 0 s

/-- R145: a frame that passes the tests is handed on by kind (R151 to R156). -/
def takeBody (source : Nat) : RxBody → State → State
  | .announce side role => takeAnnounce source side role
  | .claim amount => takeClaim source amount
  | .yieldClaim => takeClaim source 0
  | .weldStart number args => takeWeldStart source number args
  | .weldStop number => takeWeldStop source number
  | .setClosure number => takeUnsupported source number
  | .letGo number => takeUnsupported source number
  | .unknownCall number => takeUnsupported source number
  | .answer number outcome result => takeAnswer source number outcome result
  | .halt => takeHalt
  | .clearAll => takeClear source

/-- What the tests of R144 and R145 make of a frame: nothing, a duplicate station, or a body to act on. -/
inductive FrameTest where
  | drop
  | duplicate
  | take (source : Nat) (body : RxBody)
  deriving DecidableEq, Repr

/-- R145: the tests 1 to 5 in order, on a frame that survived R144 (log 34 for the echo). -/
def testFrame (f : RxFrame) (s : State) : FrameTest :=
  if s.lnp.attempt.isSome then .drop
  else if f.source = 0 ∨ f.source = 15 then .drop
  else if f.source = s.lnp.station then .duplicate
  else if f.dest ≠ 0 ∧ f.dest ≠ s.lnp.station then .drop
  else
    match rxBody f with
    | none => .drop
    | some body => if body.needsOwnDest ∧ f.dest = 0 then .drop else .take f.source body

/-- R144, R145: a received frame. The command of a row acts on frames of its own kind alone (`want`); a frame from the
own station number raises the duplicate-station fault whatever its kind (log 13). -/
def receive (want : RxBody → Bool) (bytes : List Byte) (s : State) : State :=
  if s.takesFrames then
    match parseFrame bytes with
    | none => s
    | some f =>
      match testFrame f s with
      | .drop => s
      | .duplicate => duplicateFound s
      | .take source body => if want body then takeBody source body s else s
  else s

end Sys2Proof.Machine
end

