-- ==== Sys2Proof/Machine/Sending.lean ====
section
/-! DEFINITION. Sending: attempts, call deadlines and the announce timer (R146 to R151, R157). -/
namespace Sys2Proof.Machine

/-- The greatest number of attempts of one frame (R147). -/
def attemptLimit : Nat := 16

/-- R147: the conditions for an attempt after `idleBits` bit times of unbroken idle line (log 29). -/
def State.attemptReady (idleBits : Nat) (s : State) : Bool :=
  s.pins.lineOk && !s.pins.lineReset && !s.wsq.silence && s.wsq.seq != .offline && s.lnp.attempt.isNone
    && s.lnp.idleNeeded ≤ idleBits

/-- R147: an attempt begins; the frame's bytes are built now (R146). -/
def beginAttempt (idleBits : Nat) (s : State) : State :=
  match s.lnp.queue with
  | [] => s
  | f :: _ =>
    if s.attemptReady idleBits then
      { s with lnp := { s.lnp with attempt := some (frameBytes f s), backoff := false } }
    else s

/-- R150: the frame of a QUEUED call is won: its deadline starts. -/
def startDeadline (dest number : Nat) (r : CallRecord) : CallRecord :=
  if r.dest = dest ∧ r.number = number ∧ r.deadline.isNone then { r with deadline := startTimer 250 } else r

/-- R146, R149: the notice that a frame was sent in full. -/
def frameWon (f : OutFrame) (s : State) : State :=
  match f with
  | .announce =>
    if s.lnp.announceOwed then requestAnnounce { s with lnp := { s.lnp with announceOwed := false } } else s
  | .claim _ _ serial => claimSent serial s
  | .yieldClaim _ => s
  | .call dest number _ => { s with lnp := { s.lnp with calls := s.lnp.calls.map (startDeadline dest number) } }
  | .answer _ _ _ _ => s

/-- R147: the attempt in progress is won: the frame leaves the queue, the CLU is told of the room (R149), and the
frame's owner is told (log 47 for the order). -/
def winAttempt (s : State) : State :=
  match s.lnp.attempt, s.lnp.queue with
  | some _, f :: rest =>
    frameWon f (tellRoom { s with lnp := { s.lnp with attempt := none, queue := rest, attemptCount := 0 } })
  | _, _ => s

/-- R149: the notice that a frame was discarded after its last attempt. A CALL frees the QUEUED record of its own number
(R151); one whose record is gone (log 19) frees none. -/
def frameDiscarded (f : OutFrame) (s : State) : State :=
  match f with
  | .announce => s
  | .claim _ _ serial => claimDiscarded serial s
  | .yieldClaim _ => s
  | .call dest number _ =>
    if s.lnp.calls.any (fun r => r.dest == dest && r.number == number && r.deadline.isNone) then
      callFreed dest .discarded s
    else s
  | .answer _ _ _ _ => s

/-- R147: the head frame is discarded after 16 attempts: the CLU is told of the room, then LINE_FAULT, then the frame's
owner is told (log 47 for the order). -/
def discardHead (f : OutFrame) (rest : List OutFrame) (s : State) : State :=
  frameDiscarded f (lineFault f (tellRoom
    { s with lnp := { s.lnp with queue := rest, attemptCount := 0, backoff := false } }))

/-- R147: the attempt in progress is lost. An ANNOUNCE owed during it is met by the frame, which stays queued (R146). -/
def loseAttempt (s : State) : State :=
  match s.lnp.attempt, s.lnp.queue with
  | some _, f :: rest =>
    let s1 : State := { s with lnp := { s.lnp with attempt := none, announceOwed := false, backoff := true } }
    if attemptLimit ≤ s.lnp.attemptCount + 1 then discardHead f rest s1
    else { s1 with lnp := { s1.lnp with attemptCount := s.lnp.attemptCount + 1 } }
  | _, _ => s

/-- R157: an attempt in progress is abandoned, and not counted as lost. The backoff of an attempt lost before stands
through the outage (log 55). -/
def abandonAttempt (l : Lnp) : Lnp :=
  if l.attempt.isSome then { l with attempt := none, announceOwed := false } else l

/-- R151: the deadline of the call to a station expires. -/
def expireCall (dest : Nat) (s : State) : State :=
  if s.lnp.calls.any (fun r => r.dest == dest && timerDue r.deadline) then callFreed dest .timeout s else s

/-- R146: the announce timer asks for an ANNOUNCE, and its next period begins. -/
def announceTick (s : State) : State :=
  if timerDue s.lnp.announceTimer then
    requestAnnounce { s with lnp := { s.lnp with announceTimer := s.lnp.announceTimer.map Timer.again } }
  else s

end Sys2Proof.Machine
end

