-- ==== Sys2Proof/Machine/Wires.lean ====
section
/-! DEFINITION. The meanings of the resets and of the train's and the head's wires (R15, R50, R51, R62, R74, R75, R97, R112,
R128, R142, R157, R158, R169, R181, R182, R191). -/
namespace Sys2Proof.Machine

/-- Every meaning ends here: the gate of R14, and a next state. -/
def finish (s : State) : Host.Outcome State Fault Refusal := .next (gateCurrent s)

/-- R181: the ring scan of a supply reset, and the erase-ahead test at its end. -/
def scanRing (s : State) : State := { s with rst := s.rst.scanned.testErase }

/-- R15, R16, R50, R97, R112, R128, R129, R158, R169, R181, R191: the controller without supply keeps only its store;
the wires and straps stand as the reset finds them. The queue and the count of free values are the model's own. -/
def powerUp (w : ResetWires) (s : State) : State :=
  { pins := { lineOk := w.lineOk, headStop := w.headStop, lineReset := w.lineReset }
    lnp := { station := w.station.toNat, side := w.side, lineOkRisen := w.lineOk && !w.lineReset }
    rst := { s.rst with log := {}, write := none }
    freeCount := s.freeCount
    pending := s.pending }

/-- R74: a supply reset: power-up, the ring scan (R181), then the settings check (R31). -/
def execSupplyReset (w : ResetWires) (s : State) : Host.Outcome State Fault Refusal :=
  finish (checkSettings (scanRing (powerUp w s)))

/-- R29, R191: what the port waits on after a line reset: an install whose write runs on. -/
def busyAfterReset (s : State) : Busy := if s.rst.write.isSome then .install else .none

/-- R75: what a line reset leaves, as its rule of each block gives (R15, R16, R50, R97, R112, R128, R142, R158, R169,
R182, R191; log 12, log 42). -/
def resetLine (s : State) : State :=
  { pins := { s.pins with lineReset := true }
    wsq := { lastVerdict := s.wsq.lastVerdict, lastWeldNumber := s.wsq.lastWeldNumber }
    lnp := { station := s.lnp.station, side := s.lnp.side }
    cap := { s.cap.takeWaiting with tick := none }
    rst := s.rst.lineReset
    svp := { busy := busyAfterReset s }
    freeCount := s.freeCount
    pending := s.pending }

/-- R75: LINE_RESET. -/
def execLineReset (s : State) : Host.Outcome State Fault Refusal := finish (resetLine s)

/-- R51, R158: the release of a line reset samples the straps; a LINE_OK already high counts as a rise. -/
def releaseLine (station : BitVec 4) (side : Side) (s : State) : State :=
  if s.pins.lineReset then
    { s with
      pins := { s.pins with lineReset := false }
      lnp := { s.lnp with station := station.toNat, side := side, lineOkRisen := s.pins.lineOk } }
  else s

/-- R158: LINE_RESET_RELEASE. -/
def execLineResetRelease (station : BitVec 4) (side : Side) (s : State) : Host.Outcome State Fault Refusal :=
  finish (releaseLine station side s)

/-- R157: LINE_OK_RISE. A rise while a reset is held is no rise after its release (R51). -/
def execLineOkRise (s : State) : Host.Outcome State Fault Refusal :=
  finish { s with
    pins := { s.pins with lineOk := true }
    lnp := { s.lnp with lineOkRisen := s.lnp.lineOkRisen || !s.pins.lineReset } }

/-- R157: LINE_OK_FALL. -/
def execLineOkFall (s : State) : Host.Outcome State Fault Refusal :=
  finish { s with pins := { s.pins with lineOk := false }, lnp := abandonAttempt s.lnp }

/-- R51: the conditions for leaving OFFLINE. The settings check is over when a supply reset is. -/
def State.offlineOver (s : State) : Bool :=
  s.wsq.seq == .offline && s.lnp.lineOkRisen && s.lnp.strapValid && !s.wsq.silence && !s.pins.lineReset

/-- R51, R146: the sequencer leaves OFFLINE; the announce timer starts and asks for an ANNOUNCE. -/
def leaveOffline (s : State) : State :=
  let s1 := enterState (if s.wsq.lock then .locked else .ready) s
  requestAnnounce { s1 with lnp := { s1.lnp with announceTimer := startTimer 50 } }

/-- R51: OFFLINE_EXIT. -/
def execOfflineExit (s : State) : Host.Outcome State Fault Refusal :=
  finish (if s.offlineOver then leaveOffline s else s)

/-- R62: an assertion of HEAD_STOP acts once (log 39). -/
def assertHeadStop (s : State) : State :=
  if s.pins.headStop then s else stopWeld .headStop { s with pins := { s.pins with headStop := true } }

/-- R62: HEAD_STOP. -/
def execHeadStop (s : State) : Host.Outcome State Fault Refusal := finish (assertHeadStop s)

/-- R62: HEAD_STOP_RELEASE has no effect of its own. -/
def execHeadStopRelease (s : State) : Host.Outcome State Fault Refusal :=
  finish { s with pins := { s.pins with headStop := false } }

end Sys2Proof.Machine
end

