-- ==== Sys2Proof/Machine/Frames.lean ====
section
/-! DEFINITION. The meanings of the received frames and of the rows' ages (R145, R151 to R156). -/
namespace Sys2Proof.Machine

/-- R153: ANNOUNCE. -/
def execAnnounceFrame (bytes : List Byte) (s : State) : Host.Outcome State Fault Refusal :=
  finish (receive (fun | .announce _ _ => true | _ => false) bytes s)

/-- R154: CLAIM. -/
def execClaimFrame (bytes : List Byte) (s : State) : Host.Outcome State Fault Refusal :=
  finish (receive (fun | .claim _ => true | _ => false) bytes s)

/-- R154: YIELD. -/
def execYieldFrame (bytes : List Byte) (s : State) : Host.Outcome State Fault Refusal :=
  finish (receive (fun | .yieldClaim => true | _ => false) bytes s)

/-- R59: WELD_START. -/
def execWeldStart (bytes : List Byte) (s : State) : Host.Outcome State Fault Refusal :=
  finish (receive (fun | .weldStart _ _ => true | _ => false) bytes s)

/-- R60: WELD_STOP. -/
def execWeldStop (bytes : List Byte) (s : State) : Host.Outcome State Fault Refusal :=
  finish (receive (fun | .weldStop _ => true | _ => false) bytes s)

/-- R152: SET_CLOSURE_CALL. -/
def execSetClosureCall (bytes : List Byte) (s : State) : Host.Outcome State Fault Refusal :=
  finish (receive (fun | .setClosure _ => true | _ => false) bytes s)

/-- R152: LET_GO_CALL. -/
def execLetGoCall (bytes : List Byte) (s : State) : Host.Outcome State Fault Refusal :=
  finish (receive (fun | .letGo _ => true | _ => false) bytes s)

/-- R152: UNKNOWN_CALL_KIND. -/
def execUnknownCallKind (bytes : List Byte) (s : State) : Host.Outcome State Fault Refusal :=
  finish (receive (fun | .unknownCall _ => true | _ => false) bytes s)

/-- R151: ANSWER. -/
def execAnswerFrame (bytes : List Byte) (s : State) : Host.Outcome State Fault Refusal :=
  finish (receive (fun | .answer _ _ _ => true | _ => false) bytes s)

/-- R63: HALT. -/
def execHaltFrame (bytes : List Byte) (s : State) : Host.Outcome State Fault Refusal :=
  finish (receive (fun | .halt => true | _ => false) bytes s)

/-- R156: CLEAR. -/
def execClearFrame (bytes : List Byte) (s : State) : Host.Outcome State Fault Refusal :=
  finish (receive (fun | .clearAll => true | _ => false) bytes s)

/-- R155: DUPLICATE_STATION, a frame of any kind from the own station number. -/
def execDuplicateStation (bytes : List Byte) (s : State) : Host.Outcome State Fault Refusal :=
  finish (receive (fun _ => false) bytes s)

/-- R154: ROW_STALE. -/
def execRowStale (station : BitVec 4) (s : State) : Host.Outcome State Fault Refusal :=
  finish (staleRow station.toNat s)

/-- R154: ROW_EMPTY. -/
def execRowEmpty (station : BitVec 4) (s : State) : Host.Outcome State Fault Refusal :=
  finish (emptyRow station.toNat s)

end Sys2Proof.Machine
end

