-- ==== Sys2Proof/Machine/LineTimers.lean ====
section
/-! DEFINITION. The meanings of the attempts and of the timers of the line, the claim and the tensor (R118, R120, R121,
R124, R137, R138, R146, R147, R151). -/
namespace Sys2Proof.Machine

/-- R146: ANNOUNCE_TIMER. -/
def execAnnounceTimer (s : State) : Host.Outcome State Fault Refusal := finish (announceTick s)

/-- R147: ATTEMPT_START. -/
def execAttemptStart (idleBits : Nat) (s : State) : Host.Outcome State Fault Refusal := finish (beginAttempt idleBits s)

/-- R147: ATTEMPT_WON. -/
def execAttemptWon (s : State) : Host.Outcome State Fault Refusal := finish (winAttempt s)

/-- R147: ATTEMPT_LOST. -/
def execAttemptLost (s : State) : Host.Outcome State Fault Refusal := finish (loseAttempt s)

/-- R151: CALL_DEADLINE. -/
def execCallDeadline (station : BitVec 4) (s : State) : Host.Outcome State Fault Refusal :=
  finish (expireCall station.toNat s)

/-- R120: SETTLE_TIMER_EXPIRY. -/
def execSettleTimerExpiry (s : State) : Host.Outcome State Fault Refusal :=
  finish (if s.clu.step = .settling ∧ timerDue s.clu.settleTimer then grantClaim s else s)

/-- R118: BACKOFF_TIMER_EXPIRY. -/
def execBackoffTimerExpiry (s : State) : Host.Outcome State Fault Refusal :=
  finish
    (if s.clu.step = .backoff ∧ timerDue s.clu.backoffTimer then
      decideClaim { s with clu := { s.clu with backoffTimer := none } }
    else s)

/-- R124: the shed timer expires. -/
def expireShed (s : State) : State :=
  if (s.clu.ownClaim : Int) ≤ s.sparePower then endShed s else losePower (some s.sparePower) s

/-- R124: SHED_TIMER_EXPIRY. -/
def execShedTimerExpiry (s : State) : Host.Outcome State Fault Refusal :=
  finish (if s.clu.step = .shed ∧ timerDue s.clu.shedTimer then expireShed s else s)

/-- R121: POWER_DENIED. -/
def execPowerDenied (s : State) : Host.Outcome State Fault Refusal :=
  finish
    (if s.wsq.seq = .power ∧ timerDue s.clu.claimWait then takeFault .powerDenied (some s.clu.room) s else s)

/-- R137: TENSOR_TIMEOUT. -/
def execTensorTimeout (s : State) : Host.Outcome State Fault Refusal :=
  finish (if s.wsq.seq = .close ∧ timerDue s.tnl.tensorWait then takeFault .tensorTimeout s.pairedForce s else s)

/-- R138: TENSOR_LOST. -/
def execTensorLost (s : State) : Host.Outcome State Fault Refusal :=
  finish
    (if (s.wsq.seq = .preheat ∨ s.wsq.seq = .power) ∧ timerDue s.frg.gateTimer then
      takeFault .tensorLost s.pairedForce s
    else s)

end Sys2Proof.Machine
end

