-- ==== Sys2Proof/Machine/Notices.lean ====
section
/-! DEFINITION. What the WSQ and the FRG do on the notices of the MFE (R3, R7, R12, R70, R91, R92). -/
namespace Sys2Proof.Machine

/-- R3, R70: the WSQ takes a SENSOR_RANGE: the lock flag, the fault by state, and LOCKED from READY. -/
def takeSensorRange (value : Option Int) (s : State) : State :=
  let s1 := takeStationFault .sensorRange value { s with wsq := { s.wsq with lock := true } }
  if s1.wsq.seq = .ready then enterState .locked s1 else s1

/-- R3: the notice of an input, if one waits. -/
def State.rangeNotice (input : Input) (s : State) : Option RangeNotice :=
  s.mfe.rangeNotices.find? (fun n => n.input == input)

/-- R3: the WSQ acts on the notice of that input, if one waits (log 33). -/
def takeRangeNotice (input : Input) (s : State) : State :=
  match s.rangeNotice input with
  | none => s
  | some n => takeSensorRange n.value { s with mfe := { s.mfe with rangeNotices := s.mfe.rangeNotices.erase n } }

/-- R92: a backoff begins from the platen position. -/
def beginBackoff (s : State) : State :=
  let s1 := s.mapSet (fun o => { o with velocity := -300 })
  { s1 with
    mfe := { s1.mfe with stall := [] }
    frg := { s1.frg with backoff := some { start := s.position, timer := { length := 1000, elapsed := 0 } } } }

/-- The freeze count of the weld in flight (R91). -/
def State.freezeCount (s : State) : Nat := s.ctx.elim 0 (·.progress.freezeCount)

/-- R91: the FRG takes a freeze: the count, FREEZE, then the abort above the limit or the backoff. -/
def takeFreeze (s : State) : State :=
  let s1 := activate .freeze (s.mapProgress (fun p => { p with freezeCount := p.freezeCount + 1 }))
  if s1.sched.freezeLimit < s1.freezeCount then takeFault .freeze (some s1.freezeCount) s1 else beginBackoff s1

/-- R7, R91: FREEZE_NOTICE acts on a notice that waits; the FRG acts on it in FLASH and BOOST alone (log 33). -/
def takeFreezeNotice (s : State) : State :=
  if s.mfe.freezeNotices = 0 then s
  else
    let s1 : State := { s with mfe := { s.mfe with freezeNotices := s.mfe.freezeNotices - 1 } }
    if s.wsq.seq = .flash ∨ s.wsq.seq = .boost then takeFreeze s1 else s1

/-- R12: CLAMP_SLIP acts on the notice that waits (log 33). -/
def takeClampSlip (s : State) : State :=
  match s.mfe.slipNotice with
  | none => s
  | some p => takeFault .clampSlip (some p) { s with mfe := { s.mfe with slipNotice := none } }

end Sys2Proof.Machine
end

