-- ==== Sys2Proof/Machine/Measure.lean ====
section
/-! DEFINITION. One sample: the millisecond tick, the MFE's measurements and findings, and the laws of the phases (R1 to
R14, R53, R76 to R80, R88 to R95, R100 to R106, R111). -/
namespace Sys2Proof.Machine

/-! ### The millisecond tick (log 2) -/

/-- One sample more on a timer that runs. -/
def tickTimer (t : Option Timer) : Option Timer := t.map Timer.tick

/-- The WSQ's timers. -/
def Wsq.tick (w : Wsq) : Wsq :=
  { w with
    clampTimer := tickTimer w.clampTimer, upsetTimer := tickTimer w.upsetTimer, holdTimer := tickTimer w.holdTimer
    releaseWait := tickTimer w.releaseWait }

/-- The FRG's timers. -/
def Frg.tick (f : Frg) : Frg :=
  { f with
    approachTimer := tickTimer f.approachTimer, contactTimer := tickTimer f.contactTimer
    openTimer := tickTimer f.openTimer, gateTimer := tickTimer f.gateTimer, windowTimer := tickTimer f.windowTimer
    backoff := f.backoff.map (fun b => { b with timer := b.timer.tick }) }

/-- The CLU's timers. -/
def Clu.tick (c : Clu) : Clu :=
  { c with
    settleTimer := tickTimer c.settleTimer, backoffTimer := tickTimer c.backoffTimer
    shedTimer := tickTimer c.shedTimer, claimWait := tickTimer c.claimWait }

/-- The LNP's timers and the ages of the rows (R154). -/
def Lnp.tick (l : Lnp) : Lnp :=
  { l with
    announceTimer := tickTimer l.announceTimer
    calls := l.calls.map (fun r => { r with deadline := tickTimer r.deadline })
    peers := l.peers.map PeerRow.older }

/-- A millisecond passes for every timer and every row. -/
def tickAll (s : State) : State :=
  { s with
    wsq := s.wsq.tick, frg := s.frg.tick, clu := s.clu.tick, lnp := s.lnp.tick
    tnl := { s.tnl with tensorWait := tickTimer s.tnl.tensorWait }
    cap := { s.cap with tick := tickTimer s.cap.tick } }

/-! ### Inputs and outputs -/

/-- R13, R14: the values set take effect. The gate passes the current demand as the conditions of R14 now stand. -/
def driveOutputs (s : State) : State :=
  gateCurrent { s with mfe := { s.mfe with driven := s.mfe.set } }

/-- R1, R2: one input takes its sample. -/
def takeInput (i : Input) (r : RawSample) (x : InputState) : InputState :=
  if sampleValid i r then { value := r.value, held := 0 } else { x with held := min (x.held + 1) 5 }

/-- R1: the seven inputs take their samples. -/
def Inputs.takeAll (raw : Samples) (x : Inputs) : Inputs :=
  { current := takeInput .current raw.current x.current
    voltage := takeInput .voltage raw.voltage x.voltage
    position := takeInput .position raw.position x.position
    force := takeInput .force raw.force x.force
    clampPressure := takeInput .clampPressure raw.clampPressure x.clampPressure
    railTemperature := takeInput .railTemperature raw.railTemperature x.railTemperature
    gapGauge := takeInput .gapGauge raw.gapGauge x.gapGauge }

/-- R3: the SENSOR_RANGE notice an input raises at this sample: its held count goes from 4 to 5. A sample that is both
outside its range and taken with its sensor-fail line asserted counts as rejected by the line (log 44). -/
def rangeNotice? (raw : Samples) (x : Inputs) (i : Input) : Option RangeNotice :=
  if (x.get i).held = 4 ∧ !sampleValid i (Samples.get raw i) then
    some { input := i, value := if (Samples.get raw i).fail then none else some (Samples.get raw i).value }
  else none

/-- R4: one sample of the planning measurement; a SENSOR_RANGE raised drops it. -/
def Planning.sample (raised : Bool) (temperature gap : Int) : Planning → Planning
  | .sampling taken sum =>
    if raised then .none
    else if taken + 1 = 16 then .answered ((sum + temperature + 8) / 16) gap
    else .sampling (taken + 1) (sum + temperature)
  | p => p

/-- R1 to R4: the inputs, the notices and the planning measurement at one sample. -/
def takeInputs (raw : Samples) (s : State) : State :=
  let raised := allInputs.filterMap (rangeNotice? raw s.mfe.inputs)
  let inputs := s.mfe.inputs.takeAll raw
  { s with mfe := { s.mfe with
      inputs := inputs
      rangeNotices := s.mfe.rangeNotices ++ raised
      planning := s.mfe.planning.sample (!raised.isEmpty) inputs.railTemperature.value inputs.gapGauge.value } }

/-! ### Shorts, energy, stall and slip -/

/-- R5 to R7: the short test, the onset counter, the short duration and the freeze notice. -/
def takeShort (s : State) : State :=
  let sh := s.sampleShorted
  let d := s.mfe.shortDuration
  { s with mfe := { s.mfe with
      shorted := sh
      onsets := if sh && !s.mfe.shorted then min (s.mfe.onsets + 1) 65535 else s.mfe.onsets
      shortDuration := if sh then min (d + 1) s.sched.tFz else 0
      freezeNotices := if sh && d + 1 == s.sched.tFz then s.mfe.freezeNotices + 1 else s.mfe.freezeNotices } }

/-- R8: where the energy accumulator stops, in 0.1 mJ. -/
def energyLimit : Nat := 10 ^ 12

/-- R8: the energy of one sample (log 21). -/
def takeEnergy (s : State) : State :=
  if s.ctx.isSome then
    { s with mfe := { s.mfe with
        energy := min (s.mfe.energy + (s.input .voltage * s.input .current).toNat) energyLimit } }
  else s

/-- The number of samples the stall window holds (R10). -/
def stallSize : Nat := 200

/-- R10: the stall window at one sample; an ineligible sample empties it. -/
def takeStall (s : State) : State :=
  let w := s.mfe.stall ++ [(s.mfe.driven.velocity, s.position)]
  { s with mfe := { s.mfe with stall := if s.stallEligible then w.drop (w.length - stallSize) else [] } }

/-- R12: the count at which CLAMP_SLIP is raised. -/
def slipLimit : Nat := 50

/-- R12: the slip count at one sample, and its notice. -/
def takeSlip (s : State) : State :=
  if s.wsq.seq.slipChecked then
    if s.pressure < s.sched.clampMin then
      { s with mfe := { s.mfe with
          slip := min (s.mfe.slip + 1) slipLimit
          slipNotice := if s.mfe.slip + 1 = slipLimit then some s.pressure else s.mfe.slipNotice } }
    else { s with mfe := { s.mfe with slip := 0 } }
  else s

/-- R11: the measured advance of a window that shows a stall. -/
def stallOf (w : List (Int × Int)) : Option Int :=
  match w.head?, w.getLast? with
  | some old, some new =>
    let advance := new.2 - old.2
    if w.length = stallSize ∧ 4 * (1000 * advance) < (w.map (·.1)).sum then some advance else none
  | _, _ => none

/-! ### The findings of a sample -/

/-- R11, R70: the platen stall, as the MFE found it. A state that has left PREHEAT, FLASH and BOOST forward takes none
(log 22), and neither does a sample that a freeze taken first has made one of a backoff: its window is empty (R10, R92;
log 41). -/
def takePlatenStall (found : Option Int) (s : State) : State :=
  match found with
  | none => s
  | some advance =>
    let s1 : State := { s with mfe := { s.mfe with stall := [] } }
    if (s.wsq.seq.regulated ∧ s.mfe.stall ≠ []) ∨ s.wsq.seq = .stopping then
      takeFault .platenStall (some advance) { s1 with wsq := { s1.wsq with lock := true } }
    else s1

/-- R93: the stroke limit, tested in the state the sample began in; a phase that has moved on does not take it. -/
def takeStrokeLimit (start : SeqState) (s : State) : State :=
  if start.regulated ∧ (s.sched.strokeLimit : Int) ≤ s.position ∧ (s.wsq.seq = start ∨ s.wsq.seq = .stopping) then
    takeFault .burnShort (some s.position) s
  else s

/-- R85, R89, R95, R101, R106: the progress fields of the phase at one sample. -/
def takeProgress (s : State) : State :=
  match s.wsq.seq with
  | .flash => s.mapProgress (fun p =>
      { p with flashTime := p.flashTime + 1, flashBurn := (s.position - s.frg.flashEntry).toNat })
  | .boost => s.mapProgress (fun p => { p with boostBurn := (s.position - s.frg.boostEntry).toNat })
  | .upset => workStroke s
  | .hold => s.mapProgress (fun p => { p with holdElapsed := min (p.holdElapsed + 1) (s.sched.tH * 1000) })
  | _ => s

/-- R53, R4: the pressure test of CLAMP, and entry to PLAN. -/
def clampSample (s : State) : State :=
  if (s.sched.clampMin : Int) ≤ s.pressure then
    let s1 := (enterState .plan s).mapSet (fun o => { o with clamp := .keep })
    { s1 with
      wsq := { s1.wsq with clampTimer := none }
      mfe := { s1.mfe with planning := .sampling 0 0 } }
  else s

/-- R76 to R83: one sample of preheat, by its step. -/
def preheatSample (s : State) : State :=
  match s.frg.step with
  | .approach => if (s.sched.iContact : Int) < s.input .current then beginContact s else s
  | .contact => s.mapSet (fun o => { o with current := s.scaled s.sched.iPre })
  | .opn => retreat s
  | .gateWait => s.mapSet (fun o => { o with current := 0, velocity := 0 })
  | .none => s

/-- The flash burn of the weld in flight (R89). -/
def State.flashBurn (s : State) : Nat := s.ctx.elim 0 (·.progress.flashBurn)

/-- The adjusted burn-off of the weld in flight (R42). -/
def State.bAdj (s : State) : Nat := s.ctx.elim 0 (·.plan.bAdj)

/-- The boost burn of the weld in flight (R95). -/
def State.boostBurn (s : State) : Nat := s.ctx.elim 0 (·.progress.boostBurn)

/-- R76, R85, R88, R90, R92: one sample of flashing. The sample that ends flashing applies the velocity law too. -/
def flashSample (s : State) : State :=
  let s1 := s.mapSet (fun o => { o with current := s.scaled s.sched.iFlash })
  match s.frg.backoff with
  | some x => backoffSample x s1
  | none =>
    let s2 := s1.mapSet (fun o => { o with velocity := s.lawVelocity })
    if s.bAdj ≤ s.flashBurn then endFlash s2 else s2

/-- R76, R92, R94, R95: one sample of boost. -/
def boostSample (s : State) : State :=
  let s1 := s.mapSet (fun o => { o with current := s.scaled s.sched.iBoost })
  match s.frg.backoff with
  | some x => backoffSample x s1
  | none =>
    if s.sched.dBoost ≤ s.boostBurn then enterUpset s1
    else s1.mapSet (fun o => { o with velocity := clampVelocity s.sched.vBoost })

/-- R100 to R104: one sample of the upset. -/
def upsetSample (s : State) : State :=
  let s1 := if s.wsq.tucExpired then s else s.mapSet (fun o => { o with current := s.scaled s.sched.iUpset })
  leaveUpset (strokeSample s1)

/-- R68, R111: the clamps are open, and the outcome is built. -/
def unclampSample (s : State) : State := if s.pressure < s.sched.openThreshold then buildOutcome s else s

/-- The law of the phase, taken in the state the sample began in. -/
def takePhase (start : SeqState) (s : State) : State :=
  if s.wsq.seq = start then
    match start with
    | .clamp => clampSample s
    | .preheat => preheatSample s
    | .flash => flashSample s
    | .boost => boostSample s
    | .upset => upsetSample s
    | .unclamp => unclampSample s
    | .stopping => unclampSample s
    | _ => s
  else s

/-- The findings of a sample in the order they are taken, each once. The stall, the stroke limit and the law of the
phase come last where the command does not name them (log 9). -/
def findingsOf (order : SampleOrder) : List Finding := (order ++ [Finding.stall, .limit, .phase]).eraseDups

/-- One finding is taken. `start` is the state the sample began in, `stall` what the stall check found (R11). -/
def takeFinding (start : SeqState) (stall : Option Int) (s : State) : Finding → State
  | .stall => takePlatenStall stall s
  | .limit => takeStrokeLimit start s
  | .phase => takePhase start s
  | .freeze => takeFreezeNotice s
  | .slip => takeClampSlip s
  | .range input => takeRangeNotice input s

/-- The findings of a sample in the order that the command carries (R3, R66, R93; log 9). -/
def takeFindings (order : SampleOrder) (s : State) : State :=
  (findingsOf order).foldl (takeFinding s.wsq.seq (stallOf s.mfe.stall)) s

/-- What a sample measures, before anything is found: the tick, the outputs, the inputs and the MFE's counts. -/
def measure (raw : Samples) (s : State) : State :=
  takeProgress (takeSlip (takeStall (takeEnergy (takeShort (takeInputs raw (driveOutputs (tickAll s)))))))

/-- One sample. While LINE_RESET is held the controller takes none (R15; log 11). -/
def takeSample (raw : Samples) (order : SampleOrder) (s : State) : State :=
  if s.pins.lineReset then s else takeFindings order (measure raw s)

end Sys2Proof.Machine
end

