-- ==== Sys2Proof/Machine/Sampling.lean ====
section
/-! DEFINITION. The meanings of SAMPLE and of the notices the MFE hands over (R1 to R12, R34, R54, R91, R92, R131). -/
namespace Sys2Proof.Machine

/-- R1: SAMPLE. -/
def execSample (raw : Samples) (order : SampleOrder) (s : State) : Host.Outcome State Fault Refusal :=
  finish (takeSample raw order s)

/-- R3: SENSOR_RANGE. -/
def execSensorRange (input : Input) (s : State) : Host.Outcome State Fault Refusal := finish (takeRangeNotice input s)

/-- R7: FREEZE_NOTICE. -/
def execFreezeNotice (s : State) : Host.Outcome State Fault Refusal := finish (takeFreezeNotice s)

/-- R12: CLAMP_SLIP. -/
def execClampSlip (s : State) : Host.Outcome State Fault Refusal := finish (takeClampSlip s)

/-- R131: the TNL pairs, or refuses. -/
def pairTensor (s : State) : State :=
  match s.pairCandidates with
  | [] => takeFault .tensorAbsent none s
  | [n] => enterClose (s.mapCtx (fun c => { c with pair := some n }))
  | ns => takeFault .tensorAmbiguous (some ns.length) s

/-- R34, R54: the plan is worked and written whole, and the WSQ acts on it. -/
def takePlan (c : WeldCtx) (tR g0 : Int) (s : State) : State :=
  let r := workPlan s.sched c tR g0
  let s1 := s.mapCtx (fun c => { c with plan := r.plan })
  match r.refusal with
  | some (kind, v) => takeFault kind (some v) s1
  | none =>
    match c.mode with
    | .free => enterPower s1
    | .tensioned => pairTensor s1

/-- R4, R35: the MFE's answer is taken; outside PLAN it is discarded. -/
def takePlanning (s : State) : State :=
  match s.mfe.planning with
  | .answered tR g0 =>
    let s1 : State := { s with mfe := { s.mfe with planning := .none } }
    match s.ctx with
    | some c => if s.wsq.seq = .plan then takePlan c tR g0 s1 else s1
    | none => s1
  | _ => s

/-- R4: PLANNING_MEASUREMENT. -/
def execPlanningMeasurement (s : State) : Host.Outcome State Fault Refusal := finish (takePlanning s)

end Sys2Proof.Machine
end

