-- ==== Sys2Proof/Machine/Service.lean ====
section
/-! DEFINITION. The Service Port: write transfers, staging, reading, and the images it returns (R185 to R190). -/
namespace Sys2Proof.Machine

/-- Change the service port. -/
def State.mapSvp (f : Svp → Svp) (s : State) : State := { s with svp := f s.svp }

/-- The port is busy (R187). -/
def Svp.isBusy (p : Svp) : Bool := p.busy != .none

/-! ### The commands -/

/-- R186: a check fails: the transfer is discarded and a staging is abandoned. -/
def checkFailed (s : State) : State := setStatus .checkFailed 0 (s.mapSvp (fun p => { p with staging := none }))

/-- R187: the greatest length of a staging buffer. -/
def stagingLimit : Nat := 512

/-- R187: a finished staging is handed to the RST. -/
def handOver (g : Staging) (s : State) : State :=
  let s1 := s.mapSvp (fun p => { p with staging := none })
  match g.kind with
  | .bankA => installBank .a g.buffer s1
  | .bankB => installBank .b g.buffer s1
  | .capture => installCapture g.buffer s1

/-- R187: data joins a staging, which is handed over when the transfer carries END. -/
def appendStaging (g : Staging) (data : List Byte) (ends : Bool) (s : State) : State :=
  let g1 : Staging := { g with buffer := g.buffer ++ data }
  if stagingLimit < g1.buffer.length then setStatus .overrun 0 (s.mapSvp (fun p => { p with staging := none }))
  else if ends then handOver g1 s
  else s.mapSvp (fun p => { p with staging := some g1 })

/-- R187: a LOAD transfer of a kind. -/
def loadTransfer (kind : LoadKind) (c : SvpCommand) (s : State) : State :=
  if c.beginBit then appendStaging { kind := kind, buffer := [] } c.data c.endBit (setStatus .ok 0 s)
  else
    match s.svp.staging with
    | some g => if g.kind = kind then appendStaging g c.data c.endBit s else setStatus .abandoned 0 s
    | none => setStatus .abandoned 0 s

/-- R188: the block a SELECT_RECORD data byte names; 255 is the block of the newest record. -/
def Rst.namedBlock (r : Rst) (v : Nat) : Option Nat :=
  if v = 255 then (newestBlock r.blocks).map (·.1) else if v < ringSize then some v else none

/-- R177, R188: the record of the named block, when the block serves reads. -/
def Rst.servedRecord (r : Rst) (v : Nat) : Option (Nat × WeldRecord) :=
  match r.namedBlock v with
  | none => none
  | some n => if r.erase = some n then none else (r.block n).record?.map (fun w => (n, w))

/-- R188: SELECT_RECORD. The copy is taken as the fetch begins (log 31). A source that becomes none has its pointer at 0
(log 56). -/
def selectRecord (v : Nat) (s : State) : State :=
  match s.rst.servedRecord v with
  | some x => s.mapSvp (fun p => { p with busy := .fetch x.1 x.2 })
  | none =>
    setStatus .noRecord 0 (s.mapSvp (fun p => { p with buffer := .empty, selected := none, source := .none, pointer := 0 }))

/-- R188: the copy ends. -/
def endFetch (s : State) : State :=
  match s.svp.busy with
  | .fetch n w =>
    setStatus .ok 0 (s.mapSvp (fun p =>
      { p with busy := .none, buffer := .record w, selected := some n, source := .record, pointer := 0 }))
  | _ => s

/-- R188: READ_DATA. With no record in the buffer the status becomes NO_RECORD, though a later sentence of R188 says that
READ_DATA leaves the status as it was (log 57). -/
def readDataAt (offset : Nat) (s : State) : State :=
  match s.svp.buffer with
  | .record _ => s.mapSvp (fun p => { p with source := .record, pointer := offset })
  | _ => setStatus .noRecord 0 s

/-- R188: READ_STATUS. -/
def selectStatus (s : State) : State := s.mapSvp (fun p => { p with source := .status, pointer := 0 })

/-- R188: READ_FAULTS. -/
def selectFaults (s : State) : State :=
  s.mapSvp (fun p => { p with buffer := .faults s.rst.log, source := .faults, pointer := 0 })

/-- A fault log image goes from the read buffer (R188). -/
def ReadBuffer.withoutFaults : ReadBuffer → ReadBuffer
  | .faults _ => .empty
  | x => x

/-- R184: the device fault log is cleared; the fault-present flag is an announced field (R146). -/
def clearLog (s : State) : State :=
  let s1 : State := { s with rst := { s.rst with log := {} } }
  if s.faultPresent then announceChange s1 else s1

/-- R184, R188: CLEAR_FAULTS (log 56 for the read pointer). -/
def clearFaultLog (s : State) : State :=
  setStatus .ok 0 ((clearLog s).mapSvp (fun p =>
    { p with
      buffer := p.buffer.withoutFaults
      source := if p.source = .faults then .none else p.source
      pointer := if p.source = .faults then 0 else p.pointer }))

/-- R187, R188: a transfer that passed its checks is carried out. -/
def carryOut (c : SvpCommand) (s : State) : State :=
  match c.kind with
  | 1 => loadTransfer .bankA c s
  | 2 => loadTransfer .bankB c s
  | 3 => loadTransfer .capture c s
  | 4 => selectRecord (beNat c.data) s
  | 5 => readDataAt (beNat c.data) s
  | 6 => selectStatus s
  | 7 => selectFaults s
  | 8 => clearFaultLog s
  | _ => s

/-! ### Transfers -/

/-- R190: the sum of the clock-low time at which the port resets, in ms. -/
def clockLowLimit : Nat := 25

/-- R190: the port resets. The read pointer stands (log 58). -/
def portReset (s : State) : State :=
  setStatus .abandoned 0 (s.mapSvp (fun p => { p with staging := none, clockLow := 0, answer := .none }))

/-- What the wires show of the transfer, and its clock-low time (R185, R190; log 26, log 32). -/
def answered (a : PortAnswer) (clockLow : Nat) (s : State) : State :=
  s.mapSvp (fun p => { p with answer := a, clockLow := clockLow })

/-- R186: the transfer's checks at the stop condition, and what it does. A transfer without a byte count fails the first
check (log 15). -/
def takeCommand (bytes : List Byte) (s : State) : State :=
  match parseCommand bytes with
  | none => checkFailed s
  | some c => if commandPasses c then carryOut c s else checkFailed s

/-- R185 to R187, R190: a write transfer. The command of a row acts on transfers whose command byte is its own (`want`;
log 14); one to another address is ignored. -/
def writeTransfer (want : Byte → Bool) (t : WriteTransfer) (s : State) : State :=
  if s.pins.lineReset || !writeAddressed t.bytes || !(commandByte? t.bytes).any want then s
  else if clockLowLimit ≤ t.clockLow then portReset s
  else if s.svp.isBusy then answered .commandRefused t.clockLow s
  else takeCommand t.bytes (answered .taken t.clockLow s)

/-! ### The images (R189) -/

/-- The status image. -/
def statusImage (p : Svp) : List Byte :=
  toBE 1 p.status.code ++ toBE 1 p.field ++ toBE 1 (p.selected.getD 255)

/-- A bit of a flags byte. -/
def flag (b : Bool) (v : Nat) : Nat := if b then v else 0

/-- A fault list entry in the record image. -/
def faultEntryBytes (e : FaultEntry) : List Byte := toBE 1 e.kind.code ++ toBE 1 e.phase.code ++ toBE 1 e.count

/-- A kept trace entry in the record image. -/
def traceEntryBytes (e : TraceEntry) : List Byte :=
  toBE 1 e.desc ++ toBE 1 e.channel.code ++ toBESigned 3 e.value ++ toBE 1 e.run

/-- The eight fault list places of the record image; unused ones are 0. -/
def faultListBytes (fs : List FaultEntry) : List Byte :=
  (List.range 8).flatMap (fun i => (fs[i]?).elim [0#8, 0#8, 0#8] faultEntryBytes)

/-- The weld record image. -/
def recordImage (w : WeldRecord) : List Byte :=
  (toBE 4 w.weldNumber ++ toBE 4 w.workRef.toNat ++ toBE 1 w.bank.code ++ toBE 1 (sideCode w.side) ++ toBE 1 w.mode.code
    ++ toBE 1 (w.pair.getD 0) ++ toBE 2 w.pulled ++ toBE 2 w.tN ++ toBESigned 2 w.tR)
  ++ (toBESigned 2 w.g0 ++ toBE 2 w.p ++ toBE 2 w.fReq ++ toBE 2 w.bAdj ++ toBE 2 w.preheatBurn ++ toBE 2 w.flashBurn
    ++ toBE 2 w.boostBurn ++ toBE 2 w.upsetDistance ++ toBE 2 w.peakForce ++ toBE 1 w.contacts ++ toBE 1 w.freezes)
  ++ (toBE 4 w.flashTime ++ toBE 4 w.energy ++ toBE 2 w.share
    ++ toBE 1 (flag w.tA.isSome 1 + flag w.overflow 2 + flag w.truncated 4) ++ toBESigned 2 (w.tA.getD 0)
    ++ toBE 1 w.phaseReached.code ++ toBE 1 (verdictCode w.verdict) ++ toBE 1 (w.abortKind.elim 0 FaultKind.code))
  ++ (toBE 1 w.faults.length ++ faultListBytes w.faults ++ toBE 2 w.trace.length ++ w.trace.flatMap traceEntryBytes)

/-- The first-fault part of the fault log image. -/
def firstFaultBytes : Option FirstFault → List Byte
  | none => List.replicate 11 0#8
  | some f =>
    toBE 1 (1 + flag f.weldNumber.isSome 2 + flag f.input.isSome 4) ++ toBE 1 f.kind.code ++ toBE 1 f.state.code
      ++ toBE 4 (f.weldNumber.getD 0) ++ toBESigned 4 (f.input.getD 0)

/-- The fault log image. -/
def faultLogImage (log : FaultLog) : List Byte := firstFaultBytes log.first ++ log.counts.flatMap (toBE 1)

/-- The bytes of the read source (R188, R189). -/
def sourceImage (p : Svp) : List Byte :=
  match p.source, p.buffer with
  | .status, _ => statusImage p
  | .record, .record w => recordImage w
  | .faults, .faults log => faultLogImage log
  | _, _ => []

/-- R185: the bytes a read transfer returns; 0 past the end of the source. -/
def readBytes (p : Svp) (n : Nat) : List Byte :=
  let image := sourceImage p
  (List.range n).map (fun i => image.getD (p.pointer + i) 0#8)

/-- R185, R187, R190: a read transfer. One cut short at 25 ms leaves the read pointer where it stood before the transfer
(log 58). -/
def readTransfer (t : ReadTransfer) (s : State) : State :=
  if s.pins.lineReset || t.address.toNat != svpAddress * 2 + 1 then s
  else if clockLowLimit ≤ t.clockLow then portReset s
  else if s.svp.isBusy then answered .addressRefused t.clockLow s
  else answered (.returned (readBytes s.svp t.count)) t.clockLow (s.mapSvp (fun p => { p with pointer := p.pointer + t.count }))

end Sys2Proof.Machine
end

