-- ==== Sys2Proof/Machine/ServiceCommands.lean ====
section
/-! DEFINITION. The meanings of the service port's transfers (R185 to R190). -/
namespace Sys2Proof.Machine

/-- R187: LOAD_BANK_A. -/
def execLoadBankA (t : WriteTransfer) (s : State) : Host.Outcome State Fault Refusal :=
  finish (writeTransfer (fun c => commandKind c == 1) t s)

/-- R187: LOAD_BANK_B. -/
def execLoadBankB (t : WriteTransfer) (s : State) : Host.Outcome State Fault Refusal :=
  finish (writeTransfer (fun c => commandKind c == 2) t s)

/-- R187: LOAD_CAPTURE. -/
def execLoadCapture (t : WriteTransfer) (s : State) : Host.Outcome State Fault Refusal :=
  finish (writeTransfer (fun c => commandKind c == 3) t s)

/-- R187: BEGIN, a LOAD transfer with the BEGIN bit. -/
def execBeginStaging (t : WriteTransfer) (s : State) : Host.Outcome State Fault Refusal :=
  finish (writeTransfer (fun c => isLoadKind (commandKind c) && commandBegins c) t s)

/-- R187: END, a LOAD transfer with the END bit. -/
def execEndStaging (t : WriteTransfer) (s : State) : Host.Outcome State Fault Refusal :=
  finish (writeTransfer (fun c => isLoadKind (commandKind c) && commandEnds c) t s)

/-- R188: SELECT_RECORD. -/
def execSelectRecord (t : WriteTransfer) (s : State) : Host.Outcome State Fault Refusal :=
  finish (writeTransfer (fun c => commandKind c == 4) t s)

/-- R188: READ_DATA. -/
def execReadData (t : WriteTransfer) (s : State) : Host.Outcome State Fault Refusal :=
  finish (writeTransfer (fun c => commandKind c == 5) t s)

/-- R188: READ_STATUS. -/
def execReadStatus (t : WriteTransfer) (s : State) : Host.Outcome State Fault Refusal :=
  finish (writeTransfer (fun c => commandKind c == 6) t s)

/-- R188: READ_FAULTS. -/
def execReadFaults (t : WriteTransfer) (s : State) : Host.Outcome State Fault Refusal :=
  finish (writeTransfer (fun c => commandKind c == 7) t s)

/-- R188: CLEAR_FAULTS. -/
def execClearFaults (t : WriteTransfer) (s : State) : Host.Outcome State Fault Refusal :=
  finish (writeTransfer (fun c => commandKind c == 8) t s)

/-- R188: FETCH_DONE. -/
def execFetchDone (s : State) : Host.Outcome State Fault Refusal := finish (endFetch s)

/-- R185, R189: READ_TRANSFER. -/
def execReadTransfer (t : ReadTransfer) (s : State) : Host.Outcome State Fault Refusal := finish (readTransfer t s)

/-- R190: CLOCK_LOW_TIMEOUT. -/
def execClockLowTimeout (s : State) : Host.Outcome State Fault Refusal :=
  finish (if s.pins.lineReset then s else portReset s)

/-- R186: UNKNOWN_COMMAND_KIND. -/
def execUnknownCommandKind (t : WriteTransfer) (s : State) : Host.Outcome State Fault Refusal :=
  finish (writeTransfer (fun c => !isKnownKind (commandKind c)) t s)

end Sys2Proof.Machine
end

