-- ==== Sys2Proof/Machine/StoreCommands.lean ====
section
/-! DEFINITION. The meanings of the ends of the store's programs, erases and settings writes (R26, R27, R172, R178 to
R180). The sender says when each ends and whether it failed (log 3). -/
namespace Sys2Proof.Machine

/-- R178: COMMIT_END. -/
def execCommitEnd (ok : Bool) (s : State) : Host.Outcome State Fault Refusal := finish (endCommit ok s)

/-- R179: ERASE_END. -/
def execEraseEnd (ok : Bool) (s : State) : Host.Outcome State Fault Refusal := finish (endErase ok s)

/-- R26: SCHEDULE_WRITE_END. -/
def execScheduleWriteEnd (ok : Bool) (s : State) : Host.Outcome State Fault Refusal := finish (endScheduleWrite ok s)

/-- R172: CAPTURE_WRITE_END. -/
def execCaptureWriteEnd (ok : Bool) (s : State) : Host.Outcome State Fault Refusal := finish (endCaptureWrite ok s)

end Sys2Proof.Machine
end

