-- ==== Sys2Proof/Machine/WeldTimers.lean ====
section
/-! DEFINITION. The meanings of the timers of a weld (R53, R68, R78 to R84, R87, R92, R100, R103, R106, R110, R111, R159).
Each acts when its timer runs, is due and its state stands (log 2, log 4). -/
namespace Sys2Proof.Machine

/-- R53: CLAMP_FAIL. -/
def execClampFail (s : State) : Host.Outcome State Fault Refusal :=
  finish (if s.wsq.seq = .clamp ∧ timerDue s.wsq.clampTimer then takeFault .clampFail (some s.pressure) s else s)

/-- R78: CONTACT_END. -/
def execContactEnd (s : State) : Host.Outcome State Fault Refusal :=
  finish
    (if s.wsq.seq = .preheat ∧ s.frg.step = .contact ∧ timerDue s.frg.contactTimer then endContact s else s)

/-- R82, R83: preheat's contacts are complete. -/
def endPreheat (s : State) : State :=
  if s.tensioned then
    let s1 := s.mapSet (fun o => { o with current := 0, velocity := 0 })
    requestHeatGate { s1 with frg := { s1.frg with step := .gateWait, openTimer := none } }
  else enterFlash { s with frg := { s.frg with openTimer := none } }

/-- R80, R82: the open timer expires. -/
def endOpen (s : State) : State :=
  let s1 := writePreheatBurn s
  if s1.frg.k < s1.sched.nPre then beginApproach s1 else endPreheat s1

/-- R80: OPEN_END. -/
def execOpenEnd (s : State) : Host.Outcome State Fault Refusal :=
  finish (if s.wsq.seq = .preheat ∧ s.frg.step = .opn ∧ timerDue s.frg.openTimer then endOpen s else s)

/-- R81: NO_CONTACT. -/
def execNoContact (s : State) : Host.Outcome State Fault Refusal :=
  finish
    (if s.wsq.seq = .preheat ∧ s.frg.step = .approach ∧ timerDue s.frg.approachTimer then
      takeFault .noContact (some s.position) s
    else s)

/-- R87: the correction K after a window of rate `r`. -/
def correctedK (k : Schedule) (f : Frg) (r : Nat) : Int :=
  if r < f.rMin then min (f.corrK + k.stepS) k.kLim
  else if f.rMax < r then max (f.corrK - k.stepS) (-(k.kLim : Int))
  else f.corrK

/-- R87: the unstable count after a window of rate `r`. -/
def unstableAfter (f : Frg) (r : Nat) : Nat := if r < f.rMin ∨ f.rMax < r then f.unstable + 1 else 0

/-- R87: a flash rate window ends. -/
def endWindow (s : State) : State :=
  let r := s.mfe.onsets * 10
  let u := unstableAfter s.frg r
  let s1 := activate .windowEnd
    { s with
      mfe := { s.mfe with onsets := 0 }
      frg := { s.frg with
        windowTimer := s.frg.windowTimer.map Timer.again, corrK := correctedK s.sched s.frg r, unstable := u
        lastRate := r } }
  if s.sched.unstableLimit ≤ u then takeFault .flashUnstable (some r) s1 else s1

/-- R87: WINDOW_END. -/
def execWindowEnd (s : State) : Host.Outcome State Fault Refusal :=
  finish (if s.wsq.seq = .flash ∧ timerDue s.frg.windowTimer then endWindow s else s)

/-- R92: BACKOFF_LIMIT. -/
def execBackoffLimit (s : State) : Host.Outcome State Fault Refusal :=
  finish
    (if s.frg.backoff.any (fun x => x.timer.due) then { s with frg := { s.frg with backoff := none } } else s)

/-- R100: T_UC_EXPIRY. -/
def execTUcExpiry (s : State) : Host.Outcome State Fault Refusal :=
  finish
    (if s.wsq.seq = .upset ∧ !s.wsq.tucExpired ∧ timerReached s.wsq.upsetTimer s.sched.tUc then leaveUpset (heatOver s)
    else s)

/-- R103: UPSET_LIMIT. -/
def execUpsetLimit (s : State) : Host.Outcome State Fault Refusal :=
  finish
    (if s.wsq.seq = .upset ∧ s.wsq.stroke = .stroke ∧ timerDue s.wsq.upsetTimer then leaveUpset (endStroke true s)
    else s)

/-- Hold elapsed of the weld in flight (R106). -/
def State.holdElapsed (s : State) : Nat := s.ctx.elim 0 (·.progress.holdElapsed)

/-- R106: the next whole second of the hold is reached, before the last (log 27). -/
def State.holdTickDue (s : State) : Bool :=
  s.wsq.seq == .hold && s.wsq.holdTicks + 1 < s.sched.tH && (s.wsq.holdTicks + 1) * 1000 ≤ s.holdElapsed + 1

/-- R106: HOLD_TICK. -/
def execHoldTick (s : State) : Host.Outcome State Fault Refusal :=
  finish
    (if s.holdTickDue then activate .holdTick { s with wsq := { s.wsq with holdTicks := s.wsq.holdTicks + 1 } } else s)

/-- R106: HOLD_TIMER_EXPIRY. -/
def execHoldTimerExpiry (s : State) : Host.Outcome State Fault Refusal :=
  finish (if s.wsq.seq = .hold ∧ timerDue s.wsq.holdTimer then endHold s else s)

/-- R110: TENSOR_SLOW. -/
def execTensorSlow (s : State) : Host.Outcome State Fault Refusal :=
  finish
    (if s.wsq.seq = .letGo ∧ timerDue s.wsq.releaseWait then enterUnclamp (enterFault .tensorSlow s.pairedForce s)
    else s)

/-- The states that wait for the clamps to open (R68, R111). -/
def SeqState.unclamping : SeqState → Bool
  | .unclamp => true
  | .stopping => true
  | _ => false

/-- R68, R111: UNCLAMP_SLOW, with the clamp pressure in STOPPING as in UNCLAMP (log 46). -/
def execUnclampSlow (s : State) : Host.Outcome State Fault Refusal :=
  finish
    (if s.wsq.seq.unclamping ∧ timerDue s.wsq.clampTimer then
      buildOutcome (enterFault .unclampSlow (some s.pressure) s)
    else s)

/-- R159: the TICK_10MS timer raises its activation, and its next period begins. -/
def captureTick (s : State) : State :=
  if s.ctx.isSome ∧ timerDue s.cap.tick then
    activate .tick10ms { s with cap := { s.cap with tick := s.cap.tick.map Timer.again } }
  else s

/-- R159: TICK_10MS. -/
def execTick10ms (s : State) : Host.Outcome State Fault Refusal := finish (captureTick s)

end Sys2Proof.Machine
end

