-- ==== Sys2Proof/Machine/Dispatch.lean ====
section
/-! DEFINITION. One arm per command: each is one direct call of its meaning. -/
namespace Sys2Proof.Machine

/-- The effect of a command on everything but the queue. -/
def exec (i : Instr) (s : State) : Host.Outcome State Fault Refusal :=
  match i with
  | .supplyReset wires => Sys2Proof.Machine.execSupplyReset wires s
  | .lineReset => Sys2Proof.Machine.execLineReset s
  | .lineResetRelease station side => Sys2Proof.Machine.execLineResetRelease station side s
  | .lineOkRise => Sys2Proof.Machine.execLineOkRise s
  | .lineOkFall => Sys2Proof.Machine.execLineOkFall s
  | .offlineExit => Sys2Proof.Machine.execOfflineExit s
  | .headStop => Sys2Proof.Machine.execHeadStop s
  | .headStopRelease => Sys2Proof.Machine.execHeadStopRelease s
  | .sample raw order => Sys2Proof.Machine.execSample raw order s
  | .sensorRange input => Sys2Proof.Machine.execSensorRange input s
  | .freezeNotice => Sys2Proof.Machine.execFreezeNotice s
  | .clampSlip => Sys2Proof.Machine.execClampSlip s
  | .planningMeasurement => Sys2Proof.Machine.execPlanningMeasurement s
  | .clampFail => Sys2Proof.Machine.execClampFail s
  | .contactEnd => Sys2Proof.Machine.execContactEnd s
  | .openEnd => Sys2Proof.Machine.execOpenEnd s
  | .noContact => Sys2Proof.Machine.execNoContact s
  | .windowEnd => Sys2Proof.Machine.execWindowEnd s
  | .backoffLimit => Sys2Proof.Machine.execBackoffLimit s
  | .tUcExpiry => Sys2Proof.Machine.execTUcExpiry s
  | .upsetLimit => Sys2Proof.Machine.execUpsetLimit s
  | .holdTick => Sys2Proof.Machine.execHoldTick s
  | .holdTimerExpiry => Sys2Proof.Machine.execHoldTimerExpiry s
  | .tensorSlow => Sys2Proof.Machine.execTensorSlow s
  | .unclampSlow => Sys2Proof.Machine.execUnclampSlow s
  | .tick10ms => Sys2Proof.Machine.execTick10ms s
  | .announceFrame bytes => Sys2Proof.Machine.execAnnounceFrame bytes s
  | .claimFrame bytes => Sys2Proof.Machine.execClaimFrame bytes s
  | .yieldFrame bytes => Sys2Proof.Machine.execYieldFrame bytes s
  | .weldStart bytes => Sys2Proof.Machine.execWeldStart bytes s
  | .weldStop bytes => Sys2Proof.Machine.execWeldStop bytes s
  | .setClosureCall bytes => Sys2Proof.Machine.execSetClosureCall bytes s
  | .letGoCall bytes => Sys2Proof.Machine.execLetGoCall bytes s
  | .unknownCallKind bytes => Sys2Proof.Machine.execUnknownCallKind bytes s
  | .answerFrame bytes => Sys2Proof.Machine.execAnswerFrame bytes s
  | .haltFrame bytes => Sys2Proof.Machine.execHaltFrame bytes s
  | .clearFrame bytes => Sys2Proof.Machine.execClearFrame bytes s
  | .duplicateStation bytes => Sys2Proof.Machine.execDuplicateStation bytes s
  | .rowStale station => Sys2Proof.Machine.execRowStale station s
  | .rowEmpty station => Sys2Proof.Machine.execRowEmpty station s
  | .announceTimer => Sys2Proof.Machine.execAnnounceTimer s
  | .attemptStart idleBits => Sys2Proof.Machine.execAttemptStart idleBits s
  | .attemptWon => Sys2Proof.Machine.execAttemptWon s
  | .attemptLost => Sys2Proof.Machine.execAttemptLost s
  | .callDeadline station => Sys2Proof.Machine.execCallDeadline station s
  | .settleTimerExpiry => Sys2Proof.Machine.execSettleTimerExpiry s
  | .backoffTimerExpiry => Sys2Proof.Machine.execBackoffTimerExpiry s
  | .shedTimerExpiry => Sys2Proof.Machine.execShedTimerExpiry s
  | .powerDenied => Sys2Proof.Machine.execPowerDenied s
  | .tensorTimeout => Sys2Proof.Machine.execTensorTimeout s
  | .tensorLost => Sys2Proof.Machine.execTensorLost s
  | .commitEnd ok => Sys2Proof.Machine.execCommitEnd ok s
  | .eraseEnd ok => Sys2Proof.Machine.execEraseEnd ok s
  | .scheduleWriteEnd ok => Sys2Proof.Machine.execScheduleWriteEnd ok s
  | .captureWriteEnd ok => Sys2Proof.Machine.execCaptureWriteEnd ok s
  | .loadBankA transfer => Sys2Proof.Machine.execLoadBankA transfer s
  | .loadBankB transfer => Sys2Proof.Machine.execLoadBankB transfer s
  | .loadCapture transfer => Sys2Proof.Machine.execLoadCapture transfer s
  | .beginStaging transfer => Sys2Proof.Machine.execBeginStaging transfer s
  | .endStaging transfer => Sys2Proof.Machine.execEndStaging transfer s
  | .selectRecord transfer => Sys2Proof.Machine.execSelectRecord transfer s
  | .readData transfer => Sys2Proof.Machine.execReadData transfer s
  | .readStatus transfer => Sys2Proof.Machine.execReadStatus transfer s
  | .readFaults transfer => Sys2Proof.Machine.execReadFaults transfer s
  | .clearFaults transfer => Sys2Proof.Machine.execClearFaults transfer s
  | .fetchDone => Sys2Proof.Machine.execFetchDone s
  | .readTransfer transfer => Sys2Proof.Machine.execReadTransfer transfer s
  | .clockLowTimeout => Sys2Proof.Machine.execClockLowTimeout s
  | .unknownCommandKind transfer => Sys2Proof.Machine.execUnknownCommandKind transfer s

end Sys2Proof.Machine
end

