-- ==== Sys2Proof/Safety.lean ====
section
/-! DEFINITION. What a safe run keeps, and the words the statements are written in. -/
namespace Sys2Proof.Machine

/-! ### What is left alone -/

/-- The wires, the service port, the count of free values and the queue of commands stand as they were. -/
structure SameOutside (s t : State) : Prop where
  pins      : t.pins = s.pins
  svp       : t.svp = s.svp
  freeCount : t.freeCount = s.freeCount
  pending   : t.pending = s.pending

/-- The straps, the peer view, the announce timer and the condition of R51 stand as they were; the outgoing queue, the
calls and the flags that go with them may change. -/
structure SameView (s t : State) : Prop where
  station       : t.lnp.station = s.lnp.station
  side          : t.lnp.side = s.lnp.side
  peers         : t.lnp.peers = s.lnp.peers
  announceTimer : t.lnp.announceTimer = s.lnp.announceTimer
  lineOkRisen   : t.lnp.lineOkRisen = s.lnp.lineOkRisen

/-- The weld context but for its trace-truncated mark, which any activation may set (R165). -/
def SameTruncated (c c' : WeldCtx) : Prop := c' = { c with truncated := c'.truncated }

/-- The capture program stands as it was, and so do the waiting program and the tick timer: activations write run states
and trace memory alone (R160). -/
structure SameProgram (s t : State) : Prop where
  program : t.cap.program = s.cap.program
  tick    : t.cap.tick = s.cap.tick
  waiting : t.cap.waiting = s.cap.waiting

/-! ### Bytes, as the layouts number them -/

/-- The byte at a place, 0 past the end. -/
def byteOf (bs : List Byte) (i : Nat) : Nat := (bs.getD i 0#8).toNat

/-- The two-byte field at a place, most significant byte first. -/
def wordOf (bs : List Byte) (i : Nat) : Nat := 256 * byteOf bs i + byteOf bs (i + 1)

/-- The four-byte field at a place, most significant byte first. -/
def longOf (bs : List Byte) (i : Nat) : Nat := 65536 * wordOf bs i + wordOf bs (i + 2)

/-- Fields laid out one after the other, each a width in bytes and a value, most significant byte first. -/
def fieldBytes (fields : List (Nat × Nat)) : List Byte :=
  fields.flatMap (fun x => (List.range x.1).map (fun i => BitVec.ofNat 8 (x.2 / 256 ^ (x.1 - 1 - i))))

/-- The remainder of a check after `n` more bits of zeros: the polynomial is taken off at each bit shifted out as 1, most
significant bit first (R144, R186). -/
def crcShifted {w : Nat} (poly : BitVec w) : Nat → BitVec w → BitVec w
  | 0, c => c
  | n + 1, c => crcShifted poly n (if c.msb then (c <<< 1) ^^^ poly else c <<< 1)

/-! ### A fault entered, and an abort -/

/-- R71: the fault list takes a kind: its count rises, up to 255; or it joins at the end, with count 1; or, with eight
entries of other kinds, the overflow mark is set. -/
structure FaultListed (kind : FaultKind) (phase : SeqState) (c c' : WeldCtx) : Prop where
  again : kind ∈ c.faults.map (·.kind) → c' = { c with faults := c.faults.map (fun e =>
    if e.kind = kind then { e with count := if e.count < 255 then e.count + 1 else e.count } else e) }
  first : kind ∉ c.faults.map (·.kind) → c.faults.length < 8 →
    c' = { c with faults := c.faults ++ [{ kind := kind, phase := phase, count := 1 }] }
  full  : kind ∉ c.faults.map (·.kind) → 8 ≤ c.faults.length → c' = { c with overflow := true }

/-- R71, R72: a fault of a weld is entered and nothing else is done: the list takes the kind with the sequencer state as
its phase, and the device fault log takes it. -/
structure Entered (kind : FaultKind) (input : Option Int) (s t : State) : Prop where
  listed  : ∃ c c', s.ctx = some c ∧ t.ctx = some c' ∧ SameTruncated (c.addFault kind s.wsq.seq).1 c'
    ∧ t.rst = { s.rst with
        log := s.rst.log.file
          { kind := kind, state := s.wsq.seq, weldNumber := some c.weldNumber, input := input } }
  wsq     : t.wsq = s.wsq
  mfe     : t.mfe = s.mfe
  frg     : t.frg = s.frg
  clu     : t.clu = s.clu
  tnl     : t.tnl = s.tnl
  view    : SameView s t
  program : SameProgram s t
  outside : SameOutside s t

/-- R66, R68: what an abort leaves: the fault entered, the abort kind set, STOPPING entered, the outputs safe and the
clamps opening, the claim given back, the tensor's watch ended, the clamp timer started, and every timer of the FRG and
of the upset stopped. The burn of a preheat is written (R82; log 48 for GATE_WAIT). With room in the queue a claim held or
asked for is given back by a YIELD (R127), and a tensor that has accepted is called with LET_GO (R68, R140); a SET_CLOSURE
still out becomes the release owed (R141). The log may take a LINE_FAULT after the fault, for a frame that found the queue
full (R148). -/
structure Aborted (kind : FaultKind) (input : Option Int) (s t : State) : Prop where
  context : ∃ c c', s.ctx = some c ∧ t.ctx = some c'
    ∧ SameTruncated { (c.addFault kind s.wsq.seq).1 with
        abortKind := some kind
        progress := if s.wsq.seq = .preheat then
            { c.progress with preheatBurn := (s.position - s.frg.preheatEntry).toNat }
          else c.progress } c'
    ∧ (s.rst.log.first = none → t.rst.log.first =
        some { kind := kind, state := s.wsq.seq, weldNumber := some c.weldNumber, input := input })
  logged  : ∀ f, s.rst.log.first = some f → t.rst.log.first = some f
  store   : t.rst = { s.rst with log := t.rst.log }
  wsq     : t.wsq = { s.wsq with
    seq := .stopping, stroke := .none, upsetTimer := none, clampTimer := some { length := 5000, elapsed := 0 } }
  mfe     : t.mfe = { s.mfe with
    set := { current := 0, velocity := 0, force := 0, clamp := .opn }
    driven := { s.mfe.driven with current := 0 }
    slip := 0, stall := [] }
  frg     : t.frg = { s.frg with
    approachTimer := none, contactTimer := none, openTimer := none, gateTimer := none, windowTimer := none
    backoff := none }
  step    : t.clu.step = .idle
  claim   : s.clu.step ≠ .idle → s.clu.step ≠ .waiting → s.clu.step ≠ .backoff → t.clu.ownClaim = 0
  claimed : s.clu.step = .idle → t.clu = s.clu
  watch   : t.tnl.watch = .none
  wait    : t.tnl.tensorWait = none
  waiting : t.tnl.closureWaiting = false
  taken   : t.tnl.closureAccepted = s.tnl.closureAccepted
  yielded : ∀ c, s.ctx = some c → s.clu.step ≠ .idle → s.clu.step ≠ .waiting → s.clu.step ≠ .backoff →
    s.wsq.silence = false → s.lnp.queue.length < 7 → .yieldClaim c.weldNumber ∈ t.lnp.queue
  letGo   : ∀ c p, s.ctx = some c → c.pair = some p → s.tnl.closureAccepted = true → s.wsq.silence = false →
    s.lnp.calls = [] → s.lnp.queue.length < 6 →
    .call p s.lnp.nextCall (.letGo c.weldNumber) ∈ t.lnp.queue
    ∧ t.lnp.calls = [{ dest := p, number := s.lnp.nextCall, closure := false, deadline := none }]
    ∧ t.tnl.call = some { closure := false, dest := p, weldNumber := c.weldNumber, number := some s.lnp.nextCall }
  noLetGo : s.tnl.closureAccepted = false ∨ s.wsq.silence = true →
    t.tnl.call = s.tnl.call ∧ t.lnp.calls = s.lnp.calls ∧ t.lnp.held = s.lnp.held
  owed    : t.tnl.owed = match s.tnl.owed, s.tnl.call with
    | none, some k =>
      if k.closure = true ∧ s.tnl.closureWaiting = false then some { station := k.dest, weldNumber := k.weldNumber } else none
    | o, _ => o
  view    : SameView s t
  program : SameProgram s t
  outside : SameOutside s t

/-! ### Frames and transfers that are acted on -/

/-- R144, R145: the controller takes the bytes as a frame from station `source` with this body: LINE_OK is high, no reset
is held, it is not in OFFLINE and not sending, and the frame passes every test. -/
structure FrameTaken (bytes : List Byte) (source : Nat) (body : RxBody) (s : State) : Prop where
  lineOk     : s.pins.lineOk = true
  notReset   : s.pins.lineReset = false
  notOffline : s.wsq.seq ≠ .offline
  notSending : s.lnp.attempt = none
  other      : 1 ≤ source ∧ source ≤ 14 ∧ source ≠ s.lnp.station
  frame      : ∃ f, parseFrame bytes = some f ∧ f.source = source ∧ rxBody f = some body
    ∧ (f.dest ≠ 0 ∧ f.dest = s.lnp.station ∨ f.dest = 0 ∧ body.needsOwnDest = false)

/-- R185 to R187, R190: the port takes the bytes as a write transfer that carries this command: it is addressed, no reset
is held, the clock was not held low for 25 ms, the port is not busy, and the four checks pass. -/
structure TransferTaken (t : WriteTransfer) (c : SvpCommand) (s : State) : Prop where
  notReset  : s.pins.lineReset = false
  addressed : writeAddressed t.bytes = true
  inTime    : t.clockLow < 25
  notBusy   : s.svp.busy = .none
  command   : parseCommand t.bytes = some c
  passes    : commandPasses c = true

/-- The port after it has taken a transfer, before the command acts (log 26, log 32). -/
def State.portTaken (clockLow : Nat) (s : State) : State :=
  { s with svp := { s.svp with answer := .taken, clockLow := clockLow } }

/-! ### Samples and rows -/

/-- The order of a sample names no notice: the sample takes what it finds, and every notice waits for its own command
(log 9, log 33). -/
def NoNotices (order : SampleOrder) : Prop := ∀ f ∈ order, f = .stall ∨ f = .limit ∨ f = .phase

/-- R66, R68: an abort taken in a sample, before anything else the sample finds: whatever follows it at that sample, the
weld stands in STOPPING with this abort kind, the outputs safe, the clamps opening and their 5 s running. -/
structure SampleAborted (kind : FaultKind) (input : Option Int) (s t : State) : Prop where
  context : ∃ c c', s.ctx = some c ∧ t.ctx = some c' ∧ c'.abortKind = some kind
    ∧ (c'.overflow = true ∨ kind ∈ c'.faults.map (·.kind)) ∧ c'.phaseReached = c.phaseReached
    ∧ (s.rst.log.first = none → t.rst.log.first =
        some { kind := kind, state := s.wsq.seq, weldNumber := some c.weldNumber, input := input })
  seq     : t.wsq.seq = .stopping
  clamps  : t.wsq.clampTimer = some { length := 5000, elapsed := 0 }
  outputs : t.mfe.set = { current := 0, velocity := 0, force := 0, clamp := .opn }
  driven  : t.mfe.driven.current = 0
  backoff : t.frg.backoff = none
  window  : t.frg.windowTimer = none
  claim   : t.clu.step = .idle

/-- R69: a kind taken in STOPPING at the sample that aborted the weld with another: it is entered with phase STOPPING, or
as one more of its kind, unless the list overflows. -/
def ListedLate (kind : FaultKind) (c : WeldCtx) (t : State) : Prop :=
  ∃ c', t.ctx = some c' ∧ (c'.overflow = true
    ∨ ∃ e ∈ c'.faults, e.kind = kind ∧ (e.phase = .stopping ∨ kind ∈ c.faults.map (·.kind)))

/-- R98 to R101: what a sample leaves that enters UPSET short of the end of the stroke, with `p` the progress it had
worked: the entry position, the stroke and its timer, the outputs, the gate evaluated once, and heat over at once where
t_uc is 0. -/
structure UpsetBegun (c : WeldCtx) (p : Progress) (s t : State) : Prop where
  context : ∃ c', t.ctx = some c' ∧ c'.phaseReached = .upset
    ∧ c'.progress = { p with upsetDistance := 0, peakForce := (t.input .force).toNat }
    ∧ (c.mode = .tensioned → s.gateHolds = false →
        c'.abortKind = c.abortKind ∧ (c'.overflow = true ∨ .tensorLost ∈ c'.faults.map (·.kind)))
    ∧ (c.mode = .free ∨ s.gateHolds = true → c'.faults = c.faults)
  seq     : t.wsq.seq = .upset
  stroke  : t.wsq.stroke = .stroke
  entry   : t.wsq.upsetEntry = t.position
  timer   : t.wsq.upsetTimer = some { length := 2000, elapsed := 0 }
  heat    : t.wsq.tucExpired = decide ((s.bank c.bank).image.tUc = 0)
  outputs : t.mfe.set =
    { current := if (s.bank c.bank).image.tUc = 0 then 0 else (s.bank c.bank).image.iUpset * c.share / 1000
      velocity := (s.bank c.bank).image.vUp, force := 0, clamp := .keep }
  window  : t.frg.windowTimer = none
  watch   : c.mode = .tensioned → t.tnl.watch = .none
  claim   : (s.bank c.bank).image.tUc = 0 → t.clu.step = .idle

/-- R106, R107: what HOLD begins with, entered by the weld `c`: hold elapsed at 0, the hold timer of t_h, the force F_h, and
the upset timer stopped (log 49). In TENSIONED mode the gate is evaluated once and watched on; where it is not met HOLD_BROKEN
is entered with phase HOLD, the last fault the command files, and the hold-broken mark is set. In FREE mode nothing is
evaluated. -/
structure HoldBegun (c : WeldCtx) (s t : State) : Prop where
  seq     : t.wsq.seq = .hold
  timer   : t.wsq.holdTimer = some { length := (s.bank c.bank).image.tH * 1000, elapsed := 0 }
  stopped : t.wsq.upsetTimer = none
  outputs : t.mfe.set = { current := 0, velocity := 0, force := (s.bank c.bank).image.fH, clamp := .keep }
  context : ∃ c', t.ctx = some c' ∧ c'.phaseReached = .hold ∧ c'.progress.holdElapsed = 0 ∧ c'.abortKind = c.abortKind
    ∧ (c.mode = .tensioned → s.gateHolds = false →
      (c'.overflow = true ∨ .holdBroken ∈ c'.faults.map (·.kind))
      ∧ (.holdBroken ∉ c.faults.map (·.kind) → ∀ e ∈ c'.faults, e.kind = .holdBroken → e.phase = .hold ∧ e.count = 1))
    ∧ (c.mode = .free ∨ s.gateHolds = true → ∀ e ∈ c'.faults, e.kind = .holdBroken → e ∈ c.faults)
  broken  : c.mode = .tensioned →
    t.wsq.holdBroken = !s.gateHolds ∧ t.tnl.watch = .hold ∧ t.tnl.gateMet = s.gateHolds
  logged  : c.mode = .tensioned → s.gateHolds = false → ∃ log : FaultLog, t.rst.log = log.file
    { kind := .holdBroken, state := .hold, weldNumber := some c.weldNumber, input := s.pairedForce }
  whole   : c.mode = .free →
    t.wsq.holdBroken = false ∧ t.tnl.watch = s.tnl.watch ∧ t.tnl.gateMet = s.tnl.gateMet

/-- R98 to R104: what a sample leaves that enters UPSET and ends the stroke there and then, with `p` the progress it had
worked: the upset distance 0 and the force of this sample frozen, TENSOR_LOST for a gate that is not met, UPSET_SHORT for a
stroke that ended on force and so short of d_u_min, and HOLD at once where t_uc is 0. -/
structure UpsetEndedAtOnce (c : WeldCtx) (p : Progress) (s t : State) : Prop where
  context : ∃ c', t.ctx = some c' ∧ c'.abortKind = c.abortKind
    ∧ c'.phaseReached = (if (s.bank c.bank).image.tUc = 0 then .hold else .upset)
    ∧ c'.progress = { p with
        upsetDistance := 0, peakForce := (t.input .force).toNat
        holdElapsed := if (s.bank c.bank).image.tUc = 0 then 0 else p.holdElapsed }
    ∧ (c.mode = .tensioned → s.gateHolds = false → c'.overflow = true ∨ .tensorLost ∈ c'.faults.map (·.kind))
    ∧ (0 < (s.bank c.bank).image.dU → 0 < (s.bank c.bank).image.dUMin →
        c'.overflow = true ∨ .upsetShort ∈ c'.faults.map (·.kind))
    ∧ (c.mode = .free ∨ s.gateHolds = true → (s.bank c.bank).image.dU = 0 ∨ (s.bank c.bank).image.dUMin = 0 →
        c'.faults = c.faults)
  window  : t.frg.windowTimer = none
  goesOn  : 0 < (s.bank c.bank).image.tUc → t.wsq.seq = .upset ∧ t.wsq.stroke = .ended ∧ t.wsq.tucExpired = false
    ∧ t.wsq.upsetEntry = t.position ∧ t.wsq.upsetTimer = some { length := 2000, elapsed := 0 }
    ∧ t.mfe.set = { current := (s.bank c.bank).image.iUpset * c.share / 1000, velocity := 0, force := 0, clamp := .keep }
    ∧ (c.mode = .tensioned → t.tnl.watch = .none)
  held    : (s.bank c.bank).image.tUc = 0 → HoldBegun c s t ∧ t.clu.step = .idle

/-- R153, R154: the command changes the row of a station to this one: an ANNOUNCE, a CLAIM or a YIELD taken from it, or
its age (log 2 for the sample at which an age is reached). -/
inductive RowChange (s : State) (n : Nat) : PeerRow → Instr → Prop
  | announce (bytes : List Byte) (side : Option Side) (role : RoleData) (h : FrameTaken bytes n (.announce side role) s) :
    RowChange s n (.heard true side 0 role) (.announceFrame bytes)
  | claim (bytes : List Byte) (live : Bool) (side : Option Side) (age state old amount : Nat)
    (h : FrameTaken bytes n (.claim amount) s) (row : s.row n = .heard live side age (.head state old)) :
    RowChange s n (.heard live side age (.head state amount)) (.claimFrame bytes)
  | yieldClaim (bytes : List Byte) (live : Bool) (side : Option Side) (age state old : Nat)
    (h : FrameTaken bytes n .yieldClaim s) (row : s.row n = .heard live side age (.head state old)) :
    RowChange s n (.heard live side age (.head state 0)) (.yieldFrame bytes)
  | stale (station : BitVec 4) (side : Option Side) (age : Nat) (role : RoleData) (h : station.toNat = n)
    (row : s.row n = .heard true side age role) (old : 200 ≤ age + 1) :
    RowChange s n (.heard false side age role) (.rowStale station)
  | gone (station : BitVec 4) (live : Bool) (side : Option Side) (age : Nat) (role : RoleData) (h : station.toNat = n)
    (row : s.row n = .heard live side age role) (old : 2000 ≤ age + 1) :
    RowChange s n .empty (.rowEmpty station)

/-- R113, R153: the row of a station is this one, and where it was or is a POWER row, Q in force is worked afresh: the sum
of the offers while a POWER row is LIVE, the last value while one is STALE, and 0 when none is heard. -/
def State.withRow (n : Nat) (r : PeerRow) (s : State) : State :=
  let peers := s.lnp.peers.set (n - 1) r
  let q :=
    if peers.any (fun x => x.isPower && x.isLive) then (peers.map PeerRow.offer).sum
    else if peers.any PeerRow.isPower then s.clu.qInForce
    else 0
  { s with
    lnp := { s.lnp with peers := peers }
    clu := { s.clu with qInForce := if (s.row n).isPower || r.isPower then q else s.clu.qInForce } }

/-! ### Claims -/

/-- R116, R117: the decision on entry to POWER, for the weld `c`. The claim wait starts; the room is Q in force less the
others' claims with a POWER row LIVE and 0 without; D is claimed if it fits, the room itself from D_min on, and a smaller
room is waited on. A claim is set and its CLAIM queued, where the queue has room; one of a silenced head is taken as sent
(log 23). -/
structure ClaimDecided (c : WeldCtx) (s t : State) : Prop where
  wait    : t.clu.claimWait = some { length := (s.bank c.bank).image.claimWait * 1000, elapsed := 0 }
  room    : t.clu.room = if ∃ r ∈ s.lnp.peers, r.isPower = true ∧ r.isLive = true then
      (s.clu.qInForce : Int) - (s.lnp.peers.map PeerRow.claim).sum else 0
  whole   : (c.demand : Int) ≤ t.clu.room → t.clu.ownClaim = c.demand
  part    : t.clu.room < c.demand → (c.dMin : Int) ≤ t.clu.room → (t.clu.ownClaim : Int) = t.clu.room
  waits   : t.clu.room < c.demand → t.clu.room < c.dMin → t.clu.step = .waiting ∧ t.clu.ownClaim = s.clu.ownClaim
  sends   : (c.demand : Int) ≤ t.clu.room ∨ (c.dMin : Int) ≤ t.clu.room → s.wsq.silence = false → t.clu.step = .sending
  queued  : (c.demand : Int) ≤ t.clu.room ∨ (c.dMin : Int) ≤ t.clu.room → s.wsq.silence = false →
    s.lnp.queue.length < 7 → .claim t.clu.ownClaim c.weldNumber t.clu.serial ∈ t.lnp.queue
  silent  : (c.demand : Int) ≤ t.clu.room ∨ (c.dMin : Int) ≤ t.clu.room → s.wsq.silence = true →
    t.clu.step = .settling ∧ t.clu.settleTimer = some { length := 30, elapsed := 0 } ∧ t.lnp.queue = s.lnp.queue

/-! ### Calls -/

/-- R150, R151: one call is outstanding, to this station and waiting for its ANSWER; it is the tensor call of the TNL, no
call is held, and no SET_CLOSURE waits for it to be freed. -/
structure CallAwaits (station : Nat) (r : CallRecord) (k : TensorCall) (s : State) : Prop where
  calls    : s.lnp.calls = [r]
  dest     : r.dest = station
  deadline : r.deadline.isSome = true
  held     : s.lnp.held = none
  call     : s.tnl.call = some k
  own      : k.dest = station
  waiting  : s.tnl.closureWaiting = false

/-! ### What an activation writes -/

/-- R164: the merge test of a value: the last entry of its channel still stands at its location, is this descriptor's and
this channel's, holds the same value, and has a run below 128. -/
def MergesInto (d : Nat) (run : RunState) (m : Memory) (ch : Channel) (v : Int) (loc : Nat) (e : TraceEntry) : Prop :=
  run.last.lookup ch = some loc ∧ m.read loc = some e ∧ e.desc = d ∧ e.channel = ch ∧ e.value = v ∧ e.run < 128

/-- R164, R165: the run state after a new entry of a channel: the write position steps on, back to the start of a RING
past the last location of the segment, and the entry is the channel's last. -/
def steppedRun (desc : Descriptor) (ch : Channel) (run : RunState) : RunState :=
  let inside : Bool := decide (run.pos + 1 < desc.start + desc.length)
  { run with
    pos := if inside then run.pos + 1 else if desc.ring then desc.start else run.pos
    full := run.full || !inside
    wrapped := run.wrapped || (desc.ring && !inside)
    last := (ch, run.pos) :: run.last.filter (fun x => x.1 != ch) }

/-- R164, R165: one value of a channel is written by descriptor `d`: merged into its last entry, as a new entry, or lost
for want of room in a ONCE segment. The last three arguments are the run state and the trace memory after it, and whether
the value was lost. -/
inductive ValueWritten (desc : Descriptor) (d : Nat) (run : RunState) (m : Memory) (ch : Channel) (v : Int) :
    RunState → Memory → Bool → Prop
  | merged (loc : Nat) (e : TraceEntry) (m' : Memory) (test : MergesInto d run m ch v loc e)
    (here : m'.read loc = some { e with run := e.run + 1 }) (others : ∀ l, l ≠ loc → m'.read l = m.read l)
    (form : m'.wf = true) : ValueWritten desc d run m ch v run m' false
  | entered (m' : Memory) (test : ∀ loc e, ¬MergesInto d run m ch v loc e) (room : desc.ring = true ∨ run.full = false)
    (here : run.pos < 8192 → m'.read run.pos = some { desc := d, channel := ch, value := v, run := 1 })
    (others : ∀ l, l ≠ run.pos → m'.read l = m.read l) (form : m'.wf = true) :
    ValueWritten desc d run m ch v (steppedRun desc ch run) m' false
  | lost (test : ∀ loc e, ¬MergesInto d run m ch v loc e) (once : desc.ring = false) (full : run.full = true) :
    ValueWritten desc d run m ch v run m true

/-- R164: the values of a channel list are written one after the other, in list order. -/
inductive ValuesWritten (desc : Descriptor) (d : Nat) :
    RunState → Memory → List (Channel × Int) → RunState → Memory → Bool → Prop
  | done (run : RunState) (m : Memory) : ValuesWritten desc d run m [] run m false
  | next (run run1 run2 : RunState) (m m1 m2 : Memory) (ch : Channel) (v : Int) (rest : List (Channel × Int))
    (l1 l2 : Bool) (first : ValueWritten desc d run m ch v run1 m1 l1)
    (others : ValuesWritten desc d run1 m1 rest run2 m2 l2) :
    ValuesWritten desc d run m ((ch, v) :: rest) run2 m2 (l1 || l2)

/-- R165: the remaining count falls by 1 when the list is written. At its end a RING takes its reload count and forgets
its last entries, and a ONCE descriptor is spent; so is one whose segment is full, and then the trace is cut short. The
last two arguments are the run state after it and whether the trace is marked as truncated. -/
inductive Counted (desc : Descriptor) (run : RunState) (lost : Bool) : RunState → Bool → Prop
  | ring (mode : desc.ring = true) :
    Counted desc run lost
      (if run.remaining - 1 = 0 then { run with remaining := desc.reload, last := [] }
        else { run with remaining := run.remaining - 1 }) lost
  | once (mode : desc.ring = false) :
    Counted desc run lost
      { run with remaining := run.remaining - 1, spent := decide (run.remaining - 1 = 0) || run.full }
      (lost || (run.full && decide (run.remaining - 1 ≠ 0)))

/-- R164 to R166: descriptor `d` is run on an activation: a spent one writes nothing, and another writes its list with the
values as they stand, counts, and changes nothing else. -/
inductive DescriptorRun (d : Nat) (desc : Descriptor) (s : State) : State → Prop
  | spent (h : (s.cap.runs.getD d {}).spent = true) : DescriptorRun d desc s s
  | ran (run after : RunState) (m : Memory) (lost truncated : Bool) (fresh : (s.cap.runs.getD d {}).spent = false)
    (written : ValuesWritten desc d (s.cap.runs.getD d {}) s.cap.memory
      (desc.channels.map (fun ch => (ch, s.channelValue ch))) run m lost)
    (counted : Counted desc run lost after truncated) :
    DescriptorRun d desc s { s with
      cap := { s.cap with runs := s.cap.runs.set d after, memory := m }
      ctx := s.ctx.map (fun c => { c with truncated := c.truncated || truncated }) }

/-- R166: the descriptors of a chain are run one after the other, each once on an activation. The second argument holds
those already run. -/
inductive ChainRun : Nat → List Nat → State → State → Prop
  | again (d : Nat) (seen : List Nat) (s : State) (h : d ∈ seen) : ChainRun d seen s s
  | unused (d : Nat) (seen : List Nat) (s : State) (h : s.cap.program.descriptors.getD d none = none) : ChainRun d seen s s
  | last (d : Nat) (desc : Descriptor) (seen : List Nat) (s t : State) (h : s.cap.program.descriptors.getD d none = some desc)
    (new : d ∉ seen) (chain : desc.chain = none) (run : DescriptorRun d desc s t) : ChainRun d seen s t
  | next (d d' : Nat) (desc : Descriptor) (seen : List Nat) (s u t : State)
    (h : s.cap.program.descriptors.getD d none = some desc) (new : d ∉ seen) (chain : desc.chain = some d')
    (run : DescriptorRun d desc s u) (rest : ChainRun d' (d :: seen) u t) : ChainRun d seen s t

/-- R162, R168: every used descriptor stands at its start: the write position at the segment's start, the remaining count
at the reload count, the marks clear and no last entries. -/
def FreshRuns (c : Cap) : Prop :=
  ∀ d, c.runs.getD d {} = match c.program.descriptors.getD d none with
    | some x => { pos := x.start, remaining := x.reload, spent := false, full := false, wrapped := false, last := [] }
    | none => { pos := 0, remaining := 0, spent := false, full := false, wrapped := false, last := [] }

/-- R168: the locations of a segment, oldest first: round from the write position where the ring has wrapped, and else
those below the write position, with that position itself where the full mark is set. -/
def segmentOrder (desc : Descriptor) (r : RunState) : List Nat :=
  if r.wrapped then (List.range desc.length).map (fun i => desc.start + (r.pos - desc.start + i) % desc.length)
  else ((List.range desc.length).map (fun i => desc.start + i)).filter (fun l => l < r.pos || (r.full && l == r.pos))

/-- R168: what is handed over at the outcome: of each descriptor with keep, in index order, the entries of its own index in
its segment, oldest first. -/
def keptEntries (c : Cap) : List TraceEntry :=
  (List.range 24).flatMap (fun d =>
    match c.program.descriptors.getD d none with
    | some x => if x.keep then
        (segmentOrder x (c.runs.getD d {})).filterMap (fun l => (c.memory.read l).filter (fun e => e.desc = d)) else []
    | none => [])

/-! ### The weld record and the store -/

/-- R175: the fields of a record that stand in the weld context as the outcome finds them. -/
structure RecordOf (c : WeldCtx) (side : Side) (w : WeldRecord) : Prop where
  identity : w.weldNumber = c.weldNumber ∧ w.workRef = c.workRef ∧ w.bank = c.bank ∧ w.side = side ∧ w.mode = c.mode
    ∧ w.pair = c.pair
  order    : w.pulled = c.pulled ∧ w.tN = c.tN
  plan     : w.tR = c.plan.tR ∧ w.g0 = c.plan.g0 ∧ w.p = c.plan.p ∧ w.fReq = c.plan.fReq ∧ w.bAdj = c.plan.bAdj
  burns    : w.preheatBurn = c.progress.preheatBurn ∧ w.flashBurn = c.progress.flashBurn
    ∧ w.boostBurn = c.progress.boostBurn
  upset    : w.upsetDistance = c.progress.upsetDistance ∧ w.peakForce = c.progress.peakForce
  counts   : w.contacts = c.progress.contactsDone ∧ w.freezes = c.progress.freezeCount
    ∧ w.flashTime = c.progress.flashTime
  share    : w.share = c.share
  outcome  : w.phaseReached = c.phaseReached ∧ w.abortKind = c.abortKind

/-- R71, R72: the weld fault list takes a kind with a phase, FAULT is raised where an entry was added or a count rose, and the
device fault log takes the kind; an ANNOUNCE may be asked for (R146), and nothing else changes. -/
def KindEntered (kind : FaultKind) (phase : SeqState) (input : Option Int) (s t : State) : Prop :=
  ∃ c, s.ctx = some c ∧
    let listed : State := { s with ctx := some (c.addFault kind phase).1 }
    let u := if (c.addFault kind phase).2 then activate .fault listed else listed
    t = { u with
      rst := { u.rst with
        log := u.rst.log.file { kind := kind, state := s.wsq.seq, weldNumber := some c.weldNumber, input := input } }
      lnp := t.lnp }
    ∧ t.lnp.peers = s.lnp.peers

/-- What the capture reads in a weld (R163): two states show it the same, but for what stands in the weld context. -/
structure SameReadings (s t : State) : Prop where
  inputs   : t.mfe.inputs = s.mfe.inputs
  velocity : t.mfe.driven.velocity = s.mfe.driven.velocity
  energy   : t.mfe.energy = s.mfe.energy
  rate     : t.frg.lastRate = s.frg.lastRate
  corrK    : t.frg.corrK = s.frg.corrK
  claim    : t.clu.ownClaim = s.clu.ownClaim

/-- R73, R111, R168, R174 to R176: the outcome built on the state `v` of a weld of the schedule `k`, with `p` the pending slot
after it. First the energy figure is written, and ENERGY_RANGE entered; then T_a is written, and NEUTRAL_OFF entered; both with
the phase reached. Then the verdict is set and WELD_END raised. The record takes the faults, the marks and the kept trace as
they then stand, cut at 1900 entries. -/
structure OutcomeBuilt (k : Schedule) (v t : State) (p : Slot) : Prop where
  worked : ∃ (c c' : WeldCtx) (v1 v2 v3 : State), v.ctx = some c
    ∧ (let e := min (v.mfe.energy / 10 ^ 6) 999999
      let w1 : State := { v with ctx := some { c with progress := { c.progress with energy := e } } }
      let w2 : State := { v1 with ctx := v1.ctx.map (fun x => { x with plan := { x.plan with tA := achievedNeutral k c } }) }
      let off : Prop := ∃ tA, achievedNeutral k c = some tA ∧ k.tauN < (tA - c.tN).natAbs
      p.record.energy = e
      ∧ p.record.tA = achievedNeutral k c
      ∧ (c.heatBegan = true → e < k.eMin ∨ k.eMax < e → KindEntered .energyRange c.phaseReached none w1 v1)
      ∧ (c.heatBegan = false ∨ (k.eMin ≤ e ∧ e ≤ k.eMax) → v1 = w1)
      ∧ (off → KindEntered .neutralOff c.phaseReached (achievedNeutral k c) w2 v2)
      ∧ (¬off → v2 = w2))
    ∧ v2.ctx = some c'
    ∧ v3 = activate .weldEnd { v2 with ctx := some { c' with verdict := some (verdictOf c') } }
    ∧ p.record.verdict = some (verdictOf c')
    ∧ p.record.faults = c'.faults ∧ p.record.overflow = c'.overflow
    ∧ t.rst.log = v2.rst.log
    ∧ p.record.trace = v3.cap.kept.take 1900
    ∧ (p.record.truncated = true ↔ (∃ x, v3.ctx = some x ∧ x.truncated = true) ∨ 1900 < v3.cap.kept.length)
    ∧ (v.cap.waiting = none → t.cap = { v3.cap with tick := none })
    ∧ (∀ q, v.cap.waiting = some q → t.cap.program = q ∧ t.cap.waiting = none ∧ t.cap.memory = [] ∧ t.cap.tick = none
      ∧ FreshRuns t.cap)

/-- R177: the target block is the first that is not BAD in ring order from the write position. -/
def TargetIs (r : Rst) (n : Nat) : Prop :=
  ∃ i, i < 32 ∧ n = (r.writePos + i) % 32 ∧ r.block n ≠ .bad ∧ ∀ j, j < i → r.block ((r.writePos + j) % 32) = .bad

/-- R178: a record that waits begins its commit when the target block is ERASED; one in PROGRAMMING goes on. -/
def CommitTested (programming : Bool) (t : State) (q : Slot) : Prop :=
  q.programming = true ↔ programming = true ∨ ∃ n, TargetIs t.rst n ∧ t.rst.block n = .erased

/-- R179: the erase-ahead condition as it has just been tested, with `before` the erase in progress: an erase in progress
runs on; with none, a target block that is HELD begins its erase. -/
structure EraseTested (before : Option Nat) (t : State) : Prop where
  runs   : ∀ n, before = some n → t.rst.erase = some n
  begins : before = none → ∀ n, t.rst.erase = some n ↔ TargetIs t.rst n ∧ ∃ r, t.rst.block n = .held r

/-! ### The figures of a schedule and of a capture program -/

/-- R18 to R23: the field of index `i` lies in its range, and the pairing condition that is its own holds. -/
def FieldFits (k : Schedule) (i : Nat) : Prop :=
  match i with
  | 1 => 5000 ≤ k.area ∧ k.area ≤ 9000
  | 2 => 1000 ≤ k.alpha ∧ k.alpha ≤ 1300
  | 3 => 10 ≤ k.tauG ∧ k.tauG ≤ 300
  | 4 => 5 ≤ k.tauN ∧ k.tauN ≤ 50
  | 5 => 200 ≤ k.fLim ∧ k.fLim ≤ 1500
  | 6 => 10 ≤ k.tauF ∧ k.tauF ≤ 200
  | 7 => 50 ≤ k.workingGap ∧ k.workingGap ≤ 500
  | 8 => 50 ≤ k.clampMin ∧ k.clampMin ≤ 350
  | 9 => 5 ≤ k.openThreshold ∧ k.openThreshold ≤ 50 ∧ k.openThreshold < k.clampMin
  | 10 => k.nPre ≤ 30
  | 11 => k.pattern = 0 ∨ k.pattern = 1 ∨ k.pattern = 2
  | 12 => 100 ≤ k.tC ∧ k.tC ≤ 3000
  | 13 => 100 ≤ k.tO ∧ k.tO ≤ 5000
  | 14 => 2 ≤ k.groupG ∧ k.groupG ≤ 8
  | 15 => 100 ≤ k.tR ∧ k.tR ≤ 10000
  | 16 => 100 ≤ k.iPre ∧ k.iPre ≤ 1000
  | 17 => 10 ≤ k.iContact ∧ k.iContact ≤ 11999
  | 18 => 5 ≤ k.vApp ∧ k.vApp ≤ 300
  | 19 => 5 ≤ k.dOpen ∧ k.dOpen ≤ 200
  | 20 => k.cPre ≤ 1000
  | 21 => 20 ≤ k.rC ∧ k.rC ≤ 250
  | 22 => 1 ≤ k.bandwidth ∧ k.bandwidth ≤ 6
  | 23 => 3 ≤ k.unstableLimit ∧ k.unstableLimit ≤ 20
  | 24 => 1 ≤ k.stepS ∧ k.stepS ≤ 20
  | 25 => k.kLim ≤ 100
  | 26 => 5 ≤ k.vS ∧ k.vS ≤ 300
  | 27 => 5 ≤ k.vE ∧ k.vE ≤ 300
  | 28 => 300 ≤ k.bMin ∧ k.bMin ≤ 2000
  | 29 => 300 ≤ k.bF ∧ k.bF ≤ 2000 ∧ k.bMin ≤ k.bF
  | 30 => 300 ≤ k.bMax ∧ k.bMax ≤ 2000 ∧ k.bF ≤ k.bMax
  | 31 => 100 ≤ k.iFlash ∧ k.iFlash ≤ 1000
  | 32 => 50 ≤ k.vShort ∧ k.vShort ≤ 300
  | 33 => 10 ≤ k.iShort ∧ k.iShort ≤ 11999
  | 34 => 10 ≤ k.tFz ∧ k.tFz ≤ 100
  | 35 => 5 ≤ k.dB ∧ k.dB ≤ 200
  | 36 => k.freezeLimit ≤ 10
  | 37 => 1000 ≤ k.strokeLimit ∧ k.strokeLimit ≤ 15000
  | 38 => k.dBoost ≤ 500
  | 39 => 5 ≤ k.vBoost ∧ k.vBoost ≤ 300
  | 40 => 100 ≤ k.iBoost ∧ k.iBoost ≤ 1000
  | 41 => 1000 ≤ k.vUp ∧ k.vUp ≤ 5000
  | 42 => 200 ≤ k.dU ∧ k.dU ≤ 2000
  | 43 => 100 ≤ k.dUMin ∧ k.dUMin ≤ k.dU
  | 44 => 100 ≤ k.fUpMax ∧ k.fUpMax ≤ 1500
  | 45 => k.tUc ≤ 2000
  | 46 => k.iUpset ≤ 1000
  | 47 => 50 ≤ k.fH ∧ k.fH ≤ 1500 ∧ k.fH ≤ k.fUpMax
  | 48 => 10 ≤ k.tH ∧ k.tH ≤ 300
  | 49 => 50 ≤ k.demand ∧ k.demand ≤ 1500
  | 50 => 25 ≤ k.dMin ∧ k.dMin ≤ k.demand
  | 51 => 1 ≤ k.claimWait ∧ k.claimWait ≤ 60
  | 52 => 5 ≤ k.tensorWait ∧ k.tensorWait ≤ 120
  | 53 => k.eMin ≤ 999999
  | 54 => k.eMin ≤ k.eMax ∧ k.eMax ≤ 999999
  | _ => True

/-- R25, R171: `r` is the lowest number from 1 to `last` whose field is not good, and none where all are good. -/
def LowestBad (good : Nat → Bool) (last : Nat) (r : Option Nat) : Prop :=
  ∀ n, r = some n ↔ 1 ≤ n ∧ n ≤ last ∧ good n = false ∧ ∀ m, 1 ≤ m → m < n → good m = true

/-- R171: an index byte is 255, or names a descriptor whose channel count byte is not 0. -/
def NamesUsed (image : List Byte) (v : Nat) : Prop := v = 255 ∨ (v < 24 ∧ byteOf image (12 + 14 * v) ≠ 0)

/-- R170, R171: the field of number `n` of a capture program image of 348 bytes is good. Descriptor `d` stands from byte
12 + 14d on, and its seven fields from number 13 + 7d on. -/
def CaptureFieldFits (image : List Byte) (n : Nat) : Prop :=
  if n ≤ 12 then NamesUsed image (byteOf image (n - 1))
  else
    let at0 := 12 + 14 * ((n - 13) / 7)
    let count := byteOf image at0
    let code (i : Nat) := byteOf image (at0 + 1 + i)
    match (n - 13) % 7 with
    | 0 => count ≤ 4 ∧ (0 < count → (∀ i, i < count → 1 ≤ code i ∧ code i ≤ 12)
        ∧ (∀ i j, i < j → j < count → code i ≠ code j) ∧ ∀ i, count ≤ i → i < 4 → code i = 0)
    | 1 => 0 < count → byteOf image (at0 + 5) ≤ 1
    | 2 => 0 < count → wordOf image (at0 + 6) ≤ 8191
    | 3 => 0 < count → 16 ≤ wordOf image (at0 + 8) ∧ wordOf image (at0 + 8) ≤ 8192
        ∧ wordOf image (at0 + 6) + wordOf image (at0 + 8) ≤ 8192
    | 4 => 0 < count → 1 ≤ wordOf image (at0 + 10) ∧ wordOf image (at0 + 10) ≤ 8192
    | 5 => 0 < count → NamesUsed image (byteOf image (at0 + 12))
    | _ => 0 < count → byteOf image (at0 + 13) ≤ 1

/-- The channels of R163 in code order, from 1 on. -/
def channelOrder : List Channel :=
  [.current, .voltage, .position, .velocity, .force, .rate, .corrK, .claim, .share, .tensorForce, .burn, .energy]

/-- R170: the program of an image whose fields are all good. -/
structure ProgramOf (image : List Byte) (p : Program) : Prop where
  sizes   : p.vectors.length = 12 ∧ p.descriptors.length = 24
  vectors : ∀ i, i < 12 → p.vectors.getD i none = if byteOf image i = 255 then none else some (byteOf image i)
  unused  : ∀ d, d < 24 → byteOf image (12 + 14 * d) = 0 → p.descriptors.getD d none = none
  used    : ∀ d, d < 24 → 0 < byteOf image (12 + 14 * d) →
    let at0 := 12 + 14 * d
    p.descriptors.getD d none = some
      { channels := (List.range (byteOf image at0)).map (fun i =>
          channelOrder.getD (byteOf image (at0 + 1 + i) - 1) .current)
        ring := decide (byteOf image (at0 + 5) = 1), start := wordOf image (at0 + 6), length := wordOf image (at0 + 8)
        reload := wordOf image (at0 + 10)
        chain := if byteOf image (at0 + 12) = 255 then none else some (byteOf image (at0 + 12))
        keep := decide (byteOf image (at0 + 13) = 1) }

/-! ### The payloads of R144 -/

/-- The head sequencer states in code order (R144). -/
def stateOrder : List SeqState :=
  [.offline, .ready, .clamp, .plan, .close, .power, .preheat, .flash, .boost, .upset, .hold, .letGo, .unclamp, .stopping,
    .locked]

/-- The outcomes of an ANSWER in code order (R144). -/
def answerOrder : List AnswerCode :=
  [.accepted, .refused, .busy, .notReady, .halted, .locked, .recordPending, .range, .role, .stopping, .idle, .holding,
    .unsupported]

/-- R144, R146: the destination, the kind code and the payload fields of a frame the controller sends; a frame for every
station has destination 0 (log 16). An ANNOUNCE shows every announced field as it stands. -/
def sentFields (s : State) : OutFrame → Nat × Nat × List (Nat × Nat)
  | .announce => (0, 1,
      [(1, 1), (1, match s.lnp.side with | .left => 0 | .right => 1), (1, stateOrder.idxOf s.wsq.seq), (2, s.clu.ownClaim),
        (2, match s.ctx with | some c => c.weldNumber | none => s.wsq.lastWeldNumber),
        (1, match s.wsq.lastVerdict with
          | none => 0 | some .accept => 1 | some .review => 2 | some .reject => 3 | some .notWelded => 4),
        (1, (if s.wsq.haltLatch then 1 else 0) + (if s.rst.log.first.isSome then 2 else 0))])
  | .claim amount weldNumber _ => (0, 2, [(2, amount), (4, weldNumber)])
  | .yieldClaim weldNumber => (0, 3, [(4, weldNumber)])
  | .call dest number (.setClosure tension travel weldNumber) =>
    (dest, 4, [(1, number), (1, 3), (2, tension), (2, travel), (4, weldNumber)])
  | .call dest number (.letGo weldNumber) => (dest, 4, [(1, number), (1, 4), (4, weldNumber)])
  | .answer dest number code result => (dest, 5, [(1, number), (1, answerOrder.idxOf code), (4, result)])

/-- R153: the side that an ANNOUNCE's side byte names, NONE for a code other than 0 and 1. -/
def sideRead (p : List Byte) : Option Side := [some Side.left, some .right].getD (byteOf p 1) none

/-- R144, R145, R153: how a payload is read, by the frame's kind: its length is the one the layout gives, and its fields
stand at their places. A tensor state outside 0 to 4 reads as FAULT and a unit state outside 0 to 2 as STOPPED; a role of
another code reads as OTHER, from three bytes on, and a call of another kind is taken from two on. -/
inductive BodyReads (p : List Byte) : Nat → RxBody → Prop
  | head (len : p.length = 9) (role : byteOf p 0 = 1) :
    BodyReads p 1 (.announce (sideRead p) (.head (byteOf p 2) (wordOf p 3)))
  | tensor (len : p.length = 7) (role : byteOf p 0 = 2) :
    BodyReads p 1 (.announce (sideRead p)
      (.tensor ([.idle, .closing, .holding, .releasing].getD (byteOf p 2) .fault) (wordOf p 3)))
  | power (len : p.length = 5) (role : byteOf p 0 = 3) :
    BodyReads p 1 (.announce (sideRead p) (.power ([.running, .derated].getD (byteOf p 2) .stopped) (wordOf p 3)))
  | console (len : p.length = 3) (role : byteOf p 0 = 4) : BodyReads p 1 (.announce (sideRead p) .console)
  | other (len : 3 ≤ p.length) (role : byteOf p 0 = 0 ∨ 5 ≤ byteOf p 0) : BodyReads p 1 (.announce (sideRead p) .other)
  | claim (len : p.length = 6) : BodyReads p 2 (.claim (wordOf p 0))
  | yieldClaim (len : p.length = 4) : BodyReads p 3 .yieldClaim
  | weldStart (len : p.length = 12) (kind : byteOf p 1 = 1) :
    BodyReads p 4 (.weldStart (byteOf p 0) { bank := byteOf p 2, mode := byteOf p 3, pulled := wordOf p 4, tN := wordOf p 6
                                             workRef := BitVec.ofNat 32 (longOf p 8) })
  | weldStop (len : p.length = 2) (kind : byteOf p 1 = 2) : BodyReads p 4 (.weldStop (byteOf p 0))
  | setClosure (len : p.length = 10) (kind : byteOf p 1 = 3) : BodyReads p 4 (.setClosure (byteOf p 0))
  | letGo (len : p.length = 6) (kind : byteOf p 1 = 4) : BodyReads p 4 (.letGo (byteOf p 0))
  | unknownCall (len : 2 ≤ p.length) (kind : byteOf p 1 = 0 ∨ 5 ≤ byteOf p 1) : BodyReads p 4 (.unknownCall (byteOf p 0))
  | answer (len : p.length = 6) : BodyReads p 5 (.answer (byteOf p 0) (byteOf p 1) (longOf p 2))
  | halt (len : p.length = 0) : BodyReads p 6 .halt
  | clearAll (len : p.length = 0) : BodyReads p 7 .clearAll

/-! ### What every step keeps -/

/-- R47, R115, R136: the weld context, the sequencer state, the claim step and the gate watch fit together. A claim is
held only in POWER to UPSET, one not yet granted only in POWER; heat that is over has given the claim back; and the gate
is waited for before FLASH only in POWER and PREHEAT, in a TENSIONED weld, once the claim is granted. -/
structure WeldFits (s : State) : Prop where
  context : s.ctx.isSome = s.wsq.seq.welding
  claim   : s.clu.step ≠ .idle →
    s.wsq.seq = .power ∨ s.wsq.seq = .preheat ∨ s.wsq.seq = .flash ∨ s.wsq.seq = .boost ∨ s.wsq.seq = .upset
  asking  : s.clu.step = .waiting ∨ s.clu.step = .sending ∨ s.clu.step = .settling ∨ s.clu.step = .backoff →
    s.wsq.seq = .power ∧ s.tnl.watch ≠ .heatEntry
  heat    : s.wsq.seq = .upset → s.wsq.tucExpired = true → s.clu.step = .idle
  watch   : s.tnl.watch = .heatEntry → (s.wsq.seq = .power ∨ s.wsq.seq = .preheat) ∧ s.tensioned = true

/-- R148, R150: the outgoing queue holds at most 8 frames, one ANNOUNCE among them at most; at most two calls are
outstanding, one to a destination. -/
structure LineFits (s : State) : Prop where
  queue    : s.lnp.queue.length ≤ 8
  announce : s.lnp.queue.count .announce ≤ 1
  calls    : s.lnp.calls.length ≤ 2
  dests    : (s.lnp.calls.map (·.dest)).Nodup

/-- R17, R32: the bank of the weld context is ready, and a bank whose image is being written has its marker set. -/
structure BanksFit (s : State) : Prop where
  bound   : ∀ c, s.ctx = some c → (s.bank c.bank).ready = true
  writing : ∀ name image, s.rst.write = some (.schedule name image) → (s.bank name).installing = true

/-- The canonical form of trace memory. -/
def TraceFits (s : State) : Prop := s.cap.memory.wf = true

/-- R178, R181: a weld in flight leaves the pending slot empty; every weld number in use is below the next; the weld in
flight and the record that waits have numbers above every held one; and no two held records share a number. -/
structure RecordsFit (s : State) : Prop where
  slot   : s.ctx.isSome = true → s.rst.slot = none
  flight : ∀ c, s.ctx = some c → c.weldNumber < s.rst.nextWeld
    ∧ ∀ w, .held (some w) ∈ s.rst.blocks → w.weldNumber < c.weldNumber
  placed : ∀ p, s.rst.slot = some p → p.record.weldNumber < s.rst.nextWeld
    ∧ ∀ w, .held (some w) ∈ s.rst.blocks → w.weldNumber < p.record.weldNumber
  held   : ∀ w, .held (some w) ∈ s.rst.blocks → w.weldNumber < s.rst.nextWeld
  apart  : ∀ n m v w, n ≠ m → s.rst.block n = .held (some v) → s.rst.block m = .held (some w) →
    v.weldNumber ≠ w.weldNumber

/-- R71: the fault list of the weld context: at most 8 entries, no kind twice, each count from 1 to 255. -/
structure ListFits (s : State) : Prop where
  length : ∀ c, s.ctx = some c → c.faults.length ≤ 8
  kinds  : ∀ c, s.ctx = some c → (c.faults.map (·.kind)).Nodup
  counts : ∀ c, s.ctx = some c → ∀ e ∈ c.faults, 1 ≤ e.count ∧ e.count ≤ 255

/-- R14: the current demand driven is 0 in every condition but those in which the gate passes it. -/
def CurrentGated (s : State) : Prop :=
  (s.wsq.seq = .preheat ∧ s.frg.step = .contact) ∨ s.wsq.seq = .flash ∨ s.wsq.seq = .boost
    ∨ (s.wsq.seq = .upset ∧ s.wsq.tucExpired = false) ∨ s.mfe.driven.current = 0

/-- What every state of a run from reset keeps. -/
structure Inv (s : State) : Prop where
  weld    : WeldFits s
  line    : LineFits s
  banks   : BanksFit s
  trace   : TraceFits s
  records : RecordsFit s
  list    : ListFits s
  current : CurrentGated s

/-- A run is safe when each of its states keeps the invariant. -/
def SafeRun (run : List State) : Prop := ∀ s ∈ run, Inv s

end Sys2Proof.Machine
end

