-- ==== Sys2Proof/Certificates/Slice0/Obligations.lean ====
section
/-! DEFINITION. The statements for the provers: one `def Obligations.<Name> : Prop` each, from the rules of spec/. -/
open Sys2Proof Sys2Proof.Machine

/-! ### The machine -/

/-- The command at the front of the queue is taken, and runs on the queue's rest. -/
def Obligations.StepRunsTheFrontCommand : Prop :=
  ∀ (c : Instr) (rest : List Instr) (s : State),
    step { s with pending := c :: rest } = exec c { s with pending := rest }

/-- No command faults or is refused, and none touches the queue of commands. -/
def Obligations.EveryCommandCompletes : Prop :=
  ∀ (c : Instr) (s : State), ∃ t, exec c s = .next t ∧ t.pending = s.pending

/-! ### Resets and wires -/

/-- What a supply reset leaves in every block but the banks, the ring and the fault log: R15, R16, R50, R97, R112, R128,
R129, R142, R158, R162, R169, R191. The records `{}` hold the reset values of those rules, written in State.lean. The
model's own are among them: the wires and straps as the command carries them (log 5), a held line reset (log 42), the
outputs driven in the step that takes the reset (log 12), the room and the claim's serial (log 17), the ticks counted in a
hold (log 27), what the port last showed and its clock-low time (log 26, log 32), the read pointer at 0 with no read source (log 56), and
the program of a capture block that fails its check (log 25). -/
def Obligations.SupplyResetSetsEveryBlock : Prop :=
  ∀ (w : ResetWires) (s : State), ∃ t, exec (.supplyReset w) s = .next t
    ∧ t.ctx = none
    ∧ t.wsq = { seq := .offline, haltLatch := false, lock := false, silence := false, lastVerdict := none
                lastWeldNumber := 0, clampTimer := none, stroke := .none, upsetEntry := 0, upsetTimer := none
                holdTimer := none, holdBroken := false, releaseWait := none }
    ∧ t.mfe = { set := { current := 0, velocity := 0, force := 0, clamp := .keep }
                driven := { current := 0, velocity := 0, force := 0, clamp := .keep } }
    ∧ (∀ i, t.mfe.inputs.get i = { value := 0, held := 0 })
    ∧ t.frg = {} ∧ t.clu = {} ∧ t.tnl = {} ∧ t.svp = {}
    ∧ t.lnp = { station := w.station.toNat, side := w.side, lineOkRisen := w.lineOk && !w.lineReset
                peers := List.replicate 14 .empty }
    ∧ t.pins = { lineOk := w.lineOk, headStop := w.headStop, lineReset := w.lineReset }
    ∧ t.cap.memory = [] ∧ t.cap.tick = none ∧ t.cap.waiting = none
    ∧ (∀ d, t.cap.runs.getD d {} =
        match t.cap.program.descriptors.getD d none with
        | some x => { pos := x.start, remaining := x.reload, spent := false, full := false, wrapped := false, last := [] }
        | none => { pos := 0, remaining := 0, spent := false, full := false, wrapped := false, last := [] })
    ∧ t.rst.write = none ∧ t.rst.scheduleBlock = s.rst.scheduleBlock ∧ t.rst.captureBlock = s.rst.captureBlock
    ∧ t.freeCount = s.freeCount

/-- R31: the settings check of a supply reset. A half whose check matches its 112 bytes and whose 54 fields are all good
makes its bank VALID with that image; any other makes it INVALID with zeros. The areas that fail reach the cleared fault
log in the order bank A, bank B, capture program. -/
def Obligations.SupplyResetChecksTheSettings : Prop :=
  ∀ (w : ResetWires) (s : State), ∃ t, exec (.supplyReset w) s = .next t ∧
    let good (m : StoredImage) := m.checks = true ∧ ∀ i, 1 ≤ i → i ≤ 54 → fieldGood (scheduleOfImage m.image) i = true
    let a := s.rst.scheduleBlock.a
    let b := s.rst.scheduleBlock.b
    let p := s.rst.captureBlock
    (good a → t.rst.bankA = { image := scheduleOfImage a.image, valid := true, installing := false })
    ∧ (¬good a → t.rst.bankA = { image := { fields := List.replicate 54 0 }, valid := false, installing := false })
    ∧ (good b → t.rst.bankB = { image := scheduleOfImage b.image, valid := true, installing := false })
    ∧ (¬good b → t.rst.bankB = { image := { fields := List.replicate 54 0 }, valid := false, installing := false })
    ∧ (p.checks = true → t.cap.program = programOfImage p.image)
    ∧ (p.checks = false → ∀ v ∈ t.cap.program.vectors, v = none)
    ∧ t.rst.log =
      ((if t.rst.bankA.valid then [] else ([1] : List Int)) ++ (if t.rst.bankB.valid then [] else [2])
          ++ (if p.checks then [] else [3])).foldl
        (fun (log : FaultLog) (area : Int) => log.file
          { kind := .settingsBad, state := .offline, weldNumber := none, input := some area })
        { first := none, counts := List.replicate 35 0 }

/-- R181: the scan of the 32 blocks at a supply reset. A BAD block stays BAD; a block that was being erased or programmed
when the supply was lost is HELD with no record; any other stands. The next weld number is one above the highest number
held and the write position the block after its block, or 1 and 0 when no record is held; the pending slot is empty, and
a HELD target block begins its erase. -/
def Obligations.SupplyResetScansTheRing : Prop :=
  ∀ (w : ResetWires) (s : State), ∃ t, exec (.supplyReset w) s = .next t
    ∧ t.rst.blocks.length = s.rst.blocks.length
    ∧ (∀ n, t.rst.block n =
        if s.rst.block n = .bad then .bad
        else if s.rst.erase = some n ∨ (s.rst.slot.any (·.programming) = true ∧ s.rst.targetBlock = some n) then .held none
        else s.rst.block n)
    ∧ (∀ r, .held (some r) ∈ t.rst.blocks → r.weldNumber < t.rst.nextWeld)
    ∧ ((∃ n r, n < t.rst.blocks.length ∧ t.rst.block n = .held (some r) ∧ t.rst.nextWeld = r.weldNumber + 1
          ∧ t.rst.writePos = (n + 1) % 32)
      ∨ ((∀ r, .held (some r) ∉ t.rst.blocks) ∧ t.rst.nextWeld = 1 ∧ t.rst.writePos = 0))
    ∧ t.rst.slot = none
    ∧ (∀ n, t.rst.erase = some n ↔ t.rst.targetBlock = some n ∧ (t.rst.block n).isHeld = true)

/-- R75, R182, R191 and the reset rule of each block: what a line reset keeps and what it ends. The record store keeps
its banks, its settings area, its blocks, its numbers and its log, and an erase or a settings write under way runs on;
the pending slot is emptied, and a block whose program it cuts short stays HELD with no record. The trace and the run
states stand unless a program waits (R169). The model's own: no erase of that block begins at the line reset (log 20); a
LINE_RESET while one is held does the same once more (log 42); and the outputs safe in the step that asserts the reset
(log 12), the room and the serial (log 17), the answer on the wires (log 26), the read pointer at 0 with no read source
(log 56) and the hold's tick count (log 27). -/
def Obligations.LineResetKeepsTheStore : Prop :=
  ∀ s : State, ∃ t, exec .lineReset s = .next t
    ∧ t.pins = { s.pins with lineReset := true }
    ∧ t.ctx = none ∧ t.mfe = {} ∧ t.frg = {} ∧ t.clu = {} ∧ t.tnl = {}
    ∧ t.wsq = { seq := .offline, lastVerdict := s.wsq.lastVerdict, lastWeldNumber := s.wsq.lastWeldNumber }
    ∧ t.lnp = { station := s.lnp.station, side := s.lnp.side }
    ∧ t.svp = { busy := if s.rst.write.isSome then .install else .none }
    ∧ t.cap.tick = none ∧ t.cap.waiting = none ∧ t.cap.program = s.cap.waiting.getD s.cap.program
    ∧ (s.cap.waiting = none → t.cap = { s.cap with tick := none })
    ∧ (s.cap.waiting.isSome = true → t.cap.memory = [])
    ∧ (∃ blocks, t.rst = { s.rst with slot := none, blocks := blocks }
        ∧ (s.rst.slot.any (·.programming) = false → blocks = s.rst.blocks)
        ∧ (∀ n, s.rst.slot.any (·.programming) = true → s.rst.targetBlock = some n →
            blocks = s.rst.blocks.set n (.held none)))
    ∧ t.freeCount = s.freeCount

/-- R51, R157, R158: the release of a held line reset samples the straps, and a LINE_OK already high counts as a rise; the
two edges of LINE_OK move the level, a rise counts for R51 out of a reset, and a fall abandons an attempt without
counting it as lost. The model's choices: a backoff pending at the fall and its attempt count stand through the fall and the
rise (log 55), and a release with no reset held changes nothing (log 42, log 4). -/
def Obligations.TrainWiresAct : Prop :=
  (∀ (station : BitVec 4) (side : Side) (s : State), s.pins.lineReset = true →
      exec (.lineResetRelease station side) s = .next (gateCurrent { s with
        pins := { s.pins with lineReset := false }
        lnp := { s.lnp with station := station.toNat, side := side, lineOkRisen := s.pins.lineOk } }))
  ∧ (∀ (station : BitVec 4) (side : Side) (s : State), s.pins.lineReset = false →
      exec (.lineResetRelease station side) s = .next (gateCurrent s))
  ∧ (∀ s : State, exec .lineOkRise s = .next (gateCurrent { s with
      pins := { s.pins with lineOk := true }
      lnp := { s.lnp with lineOkRisen := s.lnp.lineOkRisen || !s.pins.lineReset } }))
  ∧ (∀ s : State, s.lnp.attempt.isSome = true → exec .lineOkFall s = .next (gateCurrent { s with
      pins := { s.pins with lineOk := false }
      lnp := { s.lnp with attempt := none, announceOwed := false } }))
  ∧ (∀ s : State, s.lnp.attempt = none →
      exec .lineOkFall s = .next (gateCurrent { s with pins := { s.pins with lineOk := false } }))

/-- R51, R146: the sequencer leaves OFFLINE exactly when the conditions hold: for READY, or LOCKED when the lock flag is
set. The announce timer starts and an ANNOUNCE is asked for. Without one of R51's conditions nothing changes. The model's
choices are among the cases without effect: an OFFLINE_EXIT in another state than OFFLINE (log 4), and one while
LINE_RESET is held (log 11). -/
def Obligations.OfflineIsLeft : Prop :=
  (∀ s : State, s.wsq.seq = .offline → s.ctx = none → s.lnp.lineOkRisen = true → 1 ≤ s.lnp.station → s.lnp.station ≤ 14 →
      s.wsq.silence = false → s.pins.lineReset = false →
    ∃ t, exec .offlineExit s = .next t
      ∧ t.wsq = { s.wsq with seq := if s.wsq.lock then .locked else .ready }
      ∧ t.lnp.announceTimer = some { length := 50, elapsed := 0 }
      ∧ (s.lnp.queue.length < 8 → .announce ∈ t.lnp.queue)
      ∧ t.ctx = none ∧ t.frg = s.frg ∧ t.clu = s.clu ∧ t.tnl = s.tnl ∧ t.cap = s.cap ∧ t.rst = s.rst
      ∧ t.lnp.peers = s.lnp.peers ∧ t.lnp.calls = s.lnp.calls ∧ SameOutside s t)
  ∧ (∀ s : State, s.wsq.seq ≠ .offline ∨ s.lnp.lineOkRisen = false ∨ s.lnp.station = 0 ∨ 15 ≤ s.lnp.station
        ∨ s.wsq.silence = true ∨ s.pins.lineReset = true →
      exec .offlineExit s = .next (gateCurrent s))

/-- R62: an assertion of HEAD_STOP aborts the weld in CLAMP to UPSET, enters STOP_IN_HOLD in HOLD and does nothing to the
weld elsewhere; while the wire stays asserted it does not act again; its release has no effect of its own. -/
def Obligations.HeadStopActsByState : Prop :=
  (∀ (s : State) (c : WeldCtx), s.pins.headStop = false → s.ctx = some c → s.wsq.seq.abortable = true →
    ∃ t, exec .headStop s = .next t ∧ Aborted .headStop none { s with pins := { s.pins with headStop := true } } t)
  ∧ (∀ (s : State) (c : WeldCtx), s.pins.headStop = false → s.ctx = some c → s.wsq.seq = .hold →
    ∃ t, exec .headStop s = .next (gateCurrent t)
      ∧ Entered .stopInHold none { s with pins := { s.pins with headStop := true } } t)
  ∧ (∀ s : State, s.pins.headStop = false → s.wsq.seq.abortable = false → s.wsq.seq ≠ .hold →
    exec .headStop s = .next (gateCurrent { s with pins := { s.pins with headStop := true } }))
  ∧ (∀ s : State, s.pins.headStop = true → exec .headStop s = .next (gateCurrent s))
  ∧ (∀ s : State, exec .headStopRelease s = .next (gateCurrent { s with pins := { s.pins with headStop := false } }))

/-! ### Samples -/

/-- R1 to R3: at a sample a valid raw sample becomes the input's current value and its held count 0; any other leaves the
value and raises the count, up to 5; an input whose count goes from 4 to 5 leaves a notice with the rejected sample, or
with none when the sensor-fail line rejected it, where the sample's order takes no notice itself (log 9). The model's
choices: a notice waits for its command (log 33), a sample that the line and the range both reject counts as rejected by the
line (log 44), and while LINE_RESET is held no sample is taken (log 11). -/
def Obligations.SampleReadsTheInputs : Prop :=
  (∀ (raw : Samples) (order : SampleOrder) (s : State), s.pins.lineReset = false →
    ∃ t, exec (.sample raw order) s = .next t
      ∧ (∀ i, t.mfe.inputs.get i =
          if sampleValid i (Samples.get raw i) then { value := (Samples.get raw i).value, held := 0 }
          else { value := (s.mfe.inputs.get i).value, held := min ((s.mfe.inputs.get i).held + 1) 5 })
      ∧ (NoNotices order → ∃ new, t.mfe.rangeNotices = s.mfe.rangeNotices ++ new ∧ ∀ n, n ∈ new ↔
          (s.mfe.inputs.get n.input).held = 4 ∧ sampleValid n.input (Samples.get raw n.input) = false
            ∧ n.value = if (Samples.get raw n.input).fail then none else some (Samples.get raw n.input).value))
  ∧ (∀ (raw : Samples) (order : SampleOrder) (s : State), s.pins.lineReset = true →
    exec (.sample raw order) s = .next (gateCurrent s))
  ∧ (∀ (i : Input) (r : RawSample),
    let range : Int × Int := match i with
      | .current => (0, 12000) | .voltage => (0, 2000) | .position => (0, 15000) | .force => (0, 1500)
      | .clampPressure => (0, 400) | .railTemperature => (-500, 800) | .gapGauge => (0, 8000)
    (sampleValid i r = true ↔ r.fail = false ∧ range.1 ≤ r.value ∧ r.value ≤ range.2)
    ∧ ∀ x : InputState, takeInput i r x =
      if sampleValid i r then { value := r.value, held := 0 } else { value := x.value, held := min (x.held + 1) 5 })

/-- R5 to R9: while a weld context exists each sample adds voltage times current to the energy accumulator, which stops
at 10^12 exactly (log 21); and in every state of a weld the short state, the onset counter, the short duration and the
freeze notices follow the short test, where the sample's order takes no notice (log 9, log 33) and, in UNCLAMP and STOPPING,
the clamps are not yet open. -/
def Obligations.SampleCountsEnergyAndShorts : Prop :=
  (∀ (raw : Samples) (order : SampleOrder) (s : State), s.pins.lineReset = false →
    ∃ t, exec (.sample raw order) s = .next t
      ∧ t.mfe.energy =
        if s.ctx.isSome then min (s.mfe.energy + (t.input .voltage * t.input .current).toNat) (10 ^ 12) else s.mfe.energy)
  ∧ (∀ (raw : Samples) (order : SampleOrder) (s : State) (c : WeldCtx), s.pins.lineReset = false → s.ctx = some c →
      NoNotices order →
    ∃ t, exec (.sample raw order) s = .next t ∧
      let k := (s.bank c.bank).image
      let shorted := t.input .voltage < k.vShort ∧ (k.iShort : Int) < t.input .current
      ((s.wsq.seq = .unclamp ∨ s.wsq.seq = .stopping → (k.openThreshold : Int) ≤ t.pressure) →
        (t.mfe.shorted = true ↔ shorted)
        ∧ (shorted → s.mfe.shorted = false → t.mfe.onsets = min (s.mfe.onsets + 1) 65535)
        ∧ (¬shorted ∨ s.mfe.shorted = true → t.mfe.onsets = s.mfe.onsets)
        ∧ (shorted → t.mfe.shortDuration = min (s.mfe.shortDuration + 1) k.tFz)
        ∧ (¬shorted → t.mfe.shortDuration = 0)
        ∧ (shorted → s.mfe.shortDuration + 1 = k.tFz → t.mfe.freezeNotices = s.mfe.freezeNotices + 1)
        ∧ (¬shorted ∨ s.mfe.shortDuration + 1 ≠ k.tFz → t.mfe.freezeNotices = s.mfe.freezeNotices))
      ∧ (s.wsq.seq ∈ [.plan, .close, .power, .hold, .letGo] → t.wsq.seq = s.wsq.seq))

/-- R13, R14: at a sample the velocity, force and clamp outputs drive the values last set; the current demand drives the
value last set while the gate passes it before and after the sample, and 0 otherwise. After every command the current
demand driven is 0 in every condition but those of the gate. -/
def Obligations.OutputsAreDrivenThroughTheGate : Prop :=
  let passes (x : State) := (x.wsq.seq = .preheat ∧ x.frg.step = .contact) ∨ x.wsq.seq = .flash ∨ x.wsq.seq = .boost
    ∨ (x.wsq.seq = .upset ∧ x.wsq.tucExpired = false)
  (∀ (raw : Samples) (order : SampleOrder) (s : State), s.pins.lineReset = false →
    ∃ t, exec (.sample raw order) s = .next t
      ∧ t.mfe.driven.velocity = s.mfe.set.velocity ∧ t.mfe.driven.force = s.mfe.set.force
      ∧ t.mfe.driven.clamp = s.mfe.set.clamp
      ∧ (passes s → passes t → t.mfe.driven.current = s.mfe.set.current)
      ∧ (¬passes s ∨ ¬passes t → t.mfe.driven.current = 0))
  ∧ (∀ (c : Instr) (s t : State), exec c s = .next t → ¬passes t → t.mfe.driven.current = 0)
  ∧ (∀ s : State, (passes s → gateCurrent s = s) ∧ (¬passes s → gateCurrent s = { s with
      mfe := { s.mfe with driven := { s.mfe.driven with current := 0 } } }))

/-- R4, R53: a clamp pressure at or above clamp_min ends CLAMP: PLAN is entered, the clamp command goes to KEEP, the clamp
timer stops and the planning measurement begins; a lower one leaves CLAMP as it is. In PLAN the measurement takes one
sample of the temperature at each sample, and after the sixteenth answers their mean, rounded half up, with the gap; a
SENSOR_RANGE raised at a sample drops it. In CLAMP the sample's order takes no notice (log 9). -/
def Obligations.ClampsCloseAndThePlanIsMeasured : Prop :=
  (∀ (raw : Samples) (order : SampleOrder) (s : State) (c : WeldCtx), s.pins.lineReset = false → s.ctx = some c →
      s.wsq.seq = .clamp → NoNotices order →
    ∃ t c', exec (.sample raw order) s = .next t ∧ t.ctx = some c'
      ∧ (((s.bank c.bank).image.clampMin : Int) ≤ t.pressure →
          t.wsq.seq = .plan ∧ c'.phaseReached = .plan ∧ t.mfe.set = { s.mfe.set with clamp := .keep }
          ∧ t.wsq.clampTimer = none ∧ t.mfe.planning = .sampling 0 0)
      ∧ (t.pressure < (s.bank c.bank).image.clampMin →
          t.wsq.seq = .clamp ∧ c' = c ∧ t.mfe.set = s.mfe.set
          ∧ t.wsq.clampTimer = s.wsq.clampTimer.map (fun x => { x with elapsed := x.elapsed + 1 })))
  ∧ (∀ (raw : Samples) (order : SampleOrder) (s : State) (n : Nat) (sum : Int), s.pins.lineReset = false →
      s.wsq.seq = .plan → s.mfe.planning = .sampling n sum →
    ∃ t, exec (.sample raw order) s = .next t ∧
      let raised := ∃ i, (s.mfe.inputs.get i).held = 4 ∧ sampleValid i (Samples.get raw i) = false
      (raised → t.mfe.planning = .none)
      ∧ (¬raised → n + 1 = 16 →
          t.mfe.planning = .answered ((sum + t.input .railTemperature + 8) / 16) (t.input .gapGauge))
      ∧ (¬raised → n + 1 ≠ 16 → t.mfe.planning = .sampling (n + 1) (sum + t.input .railTemperature)))

/-- R89: the flash burn at every sample in FLASH. -/
def Obligations.FlashBurnIsWorkedAtEachSample : Prop :=
  ∀ (raw : Samples) (order : SampleOrder) (s : State) (c : WeldCtx), s.pins.lineReset = false → s.ctx = some c →
    s.wsq.seq = .flash →
    ∃ t c', exec (.sample raw order) s = .next t ∧ t.ctx = some c'
      ∧ c'.progress.flashBurn = (t.position - s.frg.flashEntry).toNat

/-- R76, R88, R90, R94, R95, R98 to R104: a sample of FLASH or BOOST outside a backoff, where neither the stroke limit nor
the stall check can act and the order takes no notice (log 9). In FLASH the current demand is the scaled I_flash and the
velocity command follows the law, within 5 to 300, at the sample that ends flashing too; from B_adj on BOOST is entered
with a boost distance, the window in progress dropped, and UPSET without one. In BOOST the current demand is the scaled
I_boost and the velocity command V_boost, within 5 to 300, and from d_boost on UPSET is entered. At the entry of UPSET the
stroke begins (`UpsetBegun`), and a tension gate that is not met enters TENSOR_LOST. A force of F_up_max at that sample ends
the stroke at once (`UpsetEndedAtOnce`): short of d_u_min with UPSET_SHORT, and with t_uc at 0 for HOLD (log 49 for the upset timer there). That BOOST and UPSET
set their outputs where the rules say and no sooner is log 37; the order of the two faults, log 59, is left open here. -/
def Obligations.FlashFollowsTheVelocityLaw : Prop :=
  ∀ (raw : Samples) (order : SampleOrder) (s : State) (c : WeldCtx), s.pins.lineReset = false → s.ctx = some c →
    s.frg.backoff = none → s.mfe.stall.length < 199 → NoNotices order →
    ((takeInput .position raw.position s.mfe.inputs.position).value < (s.bank c.bank).image.strokeLimit) →
    let k := (s.bank c.bank).image
    let endsAtOnce (t : State) := k.dU = 0 ∨ (k.fUpMax : Int) ≤ t.input .force
    (s.wsq.seq = .flash →
      ∃ t c', exec (.sample raw order) s = .next t ∧ t.ctx = some c' ∧
        let x := (t.position - s.frg.flashEntry).toNat
        let vp : Int := k.vS + (((k.vE : Int) - k.vS) * (min x c.plan.bAdj : Nat)).tdiv c.plan.bAdj
        let vg : Int := (vp * c.share).tdiv 1000
        let outputs : Outputs := { s.mfe.set with
          current := k.iFlash * c.share / 1000, velocity := max 5 (min 300 (vg + s.frg.corrK)) }
        (x < c.plan.bAdj → t.wsq.seq = .flash ∧ t.mfe.set = outputs)
        ∧ (c.plan.bAdj ≤ x → 0 < k.dBoost →
          t.wsq.seq = .boost ∧ c'.phaseReached = .boost ∧ c'.progress.boostBurn = 0 ∧ t.frg.boostEntry = t.position
          ∧ t.frg.windowTimer = none ∧ t.mfe.set = outputs)
        ∧ (c.plan.bAdj ≤ x → k.dBoost = 0 → ¬endsAtOnce t →
          UpsetBegun c { c.progress with flashTime := c.progress.flashTime + 1, flashBurn := x } s t)
        ∧ (c.plan.bAdj ≤ x → k.dBoost = 0 → endsAtOnce t →
          UpsetEndedAtOnce c { c.progress with flashTime := c.progress.flashTime + 1, flashBurn := x } s t))
    ∧ (s.wsq.seq = .boost →
      ∃ t c', exec (.sample raw order) s = .next t ∧ t.ctx = some c' ∧
        let y := (t.position - s.frg.boostEntry).toNat
        c'.progress.boostBurn = y
        ∧ (y < k.dBoost → t.wsq.seq = .boost ∧ c'.progress = { c.progress with boostBurn := y }
          ∧ t.mfe.set = { s.mfe.set with
              current := k.iBoost * c.share / 1000, velocity := max 5 (min 300 (k.vBoost : Int)) })
        ∧ (k.dBoost ≤ y → ¬endsAtOnce t → UpsetBegun c { c.progress with boostBurn := y } s t)
        ∧ (k.dBoost ≤ y → endsAtOnce t → UpsetEndedAtOnce c { c.progress with boostBurn := y } s t))

/-- R77 to R79, R49: a contact current above I_contact in the approach of PREHEAT, where neither the stroke limit nor the
stall check can act and the order takes no notice (log 9): the platen stops, the scaled I_pre is set, the approach timer stops, the contact timer starts with
the pattern's length, and heat has begun. -/
def Obligations.ContactIsDetected : Prop :=
  ∀ (raw : Samples) (order : SampleOrder) (s : State) (c : WeldCtx), s.pins.lineReset = false → s.ctx = some c →
    s.wsq.seq = .preheat → s.frg.step = .approach → s.mfe.stall.length < 199 → NoNotices order →
    ((takeInput .position raw.position s.mfe.inputs.position).value < (s.bank c.bank).image.strokeLimit) →
    ∃ t c', exec (.sample raw order) s = .next t ∧ t.ctx = some c' ∧
      let k := (s.bank c.bank).image
      ((k.iContact : Int) < t.input .current →
        t.wsq.seq = .preheat ∧ t.frg.step = .contact ∧ t.frg.approachTimer = none
        ∧ t.mfe.set = { s.mfe.set with current := k.iPre * c.share / 1000, velocity := 0 }
        ∧ t.frg.contactTimer = some
            { length := if k.pattern = 2 then max 100 (k.tC - (s.frg.k - 1) * k.tC / k.nPre) else k.tC, elapsed := 0 }
        ∧ c'.heatBegan = true)
      ∧ (t.input .current ≤ k.iContact →
        t.wsq.seq = .preheat ∧ t.frg.step = .approach ∧ t.mfe.set = s.mfe.set ∧ c'.heatBegan = c.heatBegan)

/-- R9, R44 to R46, R68, R73, R111, R168, R174 to R176, R178: in UNCLAMP and STOPPING a clamp pressure below the open
threshold builds the outcome: the energy figure is worked, and T_a; with heat begun, a figure outside the bank's limits
enters ENERGY_RANGE and a T_a further than tau_n from T_n enters NEUTRAL_OFF. The verdict is that of the context with those
kinds, and WELD_END is its last activation, after the entries and their FAULT activations (`OutcomeBuilt`). The record goes to the pending slot with the fields of the context, the own side
and the kept trace: up to 1900 entries of what the capture hands over, descriptor by descriptor and oldest first, with the
mark set when the trace was cut. Its commit begins at once when the target block is ERASED. The verdict and the number become
the last ones; the context ends, its clamp timer with it (log 49), a capture program that waits takes effect, and the
sequencer goes to OFFLINE with the silence flag set, to LOCKED with the lock flag set, to READY otherwise. A pressure at or
above it builds none. The order takes no notice (log 9). -/
def Obligations.ClampsOpenAndTheOutcomeIsBuilt : Prop :=
  (∀ (raw : Samples) (order : SampleOrder) (s : State) (c : WeldCtx), s.pins.lineReset = false → s.ctx = some c →
    s.wsq.seq = .unclamp ∨ s.wsq.seq = .stopping → NoNotices order →
    ∃ t, exec (.sample raw order) s = .next t
      ∧ (t.pressure < (s.bank c.bank).image.openThreshold →
          t.ctx = none
          ∧ t.wsq.seq = (if s.wsq.silence then .offline else if s.wsq.lock then .locked else .ready)
          ∧ t.wsq.lastWeldNumber = c.weldNumber
          ∧ (c.heatBegan = false → t.wsq.lastVerdict = some .notWelded)
          ∧ (c.heatBegan = true → c.abortKind.isSome = true → t.wsq.lastVerdict = some .reject)
          ∧ t.mfe.set = s.mfe.set ∧ t.wsq.clampTimer = none
          ∧ ∃ p, t.rst.slot = some p ∧ t.rst = { s.rst with slot := some p, log := t.rst.log }
            ∧ CommitTested false t p ∧ RecordOf c s.lnp.side p.record
            ∧ p.record.verdict = t.wsq.lastVerdict
            ∧ t.wsq.lastVerdict = some (verdictOf { c with faults := p.record.faults, overflow := p.record.overflow })
            ∧ p.record.energy = min (t.mfe.energy / 10 ^ 6) 999999
            ∧ p.record.tA = achievedNeutral (s.bank c.bank).image c
            ∧ (let k := (s.bank c.bank).image
              let off := ∃ tA, p.record.tA = some tA ∧ k.tauN < (tA - c.tN).natAbs
              let outside := p.record.energy < k.eMin ∨ k.eMax < p.record.energy
              let clean := (c.heatBegan = false ∨ ¬outside) ∧ ¬off
              (c.heatBegan = true → outside → p.record.overflow = true ∨ .energyRange ∈ p.record.faults.map (·.kind))
              ∧ (off → p.record.overflow = true ∨ .neutralOff ∈ p.record.faults.map (·.kind))
              ∧ (clean → p.record.faults = c.faults ∧ p.record.overflow = c.overflow ∧ t.rst.log = s.rst.log)
              ∧ ∃ v, v.ctx = some c ∧ v.wsq.seq = s.wsq.seq ∧ v.rst = s.rst ∧ v.cap = { s.cap with tick := v.cap.tick }
                ∧ SameReadings t v ∧ v.pairedForce = s.pairedForce ∧ v.mfe.driven.velocity = s.mfe.set.velocity
                ∧ v.frg.lastRate = s.frg.lastRate ∧ v.frg.corrK = s.frg.corrK ∧ v.clu.ownClaim = s.clu.ownClaim
                ∧ OutcomeBuilt k v t p))
      ∧ (((s.bank c.bank).image.openThreshold : Int) ≤ t.pressure → t.ctx = some c ∧ t.wsq.seq = s.wsq.seq ∧ t.rst = s.rst))
  ∧ (∀ c : Cap, (∀ d x, c.program.descriptors.getD d none = some x →
      x.start ≤ (c.runs.getD d {}).pos ∧ (c.runs.getD d {}).pos < x.start + x.length) → c.kept = keptEntries c)

/-! ### Notices and the plan -/

/-- R3, R69, R70, R72: the WSQ takes a waiting SENSOR_RANGE of an input: the lock flag is set in every state; CLAMP to
UPSET abort; HOLD, LET_GO and UNCLAMP enter it, and it becomes the abort kind where there is none; STOPPING enters it; READY
goes to LOCKED; OFFLINE and LOCKED only log it. One that the order of a sample names first is taken before the rest of the
sample, and aborts it (R66; log 9). The model's choices: a notice waits for its command, and with no notice of that input
nothing changes (log 33, log 4). -/
def Obligations.SensorRangeActsByState : Prop :=
  ∀ (input : Input) (s : State),
    (∀ (n : RangeNotice) (c : WeldCtx), s.rangeNotice input = some n → s.ctx = some c →
      let s0 : State := { s with
        mfe := { s.mfe with rangeNotices := s.mfe.rangeNotices.erase n }, wsq := { s.wsq with lock := true } }
      (s.wsq.seq.abortable = true →
        (∃ t, exec (.sensorRange input) s = .next t ∧ Aborted .sensorRange n.value s0 t)
        ∧ ∀ (raw : Samples) (order : SampleOrder), s.pins.lineReset = false →
          ∃ t, exec (.sample raw (.range input :: order)) s = .next t ∧ SampleAborted .sensorRange n.value s t
            ∧ t.wsq.lock = true)
      ∧ (s.wsq.seq = .hold ∨ s.wsq.seq = .letGo ∨ s.wsq.seq = .unclamp →
        ∃ t, Entered .sensorRange n.value s0 t ∧ exec (.sensorRange input) s = .next (gateCurrent { t with
          ctx := t.ctx.map (fun c => { c with
            abortKind := if c.abortKind = none then some .sensorRange else c.abortKind }) }))
      ∧ (s.wsq.seq = .stopping →
        ∃ t, exec (.sensorRange input) s = .next (gateCurrent t) ∧ Entered .sensorRange n.value s0 t))
    ∧ (∀ n : RangeNotice, s.rangeNotice input = some n → s.ctx = none →
      (s.wsq.seq = .ready ∨ s.wsq.seq = .offline ∨ s.wsq.seq = .locked) →
        ∃ t, exec (.sensorRange input) s = .next t ∧ t.ctx = none
          ∧ t.wsq = { s.wsq with lock := true, seq := if s.wsq.seq = .ready then .locked else s.wsq.seq }
          ∧ t.mfe.rangeNotices = s.mfe.rangeNotices.erase n
          ∧ t.rst.log = s.rst.log.file
              { kind := .sensorRange, state := s.wsq.seq, weldNumber := none, input := n.value }
          ∧ t.rst = { s.rst with log := t.rst.log }
          ∧ t.frg = s.frg ∧ t.clu = s.clu ∧ t.tnl = s.tnl ∧ SameOutside s t)
    ∧ (s.rangeNotice input = none → exec (.sensorRange input) s = .next (gateCurrent s))

/-- R7, R66, R91, R92: in FLASH and BOOST a waiting freeze notice counts a freeze; up to the freeze limit a backoff begins
from the platen position, above it the weld aborts with FREEZE. One that the order of a sample names first is taken before
the end of the phase (log 9): above the limit the sample aborts, and else it is the backoff's first sample (log 41). At each sample of a
backoff the platen retreats at -300 under the current of the phase, and the backoff ends at the start less d_b, or at 0; it
also ends when 1000 ms have passed (log 2), and nothing else changes then. The model's choices: a notice waits for its
command and is dropped in any other state (log 33); without a notice or a backoff nothing changes (log 4). -/
def Obligations.FreezesAreCountedAndBackedOff : Prop :=
  (∀ (s : State) (c : WeldCtx), 0 < s.mfe.freezeNotices → s.ctx = some c →
      s.wsq.seq = .flash ∨ s.wsq.seq = .boost →
    ∃ t c', exec .freezeNotice s = .next t ∧ t.ctx = some c'
      ∧ c'.progress = { c.progress with freezeCount := c.progress.freezeCount + 1 }
      ∧ t.mfe.freezeNotices = s.mfe.freezeNotices - 1
      ∧ (c.progress.freezeCount + 1 ≤ (s.bank c.bank).image.freezeLimit →
          t.wsq = s.wsq ∧ t.mfe.set = { s.mfe.set with velocity := -300 } ∧ t.mfe.stall = []
          ∧ t.frg.backoff = some { start := s.position, timer := { length := 1000, elapsed := 0 } }
          ∧ t.frg = { s.frg with backoff := t.frg.backoff })
      ∧ ((s.bank c.bank).image.freezeLimit < c.progress.freezeCount + 1 →
          t.wsq.seq = .stopping ∧ c'.abortKind = some .freeze ∧ t.frg.backoff = none
          ∧ t.mfe.set = { current := 0, velocity := 0, force := 0, clamp := .opn }))
  ∧ (∀ s : State, 0 < s.mfe.freezeNotices → s.wsq.seq ≠ .flash → s.wsq.seq ≠ .boost →
      exec .freezeNotice s = .next (gateCurrent { s with
        mfe := { s.mfe with freezeNotices := s.mfe.freezeNotices - 1 } }))
  ∧ (∀ s : State, s.mfe.freezeNotices = 0 → exec .freezeNotice s = .next (gateCurrent s))
  ∧ (∀ (s : State) (b : Backoff), s.frg.backoff = some b → (b.timer.length : Int) ≤ b.timer.elapsed + 1 →
      exec .backoffLimit s = .next (gateCurrent { s with frg := { s.frg with backoff := none } }))
  ∧ (∀ s : State, s.frg.backoff = none → exec .backoffLimit s = .next (gateCurrent s))
  ∧ (∀ (raw : Samples) (order : SampleOrder) (s : State) (c : WeldCtx), s.pins.lineReset = false → s.ctx = some c →
      s.wsq.seq = .flash ∨ s.wsq.seq = .boost → NoNotices order →
      let k := (s.bank c.bank).image
      let p := (takeInput .position raw.position s.mfe.inputs.position).value
      let demand := (if s.wsq.seq = .flash then k.iFlash else k.iBoost) * c.share / 1000
      let frozen := (takeInput .voltage raw.voltage s.mfe.inputs.voltage).value < k.vShort
        ∧ (k.iShort : Int) < (takeInput .current raw.current s.mfe.inputs.current).value ∧ s.mfe.shortDuration + 1 = k.tFz
      (∀ b, s.frg.backoff = some b → p < k.strokeLimit →
        ∃ t, exec (.sample raw order) s = .next t ∧ t.wsq.seq = s.wsq.seq
          ∧ t.mfe.set = { s.mfe.set with current := demand, velocity := -300 } ∧ t.mfe.stall = []
          ∧ t.frg.backoff = if p ≤ max (b.start - k.dB) 0 then none
              else some { b with timer := { b.timer with elapsed := b.timer.elapsed + 1 } })
      ∧ (0 < s.mfe.freezeNotices ∨ frozen →
        (k.freezeLimit < c.progress.freezeCount + 1 →
          ∃ t, exec (.sample raw (.freeze :: order)) s = .next t
            ∧ SampleAborted .freeze (some (c.progress.freezeCount + 1 : Nat)) s t)
        ∧ (c.progress.freezeCount + 1 ≤ k.freezeLimit → p < k.strokeLimit →
          ∃ t c', exec (.sample raw (.freeze :: order)) s = .next t ∧ t.ctx = some c' ∧ t.wsq.seq = s.wsq.seq
            ∧ c'.progress.freezeCount = c.progress.freezeCount + 1 ∧ t.mfe.stall = []
            ∧ t.mfe.set = { s.mfe.set with current := demand, velocity := -300 }
            ∧ t.frg.backoff = if p ≤ max (p - k.dB) 0 then none
                else some { start := p, timer := { length := 1000, elapsed := 0 } })))

/-- R36: a T_r below -40.0 °C or above +65.0 °C, and no other, refuses the plan with TEMP_RANGE, in both modes, with T_r
as the input value involved. Of the second stage (R37, R38), its refusal: within those limits a TENSIONED plan, and no
other, is refused with TEMP_ABOVE_NEUTRAL when T_n less T_r is below -3.0 °C, with that difference as the input value. -/
def Obligations.TempRangeIsRefused : Prop :=
  ∀ (k : Schedule) (c : WeldCtx) (tR g0 : Int),
    (tR < -400 ∨ 650 < tR ↔ (workPlan k c tR g0).refusal = some (.tempRange, tR))
    ∧ (∀ v, (workPlan k c tR g0).refusal = some (.tempRange, v) → v = tR)
    ∧ (-400 ≤ tR → tR ≤ 650 →
      (c.mode = .tensioned ∧ (c.tN : Int) - tR < -30 ↔ ∃ v, (workPlan k c tR g0).refusal = some (.tempAboveNeutral, v))
      ∧ ∀ v, (workPlan k c tR g0).refusal = some (.tempAboveNeutral, v) → v = (c.tN : Int) - tR)

/-- R37 to R40: the required stretch and the required tension of a plan that passes the two temperature stages, each
rounded half up from its exact product; a tension above the bank's limit, and no other, refuses with TENSION_RANGE. -/
def Obligations.StretchAndTensionAreRoundedHalfUp : Prop :=
  ∀ (k : Schedule) (c : WeldCtx) (tR g0 : Int), -400 ≤ tR → tR ≤ 650 →
    (c.mode = .tensioned → -30 ≤ (c.tN : Int) - tR) →
    let dT : Nat := if c.mode = .tensioned then ((c.tN : Int) - tR).toNat else 0
    let n := c.pulled * k.alpha * dT
    let m := 210 * k.area * k.alpha * dT
    let r := workPlan k c tR g0
    r.plan.p = n / 10000 + (if 5000 ≤ n % 10000 then 1 else 0)
    ∧ r.plan.fReq = m / 10 ^ 9 + (if 500000000 ≤ m % 10 ^ 9 then 1 else 0)
    ∧ (k.fLim < r.plan.fReq ↔ r.refusal = some (.tensionRange, (r.plan.fReq : Int)))

/-- R38, R41 to R46: a FREE plan at a weldable temperature is accepted with P, F_req, G_t and E at 0 and B_adj at B_f,
whatever the gap. In a TENSIONED plan that passes the tension stage, the gap error against the planned consumption: within
the gap tolerance B_adj is B_f; otherwise B_adj is B_f less the error, held to [B_min, B_max], and a residual above the
gap tolerance refuses the plan with GAP_OUT_OF_RANGE and the error. The achieved neutral temperature is worked in a
TENSIONED weld in which heat began and in no other: T_r plus the quotient of the achieved stretch times 10 000 and L
times α, rounded half up. -/
def Obligations.BurnOffAndAchievedNeutralAreWorked : Prop :=
  (∀ (k : Schedule) (c : WeldCtx) (tR g0 : Int), -400 ≤ tR → tR ≤ 650 → c.mode = .tensioned → -30 ≤ (c.tN : Int) - tR →
      k.bMin ≤ k.bMax →
      let r := workPlan k c tR g0
      r.plan.fReq ≤ k.fLim →
      let e := g0 - ((r.plan.p : Int) - (k.cPre + k.bF + k.dBoost + k.dU))
      let held : Int := max k.bMin (min k.bMax (k.bF - e))
      r.plan.e = e ∧ r.plan.gT = g0 - e ∧ r.plan.cPlan = k.cPre + k.bF + k.dBoost + k.dU
      ∧ (e.natAbs ≤ k.tauG → r.plan.bAdj = k.bF ∧ r.refusal = none)
      ∧ (k.tauG < e.natAbs → (((k.bF : Int) - e) - held).natAbs ≤ k.tauG →
          (r.plan.bAdj : Int) = held ∧ r.refusal = none)
      ∧ (k.tauG < e.natAbs → k.tauG < (((k.bF : Int) - e) - held).natAbs →
          r.refusal = some (.gapOutOfRange, e)))
  ∧ (∀ (k : Schedule) (c : WeldCtx) (tR g0 : Int), -400 ≤ tR → tR ≤ 650 → c.mode = .free →
      workPlan k c tR g0 = { refusal := none, plan := { c.plan with
        tR := tR, g0 := g0, p := 0, fReq := 0, cPlan := k.cPre + k.bF + k.dBoost + k.dU, gT := 0, e := 0, bAdj := k.bF } })
  ∧ (∀ (k : Schedule) (c : WeldCtx), 0 < c.pulled * k.alpha →
      (c.mode = .tensioned → c.heatBegan = true →
        let stretch := (c.plan.g0 + (c.progress.preheatBurn + c.progress.flashBurn + c.progress.boostBurn
          + c.progress.upsetDistance : Nat)).toNat
        let d := c.pulled * k.alpha
        achievedNeutral k c = some (c.plan.tR
          + (stretch * 10000 / d + (if d ≤ 2 * (stretch * 10000 % d) then 1 else 0) : Nat)))
      ∧ (c.mode = .free ∨ c.heatBegan = false → achievedNeutral k c = none))

/-- R34, R54, R116, R131, R132, R134, R141: the answer of the planning measurement is taken in PLAN. A plan that is refused aborts with its kind
and value. In FREE mode an accepted plan enters POWER, which decides the claim (`ClaimDecided`). In TENSIONED mode no tensor on the own
side aborts with TENSOR_ABSENT, several abort with TENSOR_AMBIGUOUS and their number, and one is paired: CLOSE is
entered. The candidates are the rows that are LIVE, of role TENSOR and on the own side. With no call out and room in the queue the SET_CLOSURE goes out (R132); one that finds the queue full of other
frames aborts with TENSOR_TIMEOUT (R134); a silenced head takes it as sent (R148, R150; log 23); and while a call of an
earlier weld is out it waits (R141). The model's choices: the answer waits for its command (log 33), and with no answer
nothing changes (log 4). -/
def Obligations.ThePlanIsTaken : Prop :=
  (∀ (s : State) (c : WeldCtx) (tR g0 : Int), s.mfe.planning = .answered tR g0 → s.ctx = some c → s.wsq.seq = .plan →
    let k := (s.bank c.bank).image
    let r := workPlan k c tR g0
    let s0 : State := { s with mfe := { s.mfe with planning := .none }, ctx := some { c with plan := r.plan } }
    (∀ kind v, r.refusal = some (kind, v) →
      ∃ t, exec .planningMeasurement s = .next t ∧ Aborted kind (some v) s0 t)
    ∧ (r.refusal = none → c.mode = .free →
      ∃ t c', exec .planningMeasurement s = .next t ∧ t.ctx = some c' ∧ t.wsq = { s.wsq with seq := .power }
        ∧ c'.plan = r.plan ∧ c'.phaseReached = .power ∧ ClaimDecided c s t ∧ SameOutside s t)
    ∧ (r.refusal = none → c.mode = .tensioned → s.pairCandidates = [] →
      ∃ t, exec .planningMeasurement s = .next t ∧ Aborted .tensorAbsent none s0 t)
    ∧ (r.refusal = none → c.mode = .tensioned → 2 ≤ s.pairCandidates.length →
      ∃ t, exec .planningMeasurement s = .next t
        ∧ Aborted .tensorAmbiguous (some (s.pairCandidates.length : Int)) s0 t)
    ∧ (∀ n, r.refusal = none → c.mode = .tensioned → s.pairCandidates = [n] → s.tnl.call = none →
        s.lnp.calls = [] → s.lnp.queue.length < 7 → s.wsq.silence = false →
      ∃ t c', exec .planningMeasurement s = .next t ∧ t.ctx = some c' ∧ t.wsq = { s.wsq with seq := .close }
        ∧ c'.plan = r.plan ∧ c'.pair = some n ∧ c'.phaseReached = .close
        ∧ t.lnp.calls = [{ dest := n, number := s.lnp.nextCall, closure := true, deadline := none }]
        ∧ .call n s.lnp.nextCall (.setClosure r.plan.fReq (r.plan.g0 - k.workingGap).toNat c.weldNumber) ∈ t.lnp.queue
        ∧ SameOutside s t)
    ∧ (∀ n, r.refusal = none → c.mode = .tensioned → s.pairCandidates = [n] → s.tnl.call = none → s.lnp.calls = [] →
      (s.wsq.silence = true →
        ∃ t, exec .planningMeasurement s = .next t ∧ t.wsq = { s.wsq with seq := .close } ∧ t.lnp.queue = s.lnp.queue
          ∧ t.lnp.calls = [{ dest := n, number := s.lnp.nextCall, closure := true
                             deadline := some { length := 250, elapsed := 0 } }])
      ∧ (s.wsq.silence = false → 8 ≤ s.lnp.queue.length → .announce ∉ s.lnp.queue →
        ∃ t c', exec .planningMeasurement s = .next t ∧ t.ctx = some c' ∧ c'.abortKind = some .tensorTimeout
          ∧ c'.phaseReached = .close ∧ t.wsq.seq = .stopping ∧ t.lnp.calls = [] ∧ t.tnl.owed = s.tnl.owed))
    ∧ (∀ n, r.refusal = none → c.mode = .tensioned → s.pairCandidates = [n] → s.tnl.call.isSome = true →
      ∃ t c', exec .planningMeasurement s = .next t ∧ t.ctx = some c' ∧ t.wsq = { s.wsq with seq := .close }
        ∧ c'.pair = some n ∧ t.tnl = { s.tnl with closureWaiting := true } ∧ t.lnp.calls = s.lnp.calls))
  ∧ (∀ s : State, (∀ tR g0, s.mfe.planning ≠ .answered tR g0) →
      exec .planningMeasurement s = .next (gateCurrent s))
  ∧ (∀ s : State, s.pairCandidates.Nodup ∧ ∀ n, n ∈ s.pairCandidates ↔ 1 ≤ n ∧ n ≤ 14
      ∧ ∃ age st force, s.row n = .heard true (some s.lnp.side) age (.tensor st force))


/-! ### The timers of a weld -/

/-- R10 to R12, R53, R66, R69, R70, R81, R93, R121, R137, R138: the expiries and the findings of the MFE that abort a weld, each
in its state, with its kind and its input value. The clamp slip counts the samples below clamp_min in PREHEAT to UPSET and
leaves its notice at the fiftieth; a slip, a stroke limit or a platen stall that the order of a sample names first aborts
that sample (log 9). The stall is that of a full window of 200: four times the advance made, in units of a thousandth, less
than the sum of the velocity commands. An expiry acts at its command (log 2), a notice at its own (log 33). In STOPPING a slip, a stroke limit or a stall is
entered with that phase and leaves the abort kind (R69): at its notice, or at the sample that another of them, taken
first, has aborted. In HOLD, LET_GO and UNCLAMP a slip's notice is dropped (log 22). -/
def Obligations.ExpiriesAbortTheWeld : Prop :=
  ∀ (s : State) (c : WeldCtx), s.ctx = some c →
    ((s.wsq.seq = .clamp → timerDue s.wsq.clampTimer = true →
      ∃ t, exec .clampFail s = .next t ∧ Aborted .clampFail (some s.pressure) s t)
    ∧ (∀ p, s.mfe.slipNotice = some p → s.wsq.seq.abortable = true →
      ∃ t, exec .clampSlip s = .next t
        ∧ Aborted .clampSlip (some p) { s with mfe := { s.mfe with slipNotice := none } } t)
    ∧ (∀ p, s.mfe.slipNotice = some p →
      (s.wsq.seq = .stopping → ∃ t, exec .clampSlip s = .next (gateCurrent t)
        ∧ Entered .clampSlip (some p) { s with mfe := { s.mfe with slipNotice := none } } t)
      ∧ (s.wsq.seq = .hold ∨ s.wsq.seq = .letGo ∨ s.wsq.seq = .unclamp →
        exec .clampSlip s = .next (gateCurrent { s with mfe := { s.mfe with slipNotice := none } })))
    ∧ (s.wsq.seq = .preheat → s.frg.step = .approach → timerDue s.frg.approachTimer = true →
      ∃ t, exec .noContact s = .next t ∧ Aborted .noContact (some s.position) s t)
    ∧ (s.wsq.seq = .power → timerDue s.clu.claimWait = true →
      ∃ t, exec .powerDenied s = .next t ∧ Aborted .powerDenied (some s.clu.room) s t)
    ∧ (s.wsq.seq = .close → timerDue s.tnl.tensorWait = true →
      ∃ t, exec .tensorTimeout s = .next t ∧ Aborted .tensorTimeout s.pairedForce s t)
    ∧ (s.wsq.seq = .preheat ∨ s.wsq.seq = .power → timerDue s.frg.gateTimer = true →
      ∃ t, exec .tensorLost s = .next t ∧ Aborted .tensorLost s.pairedForce s t))
    ∧ ∀ (raw : Samples) (order : SampleOrder), s.pins.lineReset = false →
      let k := (s.bank c.bank).image
      let pressure := (takeInput .clampPressure raw.clampPressure s.mfe.inputs.clampPressure).value
      let position := (takeInput .position raw.position s.mfe.inputs.position).value
      let pressed : Prop := s.wsq.seq ∈ [.preheat, .flash, .boost, .upset]
      (pressed → NoNotices order →
        ∃ t, exec (.sample raw order) s = .next t ∧
          ((k.clampMin : Int) ≤ pressure → t.mfe.slip = 0)
          ∧ (pressure < k.clampMin → t.wsq.seq ∈ [.preheat, .flash, .boost, .upset] →
            t.mfe.slip = min (s.mfe.slip + 1) 50
            ∧ t.mfe.slipNotice = if s.mfe.slip + 1 = 50 then some pressure else s.mfe.slipNotice))
      ∧ (pressed → s.mfe.slip = 49 → pressure < k.clampMin →
        ∃ t, exec (.sample raw (.slip :: order)) s = .next t ∧ SampleAborted .clampSlip (some pressure) s t)
      ∧ (s.wsq.seq ∈ [.preheat, .flash, .boost] →
        ((k.strokeLimit : Int) ≤ position →
          ∃ t, exec (.sample raw (.limit :: order)) s = .next t ∧ SampleAborted .burnShort (some position) s t)
        ∧ (∀ (gone rest : List (Int × Int)) (old : Int × Int), s.frg.backoff = none → 10 ≤ s.mfe.set.velocity →
          s.mfe.stall = gone ++ old :: rest → rest.length = 198 →
          4 * (1000 * (position - old.2)) < (((old :: rest).map (·.1)).sum + s.mfe.set.velocity) →
          (∃ t, exec (.sample raw (.stall :: order)) s = .next t
            ∧ SampleAborted .platenStall (some (position - old.2)) s t ∧ t.wsq.lock = true)
          ∧ ((k.strokeLimit : Int) ≤ position → ∃ t, exec (.sample raw (.limit :: order)) s = .next t
            ∧ SampleAborted .burnShort (some position) s t ∧ ListedLate .platenStall c t ∧ t.wsq.lock = true)
          ∧ (s.mfe.slip = 49 → pressure < k.clampMin → ∃ t, exec (.sample raw (.slip :: order)) s = .next t
            ∧ SampleAborted .clampSlip (some pressure) s t ∧ ListedLate .platenStall c t ∧ t.wsq.lock = true))
        ∧ (s.mfe.slip = 49 → pressure < k.clampMin → (k.strokeLimit : Int) ≤ position →
          (∃ t, exec (.sample raw (.slip :: order)) s = .next t
            ∧ SampleAborted .clampSlip (some pressure) s t ∧ ListedLate .burnShort c t)
          ∧ (.slip ∈ order → ∃ t, exec (.sample raw (.limit :: order)) s = .next t
            ∧ SampleAborted .burnShort (some position) s t ∧ ListedLate .clampSlip c t)))
      ∧ (∀ v, s.pairedForce = some v ↔ ∃ (n : Nat) (live : Bool) (side : Option Side) (age : Nat) (st : TensorState)
          (force : Nat), c.pair = some n ∧ s.row n = .heard live side age (.tensor st force) ∧ v = force)

/-- The model's choice (log 4): without its timer due, or outside its state, an expiry changes nothing, and neither does
the end of an attempt that is not in progress. A timer is due at the sample at which its time has passed (log 2). -/
def Obligations.ExpiriesWaitForTheirTimers : Prop :=
  (∀ (x : Option Timer) (ms : Nat),
    (timerDue x = true ↔ ∃ w, x = some w ∧ (w.length : Int) ≤ w.elapsed + 1)
    ∧ (timerReached x ms = true ↔ ∃ w, x = some w ∧ (ms : Int) ≤ w.elapsed + 1))
  ∧ ∀ s : State,
    (s.wsq.seq ≠ .clamp ∨ timerDue s.wsq.clampTimer = false → exec .clampFail s = .next (gateCurrent s))
    ∧ (s.mfe.slipNotice = none → exec .clampSlip s = .next (gateCurrent s))
    ∧ (s.wsq.seq ≠ .preheat ∨ s.frg.step ≠ .approach ∨ timerDue s.frg.approachTimer = false →
        exec .noContact s = .next (gateCurrent s))
    ∧ (s.wsq.seq ≠ .preheat ∨ s.frg.step ≠ .contact ∨ timerDue s.frg.contactTimer = false →
        exec .contactEnd s = .next (gateCurrent s))
    ∧ (s.wsq.seq ≠ .preheat ∨ s.frg.step ≠ .opn ∨ timerDue s.frg.openTimer = false →
        exec .openEnd s = .next (gateCurrent s))
    ∧ (s.wsq.seq ≠ .flash ∨ timerDue s.frg.windowTimer = false → exec .windowEnd s = .next (gateCurrent s))
    ∧ (s.wsq.seq ≠ .hold ∨ timerDue s.wsq.holdTimer = false → exec .holdTimerExpiry s = .next (gateCurrent s))
    ∧ (s.wsq.seq ≠ .letGo ∨ timerDue s.wsq.releaseWait = false → exec .tensorSlow s = .next (gateCurrent s))
    ∧ (s.wsq.seq ≠ .power ∨ timerDue s.clu.claimWait = false → exec .powerDenied s = .next (gateCurrent s))
    ∧ (s.wsq.seq ≠ .close ∨ timerDue s.tnl.tensorWait = false → exec .tensorTimeout s = .next (gateCurrent s))
    ∧ (s.clu.step ≠ .settling ∨ timerDue s.clu.settleTimer = false → exec .settleTimerExpiry s = .next (gateCurrent s))
    ∧ (s.clu.step ≠ .backoff ∨ timerDue s.clu.backoffTimer = false →
        exec .backoffTimerExpiry s = .next (gateCurrent s))
    ∧ (s.clu.step ≠ .shed ∨ timerDue s.clu.shedTimer = false → exec .shedTimerExpiry s = .next (gateCurrent s))
    ∧ ((∀ b, s.frg.backoff = some b → b.timer.elapsed + 1 < b.timer.length) →
        exec .backoffLimit s = .next (gateCurrent s))
    ∧ (s.wsq.seq ≠ .upset ∨ s.wsq.tucExpired = true
          ∨ (∃ c, s.ctx = some c ∧ timerReached s.wsq.upsetTimer (s.bank c.bank).image.tUc = false) →
        exec .tUcExpiry s = .next (gateCurrent s))
    ∧ (s.wsq.seq ≠ .upset ∨ s.wsq.stroke ≠ .stroke ∨ timerDue s.wsq.upsetTimer = false →
        exec .upsetLimit s = .next (gateCurrent s))
    ∧ ((s.wsq.seq ≠ .unclamp ∧ s.wsq.seq ≠ .stopping) ∨ timerDue s.wsq.clampTimer = false →
        exec .unclampSlow s = .next (gateCurrent s))
    ∧ ((s.wsq.seq ≠ .preheat ∧ s.wsq.seq ≠ .power) ∨ timerDue s.frg.gateTimer = false →
        exec .tensorLost s = .next (gateCurrent s))
    ∧ (s.lnp.attempt = none →
        exec .attemptWon s = .next (gateCurrent s) ∧ exec .attemptLost s = .next (gateCurrent s))

/-- R76, R78, R80: the contact timer expires: the current demand is 0 at once, the platen retreats, contacts done rises, the
open begins from the platen position, and its timer runs for t_r after a completed group of a GROUPED preheat and for
t_o otherwise. At each sample of the open the platen retreats at -300 until it has come back by d_open, or to 0, and stands
from that sample on; the end is tested from the first sample after the contact's end (log 51). At a sample of a contact the
current demand is the scaled I_pre, and in the wait for the gate demand and velocity are 0. At those samples neither the
stroke limit nor the stall check can act, and the order takes no notice (log 9). -/
def Obligations.ContactEndsAndTheOpenBegins : Prop :=
  (∀ (s : State) (c : WeldCtx), s.ctx = some c → s.wsq.seq = .preheat → s.frg.step = .contact →
    timerDue s.frg.contactTimer = true →
    ∃ t c', exec .contactEnd s = .next t ∧ t.ctx = some c' ∧
      let k := (s.bank c.bank).image
      let length := if k.pattern = 1 ∧ s.frg.k % k.groupG = 0 then k.tR else k.tO
      SameTruncated
        { c with progress := { c.progress with contactsDone := c.progress.contactsDone + 1 } } c'
      ∧ t.mfe = { s.mfe with
          set := { s.mfe.set with current := 0, velocity := -300 }
          driven := { s.mfe.driven with current := 0 } }
      ∧ t.frg = { s.frg with
          step := .opn, contactTimer := none, openStart := s.position, retreatOver := false
          openTimer := some { length := length, elapsed := 0 } }
      ∧ t.wsq = s.wsq ∧ t.clu = s.clu ∧ t.tnl = s.tnl ∧ t.lnp = s.lnp ∧ t.rst = s.rst
      ∧ SameProgram s t ∧ SameOutside s t)
  ∧ (∀ (raw : Samples) (order : SampleOrder) (s : State) (c : WeldCtx), s.pins.lineReset = false → s.ctx = some c →
    s.wsq.seq = .preheat → s.mfe.stall.length < 199 → NoNotices order →
    ((takeInput .position raw.position s.mfe.inputs.position).value < (s.bank c.bank).image.strokeLimit) →
    ∃ t, exec (.sample raw order) s = .next t ∧
      let k := (s.bank c.bank).image
      let back : Prop := t.position ≤ max (s.frg.openStart - k.dOpen) 0
      (s.frg.step = .opn → t.wsq.seq = .preheat ∧ t.frg.step = .opn
        ∧ (s.frg.retreatOver = true → t.mfe.set = s.mfe.set ∧ t.frg.retreatOver = true)
        ∧ (s.frg.retreatOver = false → back →
          t.mfe.set = { s.mfe.set with velocity := 0 } ∧ t.frg.retreatOver = true)
        ∧ (s.frg.retreatOver = false → ¬back →
          t.mfe.set = { s.mfe.set with velocity := -300 } ∧ t.frg.retreatOver = false))
      ∧ (s.frg.step = .contact → t.wsq.seq = .preheat ∧ t.frg.step = .contact
        ∧ t.mfe.set = { s.mfe.set with current := k.iPre * c.share / 1000 })
      ∧ (s.frg.step = .gateWait → t.wsq.seq = .preheat ∧ t.frg.step = .gateWait
        ∧ t.mfe.set = { s.mfe.set with current := 0, velocity := 0 }))

/-- R77, R80, R82 to R86, R88: the open timer expires: the preheat burn is written; short of N_pre the next approach begins;
after the last contact a FREE weld enters FLASH, with its rate window bounds, the scaled I_flash and the velocity of the law
at no burn, and a TENSIONED one enters FLASH if the
tension gate is met and waits for it otherwise. -/
def Obligations.OpenEndsInApproachFlashOrWait : Prop :=
  ∀ (s : State) (c : WeldCtx), s.ctx = some c → s.wsq.seq = .preheat → s.frg.step = .opn →
    timerDue s.frg.openTimer = true →
    ∃ t c', exec .openEnd s = .next t ∧ t.ctx = some c' ∧
      let k := (s.bank c.bank).image
      c'.progress.preheatBurn = (s.position - s.frg.preheatEntry).toNat
      ∧ (s.frg.k < k.nPre →
          t.wsq = s.wsq ∧ t.mfe.set = { s.mfe.set with current := 0, velocity := k.vApp }
          ∧ t.frg = { s.frg with
              k := s.frg.k + 1, step := .approach, openTimer := none
              approachTimer := some { length := 2000, elapsed := 0 } })
      ∧ (k.nPre ≤ s.frg.k → c.mode = .free ∨ s.gateHolds = true →
          t.wsq = { s.wsq with seq := .flash } ∧ c'.phaseReached = .flash
          ∧ c'.progress.flashBurn = 0 ∧ c'.progress.flashTime = 0 ∧ t.mfe.onsets = 0
          ∧ t.mfe.set = { s.mfe.set with
              current := k.iFlash * c.share / 1000, velocity := max 5 (min 300 ((k.vS * c.share / 1000 : Nat) : Int)) }
          ∧ t.frg.rMin = k.rC * 8 / (8 + k.bandwidth)
          ∧ t.frg.rMax = k.rC * (8 + k.bandwidth) / 8 + (if k.rC * (8 + k.bandwidth) % 8 = 0 then 0 else 1)
          ∧ t.frg.windowTimer = some { length := 100, elapsed := 0 } ∧ t.frg.corrK = 0 ∧ t.frg.unstable = 0
          ∧ t.frg.flashEntry = s.position)
      ∧ (k.nPre ≤ s.frg.k → c.mode = .tensioned → s.gateHolds = false →
          t.wsq = s.wsq ∧ t.mfe.set = { s.mfe.set with current := 0, velocity := 0 } ∧ t.tnl.watch = .heatEntry
          ∧ t.frg = { s.frg with
              step := .gateWait, openTimer := none
              gateTimer := some { length := k.tensorWait * 1000, elapsed := 0 } })

/-- R87: a flash rate window ends: the onset count is taken and zeroed, the rate is ten times it, the correction and the
unstable count follow the bounds, and the window timer begins again. Below U unstable windows the weld goes on; at U it
aborts with FLASH_UNSTABLE. The next window is counted from the time of the expiry (log 35), at which it is taken (log 2). -/
def Obligations.RateWindowCorrectsOrAborts : Prop :=
  ∀ (s : State) (c : WeldCtx) (w : Timer), s.ctx = some c → s.wsq.seq = .flash → s.frg.windowTimer = some w →
    w.due = true →
    ∃ t c', exec .windowEnd s = .next t ∧ t.ctx = some c' ∧
      let k := (s.bank c.bank).image
      let r := s.mfe.onsets * 10
      let k' : Int :=
        if r < s.frg.rMin then min (s.frg.corrK + k.stepS) k.kLim
        else if s.frg.rMax < r then max (s.frg.corrK - k.stepS) (-(k.kLim : Int)) else s.frg.corrK
      let u := if s.frg.rMin ≤ r ∧ r ≤ s.frg.rMax then 0 else s.frg.unstable + 1
      t.frg.corrK = k' ∧ t.frg.unstable = u ∧ t.frg.lastRate = r ∧ t.mfe.onsets = 0
      ∧ (u < k.unstableLimit →
          t.wsq = s.wsq ∧ SameTruncated c c' ∧ t.mfe = { s.mfe with onsets := 0 }
          ∧ t.frg.windowTimer = some { w with elapsed := w.elapsed - w.length }
          ∧ t.clu = s.clu ∧ t.tnl = s.tnl ∧ t.lnp = s.lnp ∧ t.rst = s.rst ∧ SameOutside s t)
      ∧ (k.unstableLimit ≤ u →
          t.wsq.seq = .stopping ∧ c'.abortKind = some .flashUnstable ∧ t.frg.windowTimer = none
          ∧ t.mfe.set = { current := 0, velocity := 0, force := 0, clamp := .opn })

/-- R100 to R107, R127: the two marks of the upset timer, and the stroke at each sample. At t_uc the current demand goes to 0
and a claim held is given back; at 2 s a stroke still running is ended short. At a sample in STROKE the upset distance and
the peak force are worked; the stroke ends on distance at d_u, or on force at F_up_max, short of d_u_min with UPSET_SHORT;
once ended both are frozen. UPSET ends for HOLD when both the stroke and t_uc are over, and goes on while one is not. At the
entry to HOLD the hold timer starts, and in TENSIONED mode the gate is evaluated once: not met, it enters HOLD_BROKEN and sets
its mark (`HoldBegun`). The order of a sample takes no notice there (log 9); where it takes a clamp slip first, the abort leaves both figures as they
are at that sample. The marks are taken at their commands (log 2), and the upset timer stops on entry to HOLD (log 49). -/
def Obligations.UpsetTimerEndsHeatAndStroke : Prop :=
  (∀ (s : State) (c : WeldCtx), s.ctx = some c → s.wsq.seq = .upset → s.wsq.tucExpired = false →
      timerReached s.wsq.upsetTimer (s.bank c.bank).image.tUc = true →
    ∃ t c', exec .tUcExpiry s = .next t ∧ t.ctx = some c' ∧ t.wsq.tucExpired = true ∧ t.mfe.set.current = 0
      ∧ t.mfe.driven.current = 0 ∧ t.clu.step = .idle
      ∧ (s.clu.step = .granted ∨ s.clu.step = .shed → t.clu.ownClaim = 0)
      ∧ (s.wsq.stroke ≠ .ended →
          t.wsq = { s.wsq with tucExpired := true } ∧ t.mfe.set = { s.mfe.set with current := 0 } ∧ SameTruncated c c')
      ∧ (s.wsq.stroke = .ended → HoldBegun c s t))
  ∧ (∀ (s : State) (c : WeldCtx), s.ctx = some c → s.wsq.seq = .upset → s.wsq.stroke = .stroke →
      timerDue s.wsq.upsetTimer = true →
    ∃ t c', exec .upsetLimit s = .next t ∧ t.ctx = some c' ∧ t.wsq.stroke = .ended
      ∧ (c'.overflow = true ∨ .upsetShort ∈ c'.faults.map (·.kind))
      ∧ c'.progress.upsetDistance = c.progress.upsetDistance ∧ c'.progress.peakForce = c.progress.peakForce
      ∧ (s.wsq.tucExpired = false →
          t.wsq = { s.wsq with stroke := .ended } ∧ t.mfe.set = { s.mfe.set with velocity := 0 })
      ∧ (s.wsq.tucExpired = true → HoldBegun c s t))
  ∧ (∀ (raw : Samples) (order : SampleOrder) (s : State) (c : WeldCtx), s.pins.lineReset = false → s.ctx = some c →
      s.wsq.seq = .upset → NoNotices order →
    ∃ t c', exec (.sample raw order) s = .next t ∧ t.ctx = some c' ∧
      let k := (s.bank c.bank).image
      let d := (t.position - s.wsq.upsetEntry).toNat
      let onDistance := k.dU ≤ d
      let onForce := d < k.dU ∧ (k.fUpMax : Int) ≤ t.input .force
      let short := .upsetShort ∈ c'.faults.map (·.kind)
      let demand := if s.wsq.tucExpired then s.mfe.set.current else k.iUpset * c.share / 1000
      (s.wsq.stroke = .stroke →
        c'.progress.upsetDistance = d
        ∧ c'.progress.peakForce = max c.progress.peakForce (t.input .force).toNat
        ∧ (¬onDistance → ¬onForce → t.wsq.seq = .upset ∧ t.wsq.stroke = .stroke ∧ c'.faults = c.faults
          ∧ t.mfe.set = { s.mfe.set with current := demand })
        ∧ (onDistance ∨ onForce →
          t.wsq.stroke = .ended ∧ t.mfe.set.velocity = 0
          ∧ (onForce → d < k.dUMin → c'.overflow = true ∨ short)
          ∧ (s.wsq.tucExpired = false → t.wsq.seq = .upset
            ∧ t.mfe.set = { s.mfe.set with current := demand, velocity := 0 }
            ∧ (onDistance ∨ k.dUMin ≤ d → c'.faults = c.faults))
          ∧ (s.wsq.tucExpired = true → HoldBegun c s t)))
      ∧ (s.wsq.stroke = .ended →
        c'.progress.upsetDistance = c.progress.upsetDistance ∧ c'.progress.peakForce = c.progress.peakForce))
  ∧ (∀ (raw : Samples) (order : SampleOrder) (s : State) (c : WeldCtx), s.pins.lineReset = false → s.ctx = some c →
      s.wsq.seq = .upset → s.mfe.slip = 49 →
      (takeInput .clampPressure raw.clampPressure s.mfe.inputs.clampPressure).value < (s.bank c.bank).image.clampMin →
    ∃ t c', exec (.sample raw (.slip :: order)) s = .next t ∧ t.ctx = some c' ∧ t.wsq.seq = .stopping
      ∧ t.wsq.stroke = .none ∧ c'.abortKind = some .clampSlip
      ∧ (s.wsq.stroke = .stroke →
        c'.progress.upsetDistance = (t.position - s.wsq.upsetEntry).toNat
        ∧ c'.progress.peakForce = max c.progress.peakForce (t.input .force).toNat)
      ∧ (s.wsq.stroke ≠ .stroke →
        c'.progress.upsetDistance = c.progress.upsetDistance ∧ c'.progress.peakForce = c.progress.peakForce))

/-- R106, R109, R111, R140: the hold timer expires: the force goes to 0 and hold elapsed stands at t_h. A FREE weld enters
UNCLAMP, which drives the clamps open and starts their 5 s; a TENSIONED one enters LET_GO, which starts the release wait
of 30 s, or goes straight on to UNCLAMP when the paired row passes the release test. On entry to LET_GO the paired tensor is
called with LET_GO, here with no call out and room in the queue; a silenced head sends none. At a sample of HOLD hold
elapsed rises by 1 ms, up to t_h times 1000, the hold timer runs on (log 2), and the outputs, the marks and the rest of the context
stand; its order takes no notice (log 9), and the ticks counted stand too (log 27). -/
def Obligations.HoldEndsInLetGoOrUnclamp : Prop :=
  (∀ (raw : Samples) (order : SampleOrder) (s : State) (c : WeldCtx), s.pins.lineReset = false → s.ctx = some c →
      s.wsq.seq = .hold → NoNotices order →
    ∃ t, exec (.sample raw order) s = .next t ∧ t.wsq.seq = .hold
      ∧ t.ctx = some { c with progress := { c.progress with
          holdElapsed := min (c.progress.holdElapsed + 1) ((s.bank c.bank).image.tH * 1000) } }
      ∧ t.wsq.holdTimer = s.wsq.holdTimer.map (fun w => { w with elapsed := w.elapsed + 1 })
      ∧ t.mfe.set = s.mfe.set ∧ t.wsq.holdBroken = s.wsq.holdBroken ∧ t.wsq.holdTicks = s.wsq.holdTicks
      ∧ t.tnl.watch = s.tnl.watch ∧ t.tnl.gateMet = s.tnl.gateMet ∧ t.rst = s.rst)
  ∧ ∀ (s : State) (c : WeldCtx), s.ctx = some c → s.wsq.seq = .hold → timerDue s.wsq.holdTimer = true →
    ∃ t c', exec .holdTimerExpiry s = .next t ∧ t.ctx = some c'
      ∧ c'.progress = { c.progress with holdElapsed := (s.bank c.bank).image.tH * 1000 }
      ∧ t.wsq.holdTimer = none ∧ t.tnl.watch = .none ∧ t.mfe.driven.current = 0 ∧ t.frg = s.frg ∧ t.clu = s.clu
      ∧ (c.mode = .free ∨ s.releaseHolds = true →
          t.wsq.seq = .unclamp ∧ c'.phaseReached = .unclamp
          ∧ t.wsq.clampTimer = some { length := 5000, elapsed := 0 }
          ∧ t.mfe.set = { s.mfe.set with force := 0, clamp := .opn })
      ∧ (c.mode = .tensioned → s.releaseHolds = false →
          t.wsq.seq = .letGo ∧ c'.phaseReached = .letGo
          ∧ t.wsq.releaseWait = some { length := 30000, elapsed := 0 } ∧ t.mfe.set = { s.mfe.set with force := 0 })
      ∧ (∀ p, c.mode = .tensioned → c.pair = some p → s.wsq.silence = false → s.lnp.calls = [] →
          s.lnp.queue.length < 7 →
          .call p s.lnp.nextCall (.letGo c.weldNumber) ∈ t.lnp.queue
          ∧ t.lnp.calls = [{ dest := p, number := s.lnp.nextCall, closure := false, deadline := none }]
          ∧ t.tnl.call = some { closure := false, dest := p, weldNumber := c.weldNumber, number := some s.lnp.nextCall })
      ∧ (c.mode = .free ∨ s.wsq.silence = true → t.lnp.calls = s.lnp.calls ∧ t.tnl.call = s.tnl.call)
      ∧ SameOutside s t

/-- R68, R110, R111, R174, R175, R178: a release wait that expires enters TENSOR_SLOW and goes on to UNCLAMP; a clamp timer that expires in
UNCLAMP or STOPPING enters UNCLAMP_SLOW, with the clamp pressure in both (log 46), and the outcome is built all the same
(`OutcomeBuilt`), with its verdict, its record and the commit that begins at once when the target block is ERASED. -/
def Obligations.SlowReleasesAreEnteredAndPassed : Prop :=
  (∀ (s : State) (c : WeldCtx), s.ctx = some c → s.wsq.seq = .letGo → timerDue s.wsq.releaseWait = true →
    ∃ t c', exec .tensorSlow s = .next t ∧ t.ctx = some c'
      ∧ (c'.overflow = true ∨ .tensorSlow ∈ c'.faults.map (·.kind))
      ∧ c'.phaseReached = .unclamp ∧ c'.abortKind = c.abortKind
      ∧ t.wsq = { s.wsq with
          seq := .unclamp, releaseWait := none, clampTimer := some { length := 5000, elapsed := 0 } }
      ∧ t.mfe.set = { s.mfe.set with clamp := .opn }
      ∧ t.rst.log = s.rst.log.file
          { kind := .tensorSlow, state := .letGo, weldNumber := some c.weldNumber, input := s.pairedForce })
  ∧ (∀ (s : State) (c : WeldCtx), s.ctx = some c → s.wsq.seq = .unclamp ∨ s.wsq.seq = .stopping →
      timerDue s.wsq.clampTimer = true →
    ∃ t v, exec .unclampSlow s = .next t ∧ KindEntered .unclampSlow s.wsq.seq (some s.pressure) s v ∧ t.ctx = none
      ∧ t.wsq.seq = (if s.wsq.silence then .offline else if s.wsq.lock then .locked else .ready)
      ∧ t.wsq.lastWeldNumber = c.weldNumber ∧ t.mfe.set = s.mfe.set
      ∧ ∃ p, t.rst.slot = some p ∧ RecordOf c s.lnp.side p.record ∧ CommitTested false t p
        ∧ p.record.verdict = t.wsq.lastVerdict
        ∧ t.wsq.lastVerdict = some (verdictOf { c with faults := p.record.faults, overflow := p.record.overflow })
        ∧ (p.record.overflow = true ∨ .unclampSlow ∈ p.record.faults.map (·.kind))
        ∧ OutcomeBuilt (s.bank c.bank).image v t p)

/-- R106, R159, R160, R163 to R166: the two ticks of the capture, and what an activation writes. TICK_10MS begins its
next period (log 35), HOLD_TICK counts the next whole second of a hold (log 27), each at its command (log 2), and each then
runs its chain and does nothing else. An activation of any source runs the descriptor its vector names and then the chain
from it, each descriptor once (`ChainRun`). A spent descriptor writes nothing. Another writes the values of its channel
list in list order (`DescriptorRun`): a value that passes the merge test extends the entry it merges into; any other becomes
a new entry at the write position, which steps on, back to the start of a RING; a ONCE segment that is full loses it and
marks the trace truncated; and the remaining count falls once, at its end or a full ONCE segment with the descriptor spent
or the RING's count reloaded. A source without a vector writes nothing, nor does one outside a weld. Each of the twelve channels is the quantity that
R163 names, the tensor force that of the paired tensor's row, LIVE or STALE, and 0 without one. The model's choices: before its time a tick does nothing (log 4), nor does HOLD_TICK in the last second, which the expiry raises (log 27). -/
def Obligations.CaptureTicks : Prop :=
  (∀ (s : State) (c : WeldCtx) (w : Timer), s.ctx = some c → s.cap.tick = some w → w.due = true →
    exec .tick10ms s = .next (gateCurrent (activate .tick10ms { s with
      cap := { s.cap with tick := some { w with elapsed := w.elapsed - w.length } } })))
  ∧ (∀ (s : State) (c : WeldCtx), s.ctx = some c → s.wsq.seq = .hold →
      (s.wsq.holdTicks + 1 < (s.bank c.bank).image.tH →
        (s.wsq.holdTicks + 1) * 1000 ≤ c.progress.holdElapsed + 1 →
        exec .holdTick s = .next (gateCurrent (activate .holdTick { s with
          wsq := { s.wsq with holdTicks := s.wsq.holdTicks + 1 } })))
      ∧ (c.progress.holdElapsed + 1 < (s.wsq.holdTicks + 1) * 1000
          ∨ (s.bank c.bank).image.tH ≤ s.wsq.holdTicks + 1 →
        exec .holdTick s = .next (gateCurrent s)))
  ∧ (∀ s : State, s.ctx = none ∨ timerDue s.cap.tick = false → exec .tick10ms s = .next (gateCurrent s))
  ∧ [Source.tick10ms, .windowEnd, .phaseEntry, .contactStart, .contactEnd, .freeze, .claimChange, .tensorReport, .upsetPeak,
      .fault, .holdTick, .weldEnd].map Source.code = List.range 12
  ∧ (∀ s : State,
      s.channelValue .current = s.mfe.inputs.current.value ∧ s.channelValue .voltage = s.mfe.inputs.voltage.value
      ∧ s.channelValue .position = s.mfe.inputs.position.value ∧ s.channelValue .velocity = s.mfe.driven.velocity
      ∧ s.channelValue .force = s.mfe.inputs.force.value ∧ s.channelValue .rate = s.frg.lastRate
      ∧ s.channelValue .corrK = s.frg.corrK ∧ s.channelValue .claim = s.clu.ownClaim
      ∧ s.channelValue .energy = (min (s.mfe.energy / 10 ^ 6) 999999 : Nat)
      ∧ ∀ c, s.ctx = some c →
        s.channelValue .share = c.share ∧ s.channelValue .burn = c.progress.flashBurn
        ∧ (∀ p live side age st force, c.pair = some p → s.row p = .heard live side age (.tensor st force) →
          s.channelValue .tensorForce = (force : Nat))
        ∧ (c.pair = none ∨ (∃ p, c.pair = some p ∧ s.row p = .empty) → s.channelValue .tensorForce = 0))
  ∧ (∀ s : State, s.wsq.seq ≠ .hold → exec .holdTick s = .next (gateCurrent s))
  ∧ (∀ (src : Source) (s : State), s.ctx = none ∨ s.cap.program.vectors.getD src.code none = none → activate src s = s)
  ∧ (∀ (src : Source) (s : State) (d : Nat), s.ctx.isSome = true → TraceFits s →
      s.cap.program.descriptors.length ≤ 24 → s.cap.program.vectors.getD src.code none = some d →
      ChainRun d [] s (activate src s))

/-! ### Frames received -/

/-- R113, R114, R116, R118, R119, R122 to R126, R153, R154: an ANNOUNCE makes its station's row LIVE at age 0 with its side,
role and fields and leaves every other row; a CLAIM or YIELD sets the claim of a row heard in role HEAD and is discarded on
any other. At every change of a row but the paired one Q in force is worked and the CLU acts by its step. IDLE and BACKOFF
note it. WAITING decides afresh. SENDING and SETTLING yield to a lower number on a conflict, and decide again where the
capacity fell below the claims (log 43 for the order). The highest claimant's POWER_LOST at a notice in SHED carries the
spare power (log 53), and a field above its range stands and counts as sent (log 54). GRANTED shrinks to a spare power of D_min or more; below it the
highest claimant aborts and another sheds for 100 ms, at D_min. SHED goes back to GRANTED, aborts, or stays. With every POWER
row EMPTY the weld is aborted, in POWER with POWER_DENIED and else with POWER_LOST. A POWER row offers its kVA in RUNNING and
DERATED and 0 in STOPPED, a HEAD row shows its claim, and any other row offers and claims nothing. -/
def Obligations.RowsAreSetByFrames : Prop :=
  (∀ (bytes : List Byte) (source : Nat) (side : Option Side) (role : RoleData) (s : State),
      FrameTaken bytes source (.announce side role) s → s.lnp.peers.length = 14 →
      ∃ t, exec (.announceFrame bytes) s = .next t
        ∧ t.lnp.peers = s.lnp.peers.set (source - 1) (.heard true side 0 role)
        ∧ (∀ u offered, role = .power u offered → t.clu.qInForce = (t.lnp.peers.map PeerRow.offer).sum)
        ∧ ((∀ u offered, role ≠ .power u offered) → (s.row source).isPower = false → s.clu.step = .idle →
            s.pair ≠ some source →
            t = gateCurrent { s with
              lnp := { s.lnp with peers := s.lnp.peers.set (source - 1) (.heard true side 0 role) } })
        ∧ SameOutside s t)
  ∧ (∀ (bytes : List Byte) (source : Nat) (s : State),
      (∀ (amount : Nat) (live : Bool) (side : Option Side) (age state claim : Nat),
        FrameTaken bytes source (.claim amount) s → s.row source = .heard live side age (.head state claim) →
        ∃ t, exec (.claimFrame bytes) s = .next t ∧ SameOutside s t
          ∧ t.lnp.peers = s.lnp.peers.set (source - 1) (.heard live side age (.head state amount)))
      ∧ (∀ (live : Bool) (side : Option Side) (age state claim : Nat),
        FrameTaken bytes source .yieldClaim s → s.row source = .heard live side age (.head state claim) →
        ∃ t, exec (.yieldFrame bytes) s = .next t ∧ SameOutside s t
          ∧ t.lnp.peers = s.lnp.peers.set (source - 1) (.heard live side age (.head state 0)))
      ∧ ((∀ live side age state claim, s.row source ≠ .heard live side age (.head state claim)) →
        (∀ amount, FrameTaken bytes source (.claim amount) s → exec (.claimFrame bytes) s = .next (gateCurrent s))
        ∧ (FrameTaken bytes source .yieldClaim s → exec (.yieldFrame bytes) s = .next (gateCurrent s))))
  ∧ (∀ (n : Nat) (row : PeerRow) (i : Instr) (s : State) (c : WeldCtx), RowChange s n row i → s.ctx = some c →
      c.pair ≠ some n → 1 ≤ n → n ≤ 14 → s.lnp.peers.length = 14 →
      let u := s.withRow n row
      let noted := exec i s = .next (gateCurrent u)
      let own : Int := s.clu.ownClaim
      let spare : Int := (u.clu.qInForce : Int) - u.othersClaims
      let room : Int := if u.anyPowerLive then spare else 0
      let sums := u.clu.qInForce ≠ s.clu.qInForce ∨ u.othersClaims ≠ s.othersClaims
      let lost := s.anyPowerHeard = true ∧ u.anyPowerHeard = false
      let fell := u.clu.qInForce < s.clu.qInForce ∨ (s.anyPowerLive = true ∧ u.anyPowerLive = false)
      let conflict := (s.row n).claim < row.claim ∧ spare < own ∧ n < s.lnp.station
      let capacity : Int := if u.anyPowerLive then u.clu.qInForce else 0
      let highest := ∀ m, 1 ≤ m → m ≤ 14 → (u.row m).claim = 0 ∨ m < s.lnp.station
      let claimed (t : State) (amount : Int) := t.clu.step = .sending ∧ (t.clu.ownClaim : Int) = amount
        ∧ (s.wsq.silence = false → s.lnp.queue.length < 7 → .claim t.clu.ownClaim c.weldNumber t.clu.serial ∈ t.lnp.queue)
      let yielded (t : State) := t.clu.ownClaim = 0
        ∧ (s.wsq.silence = false → s.lnp.queue.length < 7 → .yieldClaim c.weldNumber ∈ t.lnp.queue)
      (s.clu.step = .idle ∨ s.clu.step = .backoff → noted)
      ∧ (s.clu.step = .waiting →
        (¬sums → u.anyPowerLive = s.anyPowerLive → noted)
        ∧ (sums ∨ u.anyPowerLive ≠ s.anyPowerLive → s.wsq.silence = false →
          ∃ t, exec i s = .next t ∧ t.clu.room = room ∧ t.wsq = s.wsq ∧ t.mfe.set = s.mfe.set
            ∧ ((c.demand : Int) ≤ room → claimed t c.demand)
            ∧ (room < c.demand → (c.dMin : Int) ≤ room → claimed t room)
            ∧ (room < c.demand → room < c.dMin → t.clu.step = .waiting ∧ t.clu.ownClaim = s.clu.ownClaim)))
      ∧ (s.clu.step = .sending ∨ s.clu.step = .settling →
        (conflict → ∃ t, exec i s = .next t ∧ yielded t ∧ t.wsq = s.wsq ∧ t.clu.step = .backoff
          ∧ t.clu.settleTimer = none ∧ t.clu.backoffTimer = some { length := s.lnp.station * 20, elapsed := 0 })
        ∧ (¬conflict → fell → capacity < own + u.othersClaims → s.wsq.silence = false →
          ∃ t, exec i s = .next t ∧ t.clu.room = room ∧ t.clu.settleTimer = none ∧ t.wsq = s.wsq
            ∧ ((c.demand : Int) ≤ room → claimed t c.demand)
            ∧ (room < c.demand → (c.dMin : Int) ≤ room → claimed t room)
            ∧ (room < c.demand → room < c.dMin → t.clu.step = .waiting ∧ yielded t))
        ∧ (¬conflict → ¬(fell ∧ capacity < own + u.othersClaims) → noted))
      ∧ (s.clu.step = .granted ∨ s.clu.step = .shed → s.wsq.seq.abortable = true →
        (lost → ∃ t, exec i s = .next t
          ∧ Aborted (if s.wsq.seq = .power then .powerDenied else .powerLost) none u t)
        ∧ (¬lost → ¬sums → noted)
        ∧ (¬lost → sums → own ≤ spare → exec i s = .next (gateCurrent { u with
            clu := if s.clu.step = .shed then { u.clu with step := .granted, shedTimer := none } else u.clu }))
        ∧ (¬lost → sums → spare < own → s.clu.step = .shed ∨ spare < c.dMin → highest →
          ∃ t, exec i s = .next t
            ∧ Aborted (if s.wsq.seq = .power then .powerDenied else .powerLost) (some spare) u t)
        ∧ (¬lost → sums → spare < own → s.clu.step = .shed → ¬highest → noted)
        ∧ (¬lost → sums → spare < own → s.clu.step = .granted → (c.dMin : Int) ≤ spare ∨ ¬highest →
          let amount : Int := if (c.dMin : Int) ≤ spare then spare else if (c.dMin : Int) < own then c.dMin else own
          ∃ t c', exec i s = .next t ∧ t.ctx = some c' ∧ (t.clu.ownClaim : Int) = amount ∧ t.wsq = s.wsq
            ∧ (amount < own → (c'.granted : Int) = amount ∧ (c'.share : Int) = amount * 1000 / c.demand
              ∧ (c'.overflow = true ∨ .powerDegraded ∈ c'.faults.map (·.kind))
              ∧ (s.wsq.silence = false → s.lnp.queue.length < 7 →
                .claim t.clu.ownClaim c.weldNumber t.clu.serial ∈ t.lnp.queue))
            ∧ ((c.dMin : Int) ≤ spare → t.clu.step = .granted)
            ∧ (spare < c.dMin → t.clu.step = .shed ∧ t.clu.shedTimer = some { length := 100, elapsed := 0 }))))
  ∧ (∀ (live : Bool) (side : Option Side) (age : Nat) (role : RoleData),
      let row : PeerRow := .heard live side age role
      row.isLive = live
      ∧ row.claim = (match role with | .head _ claim => claim | _ => 0)
      ∧ row.offer = (match role with | .power .running offered => offered | .power .derated offered => offered | _ => 0)
      ∧ (row.isPower = true ↔ ∃ u offered, role = .power u offered))
  ∧ PeerRow.empty.isLive = false ∧ PeerRow.empty.claim = 0 ∧ PeerRow.empty.offer = 0 ∧ PeerRow.empty.isPower = false
  ∧ (∀ s : State, s.othersClaims = (s.lnp.peers.map PeerRow.claim).sum
      ∧ (s.anyPowerLive = true ↔ ∃ r ∈ s.lnp.peers, r.isPower = true ∧ r.isLive = true)
      ∧ (s.anyPowerHeard = true ↔ ∃ r ∈ s.lnp.peers, r.isPower = true)
      ∧ ∀ n, s.row n = if n = 0 then .empty else s.lnp.peers.getD (n - 1) .empty)

/-- R85, R88, R107, R109, R110, R116, R134, R136 to R139, R154: a LIVE row becomes STALE, with its fields kept, when 200 ms have passed since
its last ANNOUNCE, and a heard row becomes EMPTY when 2000 ms have; no other row changes. At a change of the paired row that
is no POWER row and shows no claim, the gate is evaluated for its watch: met in CLOSE it enters POWER, which decides the claim, met at heat entry it
enters FLASH, lost in HOLD it enters HOLD_BROKEN once; the release test that passes in LET_GO enters UNCLAMP; a row that is
EMPTY in CLOSE before the closure was accepted frees the call and aborts with TENSOR_TIMEOUT; and any other change does no
more than an activation can. The age is reached at the command (log 2); before its time, or on another row, the command does
nothing (log 4). -/
def Obligations.RowsGoStaleAndEmpty : Prop :=
  (∀ (n : BitVec 4) (s : State), 1 ≤ n.toNat → n.toNat ≤ 14 →
    (∀ (side : Option Side) (age : Nat) (role : RoleData), s.row n.toNat = .heard true side age role →
      (200 ≤ age + 1 → ∃ t, exec (.rowStale n) s = .next t ∧ SameOutside s t
        ∧ t.lnp.peers = s.lnp.peers.set (n.toNat - 1) (.heard false side age role))
      ∧ (age + 1 < 200 → exec (.rowStale n) s = .next (gateCurrent s)))
    ∧ ((s.row n.toNat).isLive = false → exec (.rowStale n) s = .next (gateCurrent s))
    ∧ (∀ (live : Bool) (side : Option Side) (age : Nat) (role : RoleData),
      s.row n.toNat = .heard live side age role →
      (2000 ≤ age + 1 → ∃ t, exec (.rowEmpty n) s = .next t ∧ SameOutside s t
        ∧ t.lnp.peers = s.lnp.peers.set (n.toNat - 1) .empty)
      ∧ (age + 1 < 2000 → exec (.rowEmpty n) s = .next (gateCurrent s)))
    ∧ (s.row n.toNat = .empty → exec (.rowEmpty n) s = .next (gateCurrent s)))
  ∧ (∀ (n : Nat) (row : PeerRow) (i : Instr) (s : State) (c : WeldCtx), RowChange s n row i → s.ctx = some c →
      c.pair = some n → 1 ≤ n → n ≤ 14 → (s.row n).isPower = false → row.isPower = false → (s.row n).claim = 0 →
      row.claim = 0 → s.lnp.peers.length = 14 →
      let u := s.withRow n row
      let failed := s.wsq.seq = .close ∧ s.tnl.closureAccepted = false ∧ row = .empty
      (s.tnl.watch = .close → s.tnl.gateMet = false → u.gateHolds = true → s.wsq.seq = .close →
        ∃ t c', exec i s = .next t ∧ t.ctx = some c' ∧ c'.phaseReached = .power ∧ t.wsq = { s.wsq with seq := .power }
          ∧ t.tnl = { s.tnl with watch := .none, tensorWait := none, gateMet := true } ∧ ClaimDecided c u t)
      ∧ (s.tnl.watch = .heatEntry → s.tnl.gateMet = false → u.gateHolds = true →
        ∃ t c', exec i s = .next t ∧ t.ctx = some c' ∧ c'.phaseReached = .flash ∧ t.wsq = { s.wsq with seq := .flash }
          ∧ t.tnl = { s.tnl with watch := .none, gateMet := true } ∧ t.frg.gateTimer = none
          ∧ t.frg.windowTimer = some { length := 100, elapsed := 0 }
          ∧ t.mfe.set = { s.mfe.set with
              current := (s.bank c.bank).image.iFlash * c.share / 1000
              velocity := max 5 (min 300 (((s.bank c.bank).image.vS * c.share / 1000 : Nat) : Int)) })
      ∧ (s.tnl.watch = .hold → s.tnl.gateMet = true → u.gateHolds = false → s.wsq.seq = .hold →
        ∃ t c', exec i s = .next t ∧ t.ctx = some c' ∧ t.wsq = { s.wsq with holdBroken := true }
          ∧ t.tnl = { s.tnl with gateMet := false }
          ∧ (s.wsq.holdBroken = false →
            SameTruncated (c.addFault .holdBroken .hold).1 c'
            ∧ t.rst.log = s.rst.log.file { kind := .holdBroken, state := .hold, weldNumber := some c.weldNumber
                                           input := u.pairedForce })
          ∧ (s.wsq.holdBroken = true → SameTruncated c c' ∧ t.rst = s.rst))
      ∧ (s.wsq.seq = .letGo → s.tnl.watch = .none → u.releaseHolds = true →
        ∃ t c', exec i s = .next t ∧ t.ctx = some c' ∧ c'.phaseReached = .unclamp
          ∧ t.wsq = { s.wsq with
              seq := .unclamp, releaseWait := none, clampTimer := some { length := 5000, elapsed := 0 } }
          ∧ t.mfe.set = { s.mfe.set with clamp := .opn })
      ∧ (failed → s.tnl.closureWaiting = true →
        ∃ t, exec i s = .next t ∧ Aborted .tensorTimeout none u t)
      ∧ (∀ k, failed → s.tnl.closureWaiting = false → s.tnl.call = some k → s.lnp.held = none →
        ∃ t, exec i s = .next t ∧ Aborted .tensorTimeout none { u with
          lnp := { u.lnp with calls := s.lnp.calls.filter (fun r => r.dest != k.dest) }
          tnl := { s.tnl with call := none } } t)
      ∧ (¬failed → s.tnl.watch = .none ∨ u.gateHolds = s.tnl.gateMet →
        s.wsq.seq ≠ .letGo ∨ u.releaseHolds = false →
        ∃ t c', exec i s = .next t ∧ t.ctx = some c' ∧ SameTruncated c c' ∧ t.wsq = s.wsq ∧ t.mfe = (gateCurrent s).mfe
          ∧ t.frg = s.frg ∧ t.clu = s.clu ∧ t.tnl = s.tnl ∧ t.lnp = u.lnp ∧ t.rst = s.rst ∧ SameProgram s t
          ∧ SameOutside s t))

/-- R33, R48, R59, R61, R162, R168: a WELD_START from a console that no condition of R59 turns away: the weld takes the next weld number, the
context is created with every plan and progress field, the granted amount and the share at 0, the named bank is bound,
the counts of the MFE start anew, trace memory is emptied and every used descriptor set to its start, CLAMP is entered with
the clamps closing and their 5 s running, its PHASE_ENTRY the first activation of the weld, and ACCEPTED is answered with the
number. -/
def Obligations.WeldStartIsAccepted : Prop :=
  ∀ (bytes : List Byte) (source number : Nat) (args : StartArgs) (bank : BankName) (mode : Mode) (s : State),
    FrameTaken bytes source (.weldStart number args) s → s.isConsole source = true → s.wsq.seq ≠ .locked →
    s.ctx = none → s.wsq.haltLatch = false → s.rst.slot = none → s.pins.headStop = false →
    bankOfCode args.bank = some bank → modeOfCode args.mode = some mode →
    20 ≤ args.pulled → args.pulled ≤ 400 → 100 ≤ args.tN → args.tN ≤ 400 →
    (s.bank bank).valid = true → (s.bank bank).installing = false → s.rst.nextWeld < 2 ^ 32 →
    ∃ t c, exec (.weldStart bytes) s = .next t ∧ t.ctx = some c
      ∧ c.weldNumber = s.rst.nextWeld ∧ c.workRef = args.workRef ∧ c.bank = bank ∧ c.mode = mode
      ∧ c.pulled = args.pulled ∧ c.tN = args.tN ∧ c.demand = (s.bank bank).image.demand
      ∧ c.dMin = (s.bank bank).image.dMin ∧ c.pair = none ∧ c.phaseReached = .clamp ∧ c.heatBegan = false
      ∧ c.plan = { tR := 0, g0 := 0, p := 0, fReq := 0, cPlan := 0, gT := 0, e := 0, bAdj := 0, tA := none }
      ∧ c.granted = 0 ∧ c.share = 0
      ∧ c.progress = { contactsDone := 0, preheatBurn := 0, flashBurn := 0, flashTime := 0, freezeCount := 0, boostBurn := 0
                       upsetDistance := 0, peakForce := 0, holdElapsed := 0, energy := 0 }
      ∧ c.abortKind = none ∧ c.faults = [] ∧ c.overflow = false ∧ c.verdict = none
      ∧ t.rst.nextWeld = s.rst.nextWeld + 1 ∧ t.rst.bankA = s.rst.bankA ∧ t.rst.bankB = s.rst.bankB
      ∧ t.wsq = { s.wsq with seq := .clamp, clampTimer := some { length := 5000, elapsed := 0 } }
      ∧ t.mfe.set = { s.mfe.set with clamp := .close } ∧ t.mfe.onsets = 0 ∧ t.mfe.energy = 0 ∧ t.mfe.stall = []
      ∧ t.mfe.slip = 0 ∧ t.cap.tick = some { length := 10, elapsed := 0 } ∧ t.tnl.closureAccepted = false
      ∧ (s.wsq.silence = false → s.lnp.queue.length < 7 →
          .answer source number .accepted s.rst.nextWeld ∈ t.lnp.queue)
      ∧ (∃ u, u.ctx.isSome = true ∧ u.mfe.inputs = s.mfe.inputs ∧ t.cap = (activate .phaseEntry u).cap
        ∧ u.cap = { s.cap with memory := [], runs := u.cap.runs, tick := some { length := 10, elapsed := 0 } }
        ∧ FreshRuns u.cap)
      ∧ SameOutside s t

/-- R58, R59: a WELD_START that is turned away: from no console ROLE, and from a console the first condition of R59 that
holds gives the answer, with result 0. The call changes nothing but the queue that takes its answer. A console is a row LIVE or STALE of role
CONSOLE. -/
def Obligations.WeldStartIsTurnedAway : Prop :=
  (∀ (s : State) (n : Nat), s.isConsole n = true ↔ ∃ live side age, s.row n = .heard live side age .console)
  ∧ (∀ (code : Nat) (bank : BankName) (mode : Mode),
    (bankOfCode code = some bank ↔ code = match bank with | .a => 0 | .b => 1)
    ∧ (modeOfCode code = some mode ↔ code = match mode with | .tensioned => 0 | .free => 1))
  ∧ ∀ (bytes : List Byte) (source number : Nat) (args : StartArgs) (s : State),
    FrameTaken bytes source (.weldStart number args) s → s.wsq.silence = false → s.lnp.queue.length < 8 →
    let answered (code : AnswerCode) := exec (.weldStart bytes) s = .next (gateCurrent { s with
      lnp := { s.lnp with queue := s.lnp.queue ++ [.answer source number code 0] } })
    let inRange := (bankOfCode args.bank).isSome = true ∧ (modeOfCode args.mode).isSome = true ∧ 20 ≤ args.pulled
      ∧ args.pulled ≤ 400 ∧ 100 ≤ args.tN ∧ args.tN ≤ 400
    (s.isConsole source = false → answered .role)
    ∧ (s.isConsole source = true →
      (s.wsq.seq = .locked → answered .locked)
      ∧ (s.wsq.seq ≠ .locked →
        (s.ctx.isSome = true → answered .busy)
        ∧ (s.ctx = none →
          (s.wsq.haltLatch = true → answered .halted)
          ∧ (s.wsq.haltLatch = false →
            (s.rst.slot.isSome = true → answered .recordPending)
            ∧ (s.rst.slot = none →
              (s.pins.headStop = true → answered .notReady)
              ∧ (s.pins.headStop = false →
                (¬inRange → answered .range)
                ∧ (∀ bank, inRange → bankOfCode args.bank = some bank →
                    (s.bank bank).valid = false ∨ (s.bank bank).installing = true ∨ 2 ^ 32 ≤ s.rst.nextWeld →
                    answered .notReady)))))))

/-- R58, R60, R66, R67: a WELD_STOP. From no console it is answered ROLE; in READY and LOCKED it is answered IDLE; in LET_GO,
UNCLAMP and STOPPING it is answered STOPPING with the weld number; none of these changes anything but the queue. From a
console it aborts the weld with OPERATOR_STOP in CLAMP to UPSET, answered STOPPING with the weld number, and enters
STOP_IN_HOLD in HOLD, answered HOLDING with it. -/
def Obligations.WeldStopActsByState : Prop :=
  ∀ (bytes : List Byte) (source number : Nat) (s : State),
    FrameTaken bytes source (.weldStop number) s → s.wsq.silence = false → s.lnp.queue.length < 8 →
    let answered (code : AnswerCode) (result : Nat) := exec (.weldStop bytes) s = .next (gateCurrent { s with
      lnp := { s.lnp with queue := s.lnp.queue ++ [.answer source number code result] } })
    (s.isConsole source = false → answered .role 0)
    ∧ (s.isConsole source = true →
      (s.wsq.seq = .ready ∨ s.wsq.seq = .locked → answered .idle 0)
      ∧ (∀ c, s.ctx = some c →
        (s.wsq.seq = .letGo ∨ s.wsq.seq = .unclamp ∨ s.wsq.seq = .stopping → answered .stopping c.weldNumber)
        ∧ (s.wsq.seq.abortable = true →
          ∃ t, exec (.weldStop bytes) s = .next t ∧ t.wsq.seq = .stopping
            ∧ t.mfe.set = { current := 0, velocity := 0, force := 0, clamp := .opn } ∧ t.mfe.driven.current = 0
            ∧ (s.lnp.queue.length < 5 → .answer source number .stopping c.weldNumber ∈ t.lnp.queue)
            ∧ ∃ c', t.ctx = some c' ∧ c'.abortKind = some .operatorStop
              ∧ (c'.overflow = true ∨ .operatorStop ∈ c'.faults.map (·.kind)))
        ∧ (s.wsq.seq = .hold → s.lnp.queue.length < 7 →
          ∃ t, exec (.weldStop bytes) s = .next t ∧ t.wsq = s.wsq ∧ t.mfe.set = s.mfe.set
            ∧ .answer source number .holding c.weldNumber ∈ t.lnp.queue
            ∧ ∃ c', t.ctx = some c' ∧ SameTruncated (c.addFault .stopInHold .hold).1 c')))

/-- R152: a SET_CLOSURE, a LET_GO or a call of an unknown kind, from whatever station, is answered UNSUPPORTED with
result 0 and has no other effect; a silenced head answers nothing, and an answer that finds the queue full of other
frames is dropped with LINE_FAULT. -/
def Obligations.OtherCallsAreUnsupported : Prop :=
  ∀ (bytes : List Byte) (source number : Nat) (s : State),
    let takenAs (c : Instr) :=
      (s.wsq.silence = false → s.lnp.queue.length < 8 → exec c s = .next (gateCurrent { s with
        lnp := { s.lnp with queue := s.lnp.queue ++ [.answer source number .unsupported 0] } }))
      ∧ (s.wsq.silence = true → exec c s = .next (gateCurrent s))
      ∧ (s.wsq.silence = false → 8 ≤ s.lnp.queue.length → .announce ∉ s.lnp.queue →
        exec c s = .next (gateCurrent { s with rst := { s.rst with
          log := (s.rst.log.file
            { kind := .lineFault, state := s.wsq.seq, weldNumber := s.weldNumber?, input := some 5 }) } }))
    (FrameTaken bytes source (.setClosure number) s → takenAs (.setClosureCall bytes))
    ∧ (FrameTaken bytes source (.letGo number) s → takenAs (.letGoCall bytes))
    ∧ (FrameTaken bytes source (.unknownCall number) s → takenAs (.unknownCallKind bytes))

/-- R116, R133, R134, R137, R140, R141, R151: an ANSWER frees the AWAITING call it matches, and one that matches none is
discarded. In CLOSE, an accepted SET_CLOSURE enters POWER, which decides the claim, if the tension gate is met and starts the tensor wait otherwise;
any other outcome aborts with TENSOR_REFUSED and the result, and a deadline with TENSOR_TIMEOUT. A LET_GO freed by either
enters nothing and moves nothing. A SET_CLOSURE held as a release owed is followed by a LET_GO on ACCEPTED, and by
nothing on any other answer or its deadline. These are stated of one call, outstanding to the station, with no call held
and no SET_CLOSURE waiting (`CallAwaits`); a SET_CLOSURE that waits in CLOSE goes out when the LET_GO before it is freed.
The model's choices: a deadline is taken at its command (log 2), and one with no call due changes nothing (log 4). -/
def Obligations.CallsAreFreed : Prop :=
  (∀ (bytes : List Byte) (source number outcome result : Nat) (s : State),
    FrameTaken bytes source (.answer number outcome result) s →
      (∀ r ∈ s.lnp.calls, ¬(r.dest = source ∧ r.number = number ∧ r.deadline.isSome = true)) →
      exec (.answerFrame bytes) s = .next (gateCurrent s))
  ∧ (∀ (bytes : List Byte) (source number outcome result : Nat) (s : State) (c : WeldCtx) (r : CallRecord)
      (k : TensorCall), FrameTaken bytes source (.answer number outcome result) s → CallAwaits source r k s →
      r.number = number → s.ctx = some c → s.wsq.seq = .close → k.closure = true → s.tnl.owed = none →
      let s0 : State := { s with lnp := { s.lnp with calls := [] }, tnl := { s.tnl with call := none } }
      (outcome = 0 → s.gateHolds = true →
        ∃ t c', exec (.answerFrame bytes) s = .next t ∧ t.ctx = some c' ∧ c'.phaseReached = .power
          ∧ t.wsq = { s.wsq with seq := .power } ∧ t.lnp.calls = [] ∧ t.tnl.call = none
          ∧ t.tnl.closureAccepted = true ∧ t.tnl.watch = .none ∧ ClaimDecided c s t ∧ SameOutside s t)
      ∧ (outcome = 0 → s.gateHolds = false →
        exec (.answerFrame bytes) s = .next (gateCurrent { s0 with tnl := { s0.tnl with
          closureAccepted := true, watch := .close, gateMet := false
          tensorWait := some { length := (s.bank c.bank).image.tensorWait * 1000, elapsed := 0 } } }))
      ∧ (outcome ≠ 0 →
        ∃ t, exec (.answerFrame bytes) s = .next t ∧ Aborted .tensorRefused (some (result : Int)) s0 t))
  ∧ (∀ (n : BitVec 4) (s : State) (r : CallRecord) (k : TensorCall), CallAwaits n.toNat r k s →
      timerDue r.deadline = true →
      let s0 : State := { s with lnp := { s.lnp with calls := [] }, tnl := { s.tnl with call := none } }
      (∀ c, s.ctx = some c → s.wsq.seq = .close → k.closure = true → s.tnl.owed = none →
        ∃ t, exec (.callDeadline n) s = .next t ∧ Aborted .tensorTimeout none s0 t)
      ∧ (k.closure = false → exec (.callDeadline n) s = .next (gateCurrent s0))
      ∧ (∀ o, k.closure = true → s.tnl.owed = some o →
        exec (.callDeadline n) s = .next (gateCurrent { s0 with tnl := { s0.tnl with owed := none } })))
  ∧ (∀ (bytes : List Byte) (source number outcome result : Nat) (s : State) (r : CallRecord) (k : TensorCall) (o : Owed),
      FrameTaken bytes source (.answer number outcome result) s → CallAwaits source r k s → r.number = number →
      k.closure = true → s.tnl.owed = some o →
      (outcome ≠ 0 → exec (.answerFrame bytes) s = .next (gateCurrent { s with
        lnp := { s.lnp with calls := [] }, tnl := { s.tnl with call := none, owed := none } }))
      ∧ (outcome = 0 → s.wsq.silence = false → s.lnp.queue.length < 8 →
        exec (.answerFrame bytes) s = .next (gateCurrent { s with
          lnp := { s.lnp with
            queue := s.lnp.queue ++ [.call o.station s.lnp.nextCall (.letGo o.weldNumber)]
            nextCall := (s.lnp.nextCall + 1) % 256
            calls := [{ dest := o.station, number := s.lnp.nextCall, closure := false, deadline := none }] }
          tnl := { s.tnl with
            owed := none
            call := some { closure := false, dest := o.station, weldNumber := o.weldNumber
                           number := some s.lnp.nextCall } } })))
  ∧ (∀ (bytes : List Byte) (source number outcome result : Nat) (s : State) (r : CallRecord) (k : TensorCall),
      FrameTaken bytes source (.answer number outcome result) s → CallAwaits source r k s → r.number = number →
      k.closure = false → exec (.answerFrame bytes) s = .next (gateCurrent { s with
        lnp := { s.lnp with calls := [] }, tnl := { s.tnl with call := none } }))
  ∧ (∀ (bytes : List Byte) (source number outcome result p : Nat) (s : State) (c : WeldCtx) (r : CallRecord)
      (k : TensorCall), FrameTaken bytes source (.answer number outcome result) s →
      CallAwaits source r k { s with tnl := { s.tnl with closureWaiting := false } } → r.number = number →
      k.closure = false → s.tnl.closureWaiting = true → s.wsq.seq = .close → s.ctx = some c → c.pair = some p →
      s.wsq.silence = false → s.lnp.queue.length < 8 →
      exec (.answerFrame bytes) s = .next (gateCurrent { s with
        lnp := { s.lnp with
          queue := s.lnp.queue ++ [.call p s.lnp.nextCall
            (.setClosure c.plan.fReq (c.plan.g0 - (s.bank c.bank).image.workingGap).toNat c.weldNumber)]
          nextCall := (s.lnp.nextCall + 1) % 256
          calls := [{ dest := p, number := s.lnp.nextCall, closure := true, deadline := none }] }
        tnl := { s.tnl with
          closureWaiting := false
          call := some { closure := true, dest := p, weldNumber := c.weldNumber, number := some s.lnp.nextCall } } }))
  ∧ (∀ (n : BitVec 4) (s : State), (∀ r ∈ s.lnp.calls, r.dest = n.toNat → timerDue r.deadline = false) →
      exec (.callDeadline n) s = .next (gateCurrent s))

/-- R63, R67, R156: a HALT from any station sets the halt latch; in CLAMP to UPSET it aborts the weld with LINE_HALT, in
HOLD it enters STOP_IN_HOLD, and elsewhere it leaves the weld as it is. -/
def Obligations.HaltSetsTheLatch : Prop :=
  ∀ (bytes : List Byte) (source : Nat) (s : State), FrameTaken bytes source .halt s →
    let s0 : State := { s with wsq := { s.wsq with haltLatch := true } }
    (∀ c, s.ctx = some c → s.wsq.seq.abortable = true →
      ∃ t, exec (.haltFrame bytes) s = .next t ∧ Aborted .lineHalt none s0 t)
    ∧ (∀ c, s.ctx = some c → s.wsq.seq = .hold →
      ∃ t, exec (.haltFrame bytes) s = .next (gateCurrent t) ∧ Entered .stopInHold none s0 t)
    ∧ (s.wsq.seq.abortable = false → s.wsq.seq ≠ .hold →
      ∃ t, exec (.haltFrame bytes) s = .next t ∧ t.wsq = s0.wsq ∧ t.ctx = s.ctx ∧ t.frg = s.frg ∧ t.clu = s.clu
        ∧ t.tnl = s.tnl ∧ t.cap = s.cap ∧ t.rst = s.rst ∧ t.mfe = (gateCurrent s).mfe ∧ SameView s t ∧ SameOutside s t)

/-- R64, R117, R128, R156: a CLEAR empties the outgoing queue, frees every call and ends the backoff; from a console it
clears the halt latch, and asks for no ANNOUNCE (log 45). The rows, the straps, the next call number and the announce timer
are kept. With no SET_CLOSURE out and none waiting, and no claim being sent, nothing else changes; a claim in SENDING or
SETTLING is queued afresh as the only frame; and a SET_CLOSURE cancelled in CLOSE aborts the weld with CALL_CANCELLED. -/
def Obligations.ClearEmptiesTheQueueAndCalls : Prop :=
  ∀ (bytes : List Byte) (source : Nat) (s : State), FrameTaken bytes source .clearAll s →
    let latched := !s.isConsole source && s.wsq.haltLatch
    ((∀ k, s.tnl.call = some k → k.closure = false ∧ s.tnl.closureWaiting = false) →
      (∃ t, exec (.clearFrame bytes) s = .next t ∧ t.lnp.calls = [] ∧ t.lnp.held = none ∧ t.tnl.call = none
        ∧ t.lnp.nextCall = s.lnp.nextCall ∧ SameView s t ∧ SameOutside s t
        ∧ t.wsq = { s.wsq with haltLatch := latched })
      ∧ (s.clu.step ≠ .sending → s.clu.step ≠ .settling →
        exec (.clearFrame bytes) s = .next (gateCurrent { s with
          lnp := { s.lnp with
            queue := [], announceOwed := false, claimDropped := false, calls := [], held := none, attemptCount := 0
            backoff := false }
          tnl := { s.tnl with call := none }
          wsq := { s.wsq with haltLatch := latched } }))
      ∧ (s.clu.step = .sending ∨ s.clu.step = .settling → s.wsq.silence = false →
        ∃ t, exec (.clearFrame bytes) s = .next t
          ∧ t.lnp.queue = [.claim s.clu.ownClaim s.weldNumber (s.clu.serial + 1)]
          ∧ t.clu.step = .sending ∧ t.clu.ownClaim = s.clu.ownClaim ∧ t.ctx = s.ctx ∧ t.rst = s.rst))
    ∧ (∀ c k, s.ctx = some c → s.wsq.seq = .close → s.clu.step = .idle → s.tnl.call = some k → k.closure = true →
      s.tnl.owed = none → s.tnl.closureWaiting = false →
      ∃ t c', exec (.clearFrame bytes) s = .next t ∧ t.ctx = some c' ∧ c'.abortKind = some .callCancelled
        ∧ t.wsq.seq = .stopping)

/-- R65, R69, R145, R151, R155: a frame of any kind from the own station number sets the silence flag, stops the announce timer and
empties the outgoing queue; DUPLICATE_STATION goes to the device fault log with no input value; QUEUED calls and the held
one are freed as DISCARDED and AWAITING ones keep their deadlines; READY and LOCKED go to OFFLINE, CLAMP to UPSET abort with DUPLICATE_STATION, STOPPING enters it,
and HOLD, LET_GO and UNCLAMP enter it and take it as the abort kind where there is none. With the silence flag already set
nothing happens. -/
def Obligations.DuplicateStationSilencesTheHead : Prop :=
  ∀ (bytes : List Byte) (f : RxFrame) (s : State), parseFrame bytes = some f → f.source = s.lnp.station →
    1 ≤ s.lnp.station → s.lnp.station ≤ 14 → s.pins.lineOk = true → s.pins.lineReset = false →
    s.wsq.seq ≠ .offline → s.lnp.attempt = none →
    (s.wsq.silence = true → exec (.duplicateStation bytes) s = .next (gateCurrent s))
    ∧ (s.wsq.silence = false →
      ∃ t, exec (.duplicateStation bytes) s = .next t ∧ t.wsq.silence = true ∧ t.lnp.queue = []
        ∧ t.lnp.announceTimer = none ∧ t.lnp.attemptCount = 0 ∧ t.lnp.backoff = false ∧ t.lnp.announceOwed = false
        ∧ t.lnp.held = none ∧ t.lnp.peers = s.lnp.peers ∧ SameOutside s t
        ∧ t.rst = { s.rst with
            log := s.rst.log.file
              { kind := .duplicateStation, state := s.wsq.seq, weldNumber := s.weldNumber?, input := none } }
        ∧ ((s.lnp.calls.map (·.dest)).Nodup → t.lnp.calls = s.lnp.calls.filter (fun r => r.deadline.isSome))
        ∧ (∀ k, s.tnl.call = some k →
          let freed := (∃ r ∈ s.lnp.calls, r.dest = k.dest ∧ r.deadline = none) ∨ (s.lnp.held.isSome = true ∧ k.number = none)
          (freed → t.tnl.call = none ∧ (k.closure = true → t.tnl.owed = none)) ∧ (¬freed → t.tnl.call = some k))
        ∧ (s.ctx = none → s.wsq.seq = .ready ∨ s.wsq.seq = .locked → t.wsq.seq = .offline ∧ t.ctx = none)
        ∧ (∀ c, s.ctx = some c → s.wsq.seq.abortable = true →
            t.wsq.seq = .stopping ∧ ∃ c', t.ctx = some c' ∧ c'.abortKind = some .duplicateStation)
        ∧ (∀ c, s.ctx = some c → s.wsq.seq = .hold ∨ s.wsq.seq = .letGo ∨ s.wsq.seq = .unclamp ∨ s.wsq.seq = .stopping →
            t.wsq = { s.wsq with silence := true } ∧ t.mfe.set = s.mfe.set
            ∧ ∃ c', t.ctx = some c'
              ∧ c'.abortKind = (if s.wsq.seq ≠ .stopping ∧ c.abortKind = none then some .duplicateStation else c.abortKind)
              ∧ (c'.overflow = true ∨ .duplicateStation ∈ c'.faults.map (·.kind))))

/-! ### Frames sent -/

/-- R146, R147: the announce timer asks for an ANNOUNCE each 50 ms and begins its next period; an attempt at the head
frame begins after the idle time it needs, 12 bit times and after a lost attempt 40 more for each unit of the own station
number, with LINE_OK high, out of OFFLINE and not silenced. The model's choices: the next period is counted from the time of
the expiry (log 35), the idle time is the command's operand (log 29), and without its timer due (log 2) or one of the
conditions a command changes nothing (log 4). -/
def Obligations.AnnounceTimerAndAttempts : Prop :=
  (∀ (s : State) (w : Timer), s.lnp.announceTimer = some w → w.due = true →
    ∃ t, exec .announceTimer s = .next t
      ∧ t.lnp.announceTimer = some { w with elapsed := w.elapsed - w.length }
      ∧ (s.wsq.silence = false → s.lnp.queue.length < 8 → .announce ∈ t.lnp.queue)
      ∧ s.lnp.queue <+: t.lnp.queue ∧ t.lnp.calls = s.lnp.calls ∧ t.lnp.peers = s.lnp.peers
      ∧ t.wsq = s.wsq ∧ t.ctx = s.ctx ∧ t.frg = s.frg ∧ t.clu = s.clu ∧ t.tnl = s.tnl ∧ t.cap = s.cap ∧ t.rst = s.rst
      ∧ SameOutside s t)
  ∧ (∀ s : State, timerDue s.lnp.announceTimer = false → exec .announceTimer s = .next (gateCurrent s))
  ∧ (∀ (idleBits : Nat) (s : State) (f : OutFrame) (rest : List OutFrame), s.lnp.queue = f :: rest →
      s.lnp.attempt = none → s.pins.lineOk = true → s.pins.lineReset = false → s.wsq.silence = false →
      s.wsq.seq ≠ .offline →
      (12 + (if s.lnp.backoff then s.lnp.station * 40 else 0) ≤ idleBits →
        exec (.attemptStart idleBits) s = .next (gateCurrent { s with
          lnp := { s.lnp with attempt := some (frameBytes f s), backoff := false } }))
      ∧ (idleBits < 12 + (if s.lnp.backoff then s.lnp.station * 40 else 0) →
        exec (.attemptStart idleBits) s = .next (gateCurrent s)))
  ∧ (∀ (idleBits : Nat) (s : State), s.lnp.queue = [] ∨ s.pins.lineOk = false ∨ s.wsq.silence = true
        ∨ s.wsq.seq = .offline ∨ s.pins.lineReset = true ∨ s.lnp.attempt.isSome = true →
      exec (.attemptStart idleBits) s = .next (gateCurrent s))

/-- R117, R134, R140, R141, R146, R147, R149 to R151: an attempt that is won takes the frame from the queue and zeroes the
attempt count; an ANNOUNCE owed meanwhile joins the queue, a CALL's record becomes AWAITING with 250 ms, and the newest
CLAIM in SENDING becomes SETTLING with 30 ms, while any other CLAIM does no more. One that is lost raises the attempt count
and takes the backoff; the sixteenth loss discards the frame with LINE_FAULT and its kind code. A discarded CALL frees its
record as DISCARDED: a SET_CLOSURE in CLOSE aborts with TENSOR_TIMEOUT, a release owed becomes absent, and a LET_GO enters
nothing. In SENDING the newest CLAIM is queued afresh; another CLAIM, an ANNOUNCE, a YIELD or an ANSWER is lost and does no
more. These are stated with no CLAIM dropped, no call held and no SET_CLOSURE waiting. LINE_FAULT comes before the notice
to the owner (log 47). -/
def Obligations.AttemptsAreWonAndLost : Prop :=
  ∀ (s : State) (sent : List Byte) (f : OutFrame) (rest : List OutFrame), s.lnp.attempt = some sent →
    s.lnp.queue = f :: rest → s.lnp.claimDropped = false →
    let won : Lnp := { s.lnp with attempt := none, queue := rest, attemptCount := 0 }
    let stale (f : OutFrame) := ∃ a w n, f = .claim a w n ∧ (n ≠ s.clu.serial ∨ s.clu.step ≠ .sending)
    let logged := s.rst.log.file
      { kind := .lineFault, state := s.wsq.seq, weldNumber := s.weldNumber?, input := some (f.kindCode : Int) }
    ((f = .announce ∧ s.lnp.announceOwed = false) ∨ (∃ n, f = .yieldClaim n) ∨ (∃ d n c r, f = .answer d n c r) ∨ stale f →
      exec .attemptWon s = .next (gateCurrent { s with lnp := won }))
    ∧ (f = .announce → s.lnp.announceOwed = true → .announce ∉ rest → rest.length < 8 → s.wsq.silence = false →
      exec .attemptWon s = .next (gateCurrent { s with
        lnp := { won with announceOwed := false, queue := rest ++ [.announce] } }))
    ∧ (∀ d n body, f = .call d n body → exec .attemptWon s = .next (gateCurrent { s with
        lnp := { won with calls := s.lnp.calls.map (fun r =>
          if r.dest = d ∧ r.number = n ∧ r.deadline = none then
            { r with deadline := some { length := 250, elapsed := 0 } }
          else r) } }))
    ∧ (∀ a w, f = .claim a w s.clu.serial → s.clu.step = .sending → exec .attemptWon s = .next (gateCurrent { s with
        lnp := won
        clu := { s.clu with step := .settling, settleTimer := some { length := 30, elapsed := 0 } } }))
    ∧ (s.lnp.attemptCount < 15 → exec .attemptLost s = .next (gateCurrent { s with
        lnp := { s.lnp with
          attempt := none, announceOwed := false, backoff := true, attemptCount := s.lnp.attemptCount + 1 } }))
    ∧ (15 ≤ s.lnp.attemptCount →
      f = .announce ∨ (∃ n, f = .yieldClaim n) ∨ (∃ d n c r, f = .answer d n c r) ∨ stale f →
      ∃ t, exec .attemptLost s = .next t ∧ t.lnp.attempt = none ∧ t.lnp.attemptCount = 0 ∧ t.lnp.backoff = false
        ∧ rest <+: t.lnp.queue ∧ t.lnp.calls = s.lnp.calls ∧ t.rst.log = logged
        ∧ t.wsq = s.wsq ∧ t.ctx = s.ctx ∧ t.clu = s.clu ∧ t.tnl = s.tnl ∧ SameView s t ∧ SameOutside s t)
    ∧ (∀ a w, 15 ≤ s.lnp.attemptCount → f = .claim a w s.clu.serial → s.clu.step = .sending → s.wsq.silence = false →
        rest.length < 7 →
      ∃ t, exec .attemptLost s = .next t ∧ t.lnp.attempt = none ∧ t.lnp.attemptCount = 0 ∧ t.lnp.backoff = false
        ∧ rest <+: t.lnp.queue ∧ .claim s.clu.ownClaim s.weldNumber (s.clu.serial + 1) ∈ t.lnp.queue
        ∧ t.clu = { s.clu with serial := s.clu.serial + 1 } ∧ t.lnp.calls = s.lnp.calls ∧ t.rst.log = logged
        ∧ t.wsq = s.wsq ∧ t.ctx = s.ctx ∧ t.tnl = s.tnl ∧ SameView s t ∧ SameOutside s t)
    ∧ (∀ (d n : Nat) (body : CallBody) (r : CallRecord) (k : TensorCall), 15 ≤ s.lnp.attemptCount → f = .call d n body →
        s.lnp.calls = [r] → r.dest = d → r.number = n → r.deadline = none → s.lnp.held = none → s.tnl.call = some k →
        k.dest = d → s.tnl.closureWaiting = false →
      ∃ q, rest <+: q ∧
        let s0 : State := { s with
          lnp := { s.lnp with
            attempt := none, announceOwed := false, attemptCount := 0, backoff := false, queue := q, calls := [] }
          tnl := { s.tnl with call := none }
          rst := { s.rst with log := logged } }
        (k.closure = false → exec .attemptLost s = .next (gateCurrent s0))
        ∧ (∀ o, k.closure = true → s.tnl.owed = some o →
          exec .attemptLost s = .next (gateCurrent { s0 with tnl := { s0.tnl with owed := none } }))
        ∧ (∀ c, k.closure = true → s.tnl.owed = none → s.ctx = some c → s.wsq.seq = .close →
          ∃ t, exec .attemptLost s = .next t ∧ Aborted .tensorTimeout none s0 t))

/-! ### Claims -/

/-- R55, R84, R85, R88, R116, R118, R120, R124, R126: when the settle timer expires the claim is granted with its share g, the claim
wait stops, and POWER_DEGRADED is entered when it is less than D; with contacts to make the sequencer enters PREHEAT and
the first approach begins; with none, heat begins and FLASH is entered in FREE mode or with the tension gate met, and
otherwise the sequencer waits for the gate in POWER. When a backoff ends the room is worked: D is claimed if it fits, the room itself if it is
D_min or more, and otherwise the step is WAITING. When a shed wait ends, a spare power that covers the own claim returns
to GRANTED, and one that does not aborts with POWER_LOST, or with POWER_DENIED while the sequencer is still in POWER. -/
def Obligations.ClaimTimersEnd : Prop :=
  (∀ (s : State) (c : WeldCtx), s.ctx = some c → s.wsq.seq = .power → s.clu.step = .settling →
      timerDue s.clu.settleTimer = true → 1 ≤ (s.bank c.bank).image.nPre →
      ∃ t c', exec .settleTimerExpiry s = .next t ∧ t.ctx = some c' ∧
        let k := (s.bank c.bank).image
        c'.granted = s.clu.ownClaim ∧ c'.share = s.clu.ownClaim * 1000 / c.demand
        ∧ t.clu = { s.clu with step := .granted, settleTimer := none, claimWait := none }
        ∧ t.wsq = { s.wsq with seq := .preheat } ∧ c'.phaseReached = .preheat
        ∧ t.mfe.set = { s.mfe.set with current := 0, velocity := k.vApp }
        ∧ t.frg = { s.frg with
            step := .approach, k := 1, preheatEntry := s.position, openTimer := none
            approachTimer := some { length := 2000, elapsed := 0 } }
        ∧ (s.clu.ownClaim < c.demand → c'.overflow = true ∨ .powerDegraded ∈ c'.faults.map (·.kind))
        ∧ (c.demand ≤ s.clu.ownClaim → c'.faults = c.faults ∧ t.rst = s.rst)
        ∧ SameOutside s t)
  ∧ (∀ (s : State) (c : WeldCtx), s.ctx = some c → s.wsq.seq = .power → s.clu.step = .settling →
      timerDue s.clu.settleTimer = true → (s.bank c.bank).image.nPre = 0 →
      ∃ t c', exec .settleTimerExpiry s = .next t ∧ t.ctx = some c' ∧
        let k := (s.bank c.bank).image
        c'.granted = s.clu.ownClaim ∧ c'.share = s.clu.ownClaim * 1000 / c.demand
        ∧ t.clu = { s.clu with step := .granted, settleTimer := none, claimWait := none }
        ∧ (c.mode = .free ∨ s.gateHolds = true →
            t.wsq = { s.wsq with seq := .flash } ∧ c'.phaseReached = .flash ∧ c'.heatBegan = true
            ∧ c'.progress.flashBurn = 0 ∧ c'.progress.flashTime = 0 ∧ t.mfe.onsets = 0
            ∧ t.mfe.set = { s.mfe.set with
                current := k.iFlash * c'.share / 1000
                velocity := max 5 (min 300 ((k.vS * c'.share / 1000 : Nat) : Int)) }
            ∧ t.frg.flashEntry = s.position
            ∧ t.frg.windowTimer = some { length := 100, elapsed := 0 } ∧ t.frg.corrK = 0 ∧ t.frg.unstable = 0)
        ∧ (c.mode = .tensioned → s.gateHolds = false →
            t.wsq = s.wsq ∧ c'.phaseReached = c.phaseReached ∧ c'.heatBegan = c.heatBegan ∧ t.mfe.set = s.mfe.set
            ∧ t.tnl = { s.tnl with watch := .heatEntry, gateMet := false }
            ∧ t.frg = { s.frg with gateTimer := some { length := k.tensorWait * 1000, elapsed := 0 } })
        ∧ (s.clu.ownClaim < c.demand → c'.overflow = true ∨ .powerDegraded ∈ c'.faults.map (·.kind))
        ∧ (c.demand ≤ s.clu.ownClaim → c'.faults = c.faults ∧ t.rst = s.rst)
        ∧ SameOutside s t)
  ∧ ((∀ (s : State) (c : WeldCtx), s.ctx = some c → s.clu.step = .backoff → timerDue s.clu.backoffTimer = true →
        s.wsq.silence = false →
      ∃ t, exec .backoffTimerExpiry s = .next t ∧
        let room : Int := if s.anyPowerLive then (s.clu.qInForce : Int) - (s.lnp.peers.map PeerRow.claim).sum else 0
        t.clu.room = room ∧ t.clu.backoffTimer = none ∧ t.wsq = s.wsq ∧ t.mfe.set = s.mfe.set
        ∧ (room < c.demand → room < c.dMin → t.clu.step = .waiting ∧ t.clu.ownClaim = s.clu.ownClaim)
        ∧ ((c.demand : Int) ≤ room → t.clu.step = .sending ∧ t.clu.ownClaim = c.demand)
        ∧ (room < c.demand → (c.dMin : Int) ≤ room → t.clu.step = .sending ∧ (t.clu.ownClaim : Int) = room)
        ∧ ((c.dMin : Int) ≤ room ∨ (c.demand : Int) ≤ room → s.lnp.queue.length < 7 →
            .claim t.clu.ownClaim c.weldNumber t.clu.serial ∈ t.lnp.queue)
        ∧ SameOutside s t)
    ∧ (∀ (s : State) (c : WeldCtx), s.ctx = some c → s.clu.step = .shed → timerDue s.clu.shedTimer = true →
      let spare : Int := (s.clu.qInForce : Int) - (s.lnp.peers.map PeerRow.claim).sum
      ((s.clu.ownClaim : Int) ≤ spare → exec .shedTimerExpiry s = .next (gateCurrent { s with
          clu := { s.clu with step := .granted, shedTimer := none } }))
      ∧ (spare < s.clu.ownClaim → s.wsq.seq.abortable = true →
        ∃ t, exec .shedTimerExpiry s = .next t
          ∧ Aborted (if s.wsq.seq = .power then .powerDenied else .powerLost) (some spare) s t)))

/-! ### The store -/

/-- R177 to R180: the end of a program and of an erase. A program without failure makes the target block HELD with the
record, empties the slot and moves the write position past it; one that fails marks the block BAD and the record waits
again, its commit beginning at once where the new target block is ERASED. An erase without failure makes its block ERASED;
one that fails marks it BAD; and a record that waits begins its commit when the target block is then ERASED. Each failure is
logged as STORE_FAULT with 100 plus the block's number. After each end the erase-ahead condition is tested: with no erase in
progress a HELD target block begins its erase. The target block is the first that is not BAD in ring order from the write
position. The model's choices: an end comes at its command with the outcome the command carries (log 3), and with no program
or erase under way it changes nothing (log 4). -/
def Obligations.ProgramsAndErasesEnd : Prop :=
  (∀ (r : Rst) (n : Nat), r.targetBlock = some n ↔ TargetIs r n)
  ∧ (∀ s : State, s.rst.blocks.length = 32 →
    (∀ (p : Slot) (n : Nat), s.rst.slot = some p → p.programming = true → s.rst.targetBlock = some n →
      (∃ t, exec (.commitEnd true) s = .next t ∧ t.rst.block n = .held (some p.record) ∧ t.rst.slot = none
        ∧ t.rst.writePos = (n + 1) % 32 ∧ (∀ m, m ≠ n → t.rst.block m = s.rst.block m)
        ∧ EraseTested s.rst.erase t
        ∧ t.rst = { s.rst with blocks := t.rst.blocks, slot := none, writePos := t.rst.writePos, erase := t.rst.erase }
        ∧ t.wsq = s.wsq ∧ t.ctx = s.ctx ∧ t.lnp = s.lnp ∧ SameOutside s t)
      ∧ (∃ t q, exec (.commitEnd false) s = .next t ∧ t.rst.block n = .bad
        ∧ t.rst.slot = some q ∧ q.record = p.record ∧ CommitTested false t q
        ∧ (∀ m, m ≠ n → t.rst.block m = s.rst.block m) ∧ EraseTested s.rst.erase t
        ∧ t.rst = { s.rst with
            blocks := t.rst.blocks, slot := some q, erase := t.rst.erase,
            log := s.rst.log.file { kind := .storeFault, state := s.wsq.seq, weldNumber := s.weldNumber?
                                    input := some ((100 + n : Nat) : Int) } }
        ∧ t.wsq = s.wsq ∧ t.ctx = s.ctx ∧ SameOutside s t))
    ∧ (∀ n, n < 32 → s.rst.erase = some n →
      let slotKept (t : State) := (s.rst.slot = none → t.rst.slot = none)
        ∧ (∀ p, s.rst.slot = some p → ∃ q, t.rst.slot = some q ∧ q.record = p.record ∧ CommitTested p.programming t q)
      (∃ t, exec (.eraseEnd true) s = .next t ∧ t.rst.block n = .erased ∧ (∀ m, m ≠ n → t.rst.block m = s.rst.block m)
        ∧ slotKept t ∧ EraseTested none t
        ∧ t.rst = { s.rst with blocks := t.rst.blocks, slot := t.rst.slot, erase := t.rst.erase }
        ∧ t.wsq = s.wsq ∧ t.ctx = s.ctx ∧ t.lnp = s.lnp ∧ SameOutside s t)
      ∧ (∃ t, exec (.eraseEnd false) s = .next t ∧ t.rst.block n = .bad ∧ (∀ m, m ≠ n → t.rst.block m = s.rst.block m)
        ∧ slotKept t ∧ EraseTested none t
        ∧ t.rst = { s.rst with
            blocks := t.rst.blocks, slot := t.rst.slot, erase := t.rst.erase,
            log := s.rst.log.file { kind := .storeFault, state := s.wsq.seq, weldNumber := s.weldNumber?
                                    input := some ((100 + n : Nat) : Int) } }
        ∧ t.wsq = s.wsq ∧ t.ctx = s.ctx ∧ SameOutside s t)))
  ∧ (∀ (ok : Bool) (s : State),
    ((∀ p, s.rst.slot = some p → p.programming = false) → exec (.commitEnd ok) s = .next (gateCurrent s))
    ∧ (s.rst.erase = none → exec (.eraseEnd ok) s = .next (gateCurrent s)))

/-- R26, R27, R172, R187: the end of a settings write. A bank's makes it VALID with the image and its marker clear, and
the block holds the image with its check and, in its other half, the working image of the other bank with a fresh check, or
zeros with a check that does not match where that bank is INVALID; the capture program takes effect at once, trace memory
emptied and every used descriptor at its start, or waits while a weld context exists;
the status becomes OK and the port is no longer busy. One that fails keeps the bank and the program as they were, logs
STORE_FAULT with area 1 or 2 and gives the status STORE_FAULT. What the block then holds is free (log 8). The model's
choices: a write ends at its command with the outcome the command carries (log 3), and an end with no such write under way
changes nothing (log 4). -/
def Obligations.SettingsWritesEnd : Prop :=
  ∀ (s : State) (image : List Byte),
    (∀ name, s.rst.write = some (.schedule name image) →
      (∃ t, exec (.scheduleWriteEnd true) s = .next t
        ∧ t.bank name = { image := scheduleOfImage image, valid := true, installing := false }
        ∧ (∀ other, other ≠ name → t.bank other = s.bank other) ∧ t.rst.write = none
        ∧ (match name with | .a => t.rst.scheduleBlock.a | .b => t.rst.scheduleBlock.b)
          = { image := image, check := crc16 image }
        ∧ (let other : BankName := match name with | .a => .b | .b => .a
          let half := match name with | .a => t.rst.scheduleBlock.b | .b => t.rst.scheduleBlock.a
          ((s.bank other).valid = true →
            half = { image := imageOfSchedule (s.bank other).image, check := crc16 (imageOfSchedule (s.bank other).image) })
          ∧ ((s.bank other).valid = false → half.image = List.replicate 112 0#8 ∧ half.check ≠ crc16 half.image))
        ∧ t.svp = { s.svp with status := .ok, field := 0, busy := .none } ∧ t.rst.log = s.rst.log
        ∧ t.wsq = s.wsq ∧ t.ctx = s.ctx ∧ t.cap = s.cap ∧ t.pins = s.pins)
      ∧ (∃ t, exec (.scheduleWriteEnd false) s = .next t
        ∧ t.bank name = { s.bank name with installing := false }
        ∧ (∀ other, other ≠ name → t.bank other = s.bank other) ∧ t.rst.write = none
        ∧ t.svp = { s.svp with status := .storeFault, field := 0, busy := .none }
        ∧ t.rst.log = s.rst.log.file
            { kind := .storeFault, state := s.wsq.seq, weldNumber := s.weldNumber?, input := some 1 }
        ∧ t.wsq = s.wsq ∧ t.ctx = s.ctx ∧ t.cap = s.cap ∧ t.pins = s.pins))
    ∧ (s.rst.write = some (.capture image) →
      (∃ t, exec (.captureWriteEnd true) s = .next t
        ∧ (s.ctx = none → t.cap.program = programOfImage image ∧ t.cap.memory = [] ∧ t.cap.waiting = none
          ∧ t.cap.tick = s.cap.tick ∧ FreshRuns t.cap)
        ∧ (s.ctx.isSome = true → t.cap = { s.cap with waiting := some (programOfImage image) })
        ∧ t.rst = { s.rst with write := none, captureBlock := { image := image, check := crc16 image } }
        ∧ t.svp = { s.svp with status := .ok, field := 0, busy := .none } ∧ t.wsq = s.wsq ∧ t.ctx = s.ctx
        ∧ t.pins = s.pins)
      ∧ (∃ t, exec (.captureWriteEnd false) s = .next t ∧ t.cap = s.cap ∧ t.rst.write = none
        ∧ t.rst.bankA = s.rst.bankA ∧ t.rst.bankB = s.rst.bankB ∧ t.rst.scheduleBlock = s.rst.scheduleBlock
        ∧ t.svp = { s.svp with status := .storeFault, field := 0, busy := .none }
        ∧ t.rst.log = s.rst.log.file
            { kind := .storeFault, state := s.wsq.seq, weldNumber := s.weldNumber?, input := some 2 }
        ∧ t.wsq = s.wsq ∧ t.ctx = s.ctx ∧ t.pins = s.pins))
    ∧ ((∀ name i, s.rst.write ≠ some (.schedule name i)) → ∀ ok,
        exec (.scheduleWriteEnd ok) s = .next (gateCurrent s))
    ∧ ((∀ i, s.rst.write ≠ some (.capture i)) → ∀ ok, exec (.captureWriteEnd ok) s = .next (gateCurrent s))

/-! ### The service port -/

/-- R25, R171, R186, R187: the LOAD transfers, under each of their rows. Let `c` be the command of a transfer the port
takes, of a LOAD kind `g`. With BEGIN it starts a staging of its kind; without, it goes on with one of its kind, and is
discarded with ABANDONED where there is none. Past 512 bytes the staging is abandoned with OVERRUN. With END the buffer
is handed over: an image of the wrong length, or a bank image with a bad field, is answered INVALID with that field; a
bound bank is answered BANK_IN_USE; a good image begins its write and the port is busy. The model's choices: BEGIN and END
as rows of their own that do all their transfer does (log 14), and the fields that keep the answer on the wires and the
clock-low time of the transfer (log 26, log 32). -/
def Obligations.LoadTransfersStageAndHandOver : Prop :=
  (∀ (name : BankName) (s : State), s.bound name = true ↔ ∃ c, s.ctx = some c ∧ c.bank = name)
  ∧ ∀ (w : WriteTransfer) (c : SvpCommand) (s : State) (g : LoadKind) (i : Instr), TransferTaken w c s →
    loadKindOfCode c.kind = some g →
    (i = .loadBankA w ∧ c.kind = 1) ∨ (i = .loadBankB w ∧ c.kind = 2) ∨ (i = .loadCapture w ∧ c.kind = 3)
      ∨ (i = .beginStaging w ∧ c.beginBit = true) ∨ (i = .endStaging w ∧ c.endBit = true) →
    let old := if c.beginBit then some [] else
      match s.svp.staging with
      | some x => if x.kind = g then some x.buffer else none
      | none => none
    let p : Svp := { s.svp with answer := .taken, clockLow := w.clockLow }
    let begun : Svp := if c.beginBit then { p with status := .ok, field := 0 } else p
    (old = none → exec i s = .next (gateCurrent { s with svp := { p with status := .abandoned, field := 0 } }))
    ∧ (∀ b, old = some b → 512 < (b ++ c.data).length →
      exec i s = .next (gateCurrent { s with svp := { begun with staging := none, status := .overrun, field := 0 } }))
    ∧ (∀ b, old = some b → (b ++ c.data).length ≤ 512 →
      (c.endBit = false → exec i s = .next (gateCurrent { s with
        svp := { begun with staging := some { kind := g, buffer := b ++ c.data } } }))
      ∧ (c.endBit = true →
        let given (code : StatusCode) (field : Nat) := exec i s = .next (gateCurrent { s with
          svp := { begun with staging := none, busy := .none, status := code, field := field } })
        (∀ name, g = (match name with | .a => .bankA | .b => .bankB) →
          (s.bound name = true → given .bankInUse 0)
          ∧ (s.bound name = false →
            ((b ++ c.data).length ≠ 112 → given .invalid 0)
            ∧ ((b ++ c.data).length = 112 →
              (∀ n, firstBadField (scheduleOfImage (b ++ c.data)) = some n → given .invalid n)
              ∧ (firstBadField (scheduleOfImage (b ++ c.data)) = none →
                ∃ t, exec i s = .next t ∧ t.svp = { begun with staging := none, busy := .install }
                  ∧ t.rst.write = some (.schedule name (b ++ c.data))
                  ∧ t.bank name = { s.bank name with installing := true }
                  ∧ (∀ other, other ≠ name → t.bank other = s.bank other) ∧ t.ctx = s.ctx ∧ t.wsq = s.wsq))))
        ∧ (g = .capture →
          (s.ctx.isSome = true → given .bankInUse 0)
          ∧ (s.ctx = none →
            ((b ++ c.data).length ≠ 348 → given .invalid 0)
            ∧ ((b ++ c.data).length = 348 →
              (∀ n, firstBadCaptureField (b ++ c.data) = some n → given .invalid n)
              ∧ (firstBadCaptureField (b ++ c.data) = none →
                ∃ t, exec i s = .next t ∧ t.svp = { begun with staging := none, busy := .install }
                  ∧ t.rst.write = some (.capture (b ++ c.data)) ∧ t.cap = s.cap ∧ t.ctx = s.ctx ∧ t.wsq = s.wsq))))))

/-- R177, R184, R185, R188, R189: SELECT_RECORD begins the fetch of the named block, 255 naming that of the newest record, when
the block holds a record and is not being erased, and answers NO_RECORD otherwise; READ_DATA, READ_STATUS and READ_FAULTS
set the read source; CLEAR_FAULTS clears the log. A fetch that ends puts the record in the read buffer, at offset 0 of the
read source RECORD, with status OK. A read transfer returns the bytes of the source from the read pointer on, 0 past its
end, and moves the pointer; while the port is busy it is not acknowledged and moves nothing. The bytes stand as the images
of R189 lay them out, most significant first and signed fields in two's complement. The model's choices: the copy is taken
at SELECT_RECORD (log 31), the read pointer is 0 when a NO_RECORD leaves no read source (log 56), READ_DATA with no record sets NO_RECORD (log 57), a fetch ends at its command and nothing changes with none under way (log 3, log 4), and what the
wires showed is kept (log 26, log 32). -/
def Obligations.RecordsAndImagesAreRead : Prop :=
  (∀ (w : WriteTransfer) (c : SvpCommand) (s : State), TransferTaken w c s →
      let p : Svp := { s.svp with answer := .taken, clockLow := w.clockLow }
      (c.kind = 4 →
        let named := if beNat c.data = 255 then (newestBlock s.rst.blocks).map (·.1)
          else if beNat c.data < 32 then some (beNat c.data) else none
        (∀ n r, named = some n → s.rst.block n = .held (some r) → s.rst.erase ≠ some n →
          exec (.selectRecord w) s = .next (gateCurrent { s with svp := { p with busy := .fetch n r } }))
        ∧ (named = none ∨ (∃ n, named = some n ∧ (s.rst.erase = some n ∨ ∀ r, s.rst.block n ≠ .held (some r))) →
          exec (.selectRecord w) s = .next (gateCurrent { s with svp := { p with
            buffer := .empty, selected := none, source := .none, pointer := 0, status := .noRecord, field := 0 } })))
      ∧ (c.kind = 5 →
        (∀ r, s.svp.buffer = .record r → exec (.readData w) s = .next (gateCurrent { s with svp := { p with
            source := .record, pointer := beNat c.data } }))
        ∧ ((∀ r, s.svp.buffer ≠ .record r) → exec (.readData w) s = .next (gateCurrent { s with svp := { p with
            status := .noRecord, field := 0 } })))
      ∧ (c.kind = 6 → exec (.readStatus w) s = .next (gateCurrent { s with svp := { p with
            source := .status, pointer := 0 } }))
      ∧ (c.kind = 7 → exec (.readFaults w) s = .next (gateCurrent { s with svp := { p with
            buffer := .faults s.rst.log, source := .faults, pointer := 0 } }))
      ∧ (c.kind = 8 → ∃ t, exec (.clearFaults w) s = .next t
          ∧ t.rst = { s.rst with log := { first := none, counts := List.replicate 35 0 } }
          ∧ t.svp.status = .ok ∧ t.svp.source = (if s.svp.source = .faults then .none else s.svp.source)
          ∧ (∀ log, t.svp.buffer ≠ .faults log) ∧ (∀ r, s.svp.buffer = .record r → t.svp.buffer = .record r)
          ∧ t.wsq = s.wsq ∧ t.ctx = s.ctx ∧ t.cap = s.cap ∧ t.pins = s.pins))
  ∧ ((∀ (s : State) (n : Nat) (r : WeldRecord), s.svp.busy = .fetch n r →
      exec .fetchDone s = .next (gateCurrent { s with svp := { s.svp with
        busy := .none, buffer := .record r, selected := some n, source := .record, pointer := 0, status := .ok
        field := 0 } }))
    ∧ (∀ s : State, (∀ n r, s.svp.busy ≠ .fetch n r) → exec .fetchDone s = .next (gateCurrent s))
    ∧ (∀ (q : ReadTransfer) (s : State), s.pins.lineReset = false → q.address.toNat = 0x3A * 2 + 1 → q.clockLow < 25 →
      (s.svp.busy = .none → ∃ bytes, bytes.length = q.count
        ∧ (∀ i, i < q.count → bytes.getD i 0#8 = (sourceImage s.svp).getD (s.svp.pointer + i) 0#8)
        ∧ exec (.readTransfer q) s = .next (gateCurrent { s with svp := { s.svp with
            pointer := s.svp.pointer + q.count, answer := .returned bytes, clockLow := q.clockLow } }))
      ∧ (s.svp.busy ≠ .none → exec (.readTransfer q) s = .next (gateCurrent { s with svp := { s.svp with
            answer := .addressRefused, clockLow := q.clockLow } }))))
  ∧ (∀ p : Svp,
      (p.source = .none → sourceImage p = [])
      ∧ (p.source = .status → (sourceImage p).length = 3
        ∧ (sourceImage p).map (·.toNat) = [p.status.code, p.field % 256, p.selected.getD 255 % 256])
      ∧ (∀ w, p.source = .record → p.buffer = .record w → w.faults.length ≤ 8 →
        let image := sourceImage p
        let unsigned (i n v : Nat) := fieldAt image i n = v % 256 ^ n
        let signed (i n : Nat) (v : Int) := (fieldAt image i n : Int) = v % (256 ^ n : Nat)
        image.length = 81 + 6 * w.trace.length
        ∧ (unsigned 0 4 w.weldNumber ∧ unsigned 4 4 w.workRef.toNat
          ∧ unsigned 8 1 (match w.bank with | .a => 0 | .b => 1) ∧ unsigned 9 1 (match w.side with | .left => 0 | .right => 1)
          ∧ unsigned 10 1 (match w.mode with | .tensioned => 0 | .free => 1) ∧ unsigned 11 1 (w.pair.getD 0)
          ∧ unsigned 12 2 w.pulled ∧ unsigned 14 2 w.tN ∧ signed 16 2 w.tR ∧ signed 18 2 w.g0 ∧ unsigned 20 2 w.p
          ∧ unsigned 22 2 w.fReq ∧ unsigned 24 2 w.bAdj ∧ unsigned 26 2 w.preheatBurn ∧ unsigned 28 2 w.flashBurn
          ∧ unsigned 30 2 w.boostBurn ∧ unsigned 32 2 w.upsetDistance ∧ unsigned 34 2 w.peakForce)
        ∧ (unsigned 36 1 w.contacts ∧ unsigned 37 1 w.freezes ∧ unsigned 38 4 w.flashTime ∧ unsigned 42 4 w.energy
          ∧ unsigned 46 2 w.share
          ∧ unsigned 48 1 ((if w.tA.isSome then 1 else 0) + (if w.overflow then 2 else 0) + (if w.truncated then 4 else 0))
          ∧ signed 49 2 (w.tA.getD 0) ∧ unsigned 51 1 w.phaseReached.code
          ∧ unsigned 52 1 (match w.verdict with
              | none => 0 | some .accept => 1 | some .review => 2 | some .reject => 3 | some .notWelded => 4)
          ∧ unsigned 53 1 (w.abortKind.elim 0 FaultKind.code) ∧ unsigned 54 1 w.faults.length
          ∧ unsigned 79 2 w.trace.length)
        ∧ (∀ i e, w.faults[i]? = some e →
          unsigned (55 + 3 * i) 1 e.kind.code ∧ unsigned (56 + 3 * i) 1 e.phase.code ∧ unsigned (57 + 3 * i) 1 e.count)
        ∧ (∀ i, w.faults.length ≤ i → i < 8 → unsigned (55 + 3 * i) 3 0)
        ∧ (∀ i e, w.trace[i]? = some e →
          unsigned (81 + 6 * i) 1 e.desc ∧ unsigned (82 + 6 * i) 1 e.channel.code ∧ signed (83 + 6 * i) 3 e.value
          ∧ unsigned (86 + 6 * i) 1 e.run))
      ∧ (∀ log, p.source = .faults → p.buffer = .faults log → log.counts.length = 35 →
        let image := sourceImage p
        let unsigned (i n v : Nat) := fieldAt image i n = v % 256 ^ n
        image.length = 46
        ∧ (log.first = none → ∀ i, i < 11 → unsigned i 1 0)
        ∧ (∀ f, log.first = some f →
          unsigned 0 1 (1 + (if f.weldNumber.isSome then 2 else 0) + (if f.input.isSome then 4 else 0))
          ∧ unsigned 1 1 f.kind.code ∧ unsigned 2 1 f.state.code ∧ unsigned 3 4 (f.weldNumber.getD 0)
          ∧ (fieldAt image 7 4 : Int) = f.input.getD 0 % (256 ^ 4 : Nat))
        ∧ (∀ i, i < 35 → unsigned (11 + i) 1 (log.counts.getD i 0))))
  ∧ (∀ (blocks : List Block) (n w : Nat), (newestBlock blocks = some (n, w) →
      (∃ r, blocks.getD n .bad = .held (some r) ∧ r.weldNumber = w)
      ∧ ∀ r, .held (some r) ∈ blocks → r.weldNumber ≤ w)
    ∧ (newestBlock blocks = none ↔ ∀ r, .held (some r) ∉ blocks))
  ∧ stateOrder.map SeqState.code = List.range 15 ∧ channelOrder.map Channel.code = List.range' 1 12
  ∧ [StatusCode.ok, .checkFailed, .invalid, .bankInUse, .storeFault, .overrun, .abandoned, .noRecord].map StatusCode.code
    = List.range 8
  ∧ [FaultKind.clampFail, .tempRange, .tempAboveNeutral, .tensionRange, .gapOutOfRange, .tensorAbsent, .tensorAmbiguous,
      .tensorRefused, .tensorTimeout, .callCancelled, .tensorLost, .powerDenied, .powerLost, .noContact, .flashUnstable,
      .freeze, .burnShort, .platenStall, .clampSlip, .sensorRange, .operatorStop, .headStop, .lineHalt, .duplicateStation,
      .upsetShort, .powerDegraded, .holdBroken, .tensorSlow, .neutralOff, .energyRange, .unclampSlow, .stopInHold,
      .lineFault, .storeFault, .settingsBad].map FaultKind.code = List.range' 1 35

/-- R186, R187, R190: a write transfer whose kind is none of the eight codes becomes CHECK_FAILED and abandons a staging,
as does one of any of the eight kinds whose length, check byte or count is wrong; while the port is busy the command byte
is refused and nothing else changes; and 25 ms of clock low in a transfer reset the port. The model's choices: the time
comes with the transfer and CLOCK_LOW_TIMEOUT stands for one cut at 25 ms (log 32), a read transfer so cut leaves the read
pointer where it stood (log 58), and the fields that keep the answer on
the wires and the clock-low time (log 26, log 32). -/
def Obligations.BadTransfersAreDiscarded : Prop :=
  (∀ (w : WriteTransfer) (i : Instr) (s : State) (b : Byte), s.pins.lineReset = false → writeAddressed w.bytes = true →
      commandByte? w.bytes = some b →
      (i = .unknownCommandKind w ∧ (b.toNat % 32 = 0 ∨ 9 ≤ b.toNat % 32)) ∨ (i = .loadBankA w ∧ b.toNat % 32 = 1)
        ∨ (i = .loadBankB w ∧ b.toNat % 32 = 2) ∨ (i = .loadCapture w ∧ b.toNat % 32 = 3)
        ∨ (i = .beginStaging w ∧ b.getLsbD 7 = true ∧ 1 ≤ b.toNat % 32 ∧ b.toNat % 32 ≤ 3)
        ∨ (i = .endStaging w ∧ b.getLsbD 6 = true ∧ 1 ≤ b.toNat % 32 ∧ b.toNat % 32 ≤ 3)
        ∨ (i = .selectRecord w ∧ b.toNat % 32 = 4) ∨ (i = .readData w ∧ b.toNat % 32 = 5)
        ∨ (i = .readStatus w ∧ b.toNat % 32 = 6) ∨ (i = .readFaults w ∧ b.toNat % 32 = 7)
        ∨ (i = .clearFaults w ∧ b.toNat % 32 = 8) →
    (w.clockLow < 25 → s.svp.busy = .none →
      (9 ≤ b.toNat % 32 ∨ b.toNat % 32 = 0 ∨ (∃ c, parseCommand w.bytes = some c
        ∧ (c.rest.length ≠ c.count + (if c.checkBit then 1 else 0)
          ∨ (c.checkBit = true ∧ crc8 (c.bytes.take (2 + c.count)) ≠ c.rest.getD c.count 0#8)
          ∨ countFits c.kind c.count = false))) →
      exec i s = .next (gateCurrent { s with svp := { s.svp with
        answer := .taken, clockLow := w.clockLow, staging := none, status := .checkFailed, field := 0 } }))
    ∧ (w.clockLow < 25 → s.svp.busy ≠ .none → exec i s = .next (gateCurrent { s with svp := { s.svp with
        answer := .commandRefused, clockLow := w.clockLow } }))
    ∧ (25 ≤ w.clockLow → exec i s = .next (gateCurrent { s with svp := { s.svp with
        staging := none, status := .abandoned, field := 0, clockLow := 0, answer := .none } })))
  ∧ (∀ (q : ReadTransfer) (s : State), s.pins.lineReset = false → q.address.toNat = 0x3A * 2 + 1 → 25 ≤ q.clockLow →
    exec (.readTransfer q) s = .next (gateCurrent { s with svp := { s.svp with
      staging := none, status := .abandoned, field := 0, clockLow := 0, answer := .none } }))
  ∧ (∀ (a b n : Byte) (rest : List Byte), parseCommand (a :: b :: n :: rest) = some
      { beginBit := b.getLsbD 7, endBit := b.getLsbD 6, checkBit := b.getLsbD 5, kind := b.toNat % 32, count := n.toNat
        rest := rest, bytes := b :: n :: rest })
  ∧ (∀ c : SvpCommand, (commandPasses c = true ↔
      c.rest.length = c.count + (if c.checkBit then 1 else 0)
      ∧ (c.checkBit = true → crc8 (c.bytes.take (2 + c.count)) = c.rest.getD c.count 0#8)
      ∧ 1 ≤ c.kind ∧ c.kind ≤ 8 ∧ countFits c.kind c.count = true)
    ∧ (countFits c.kind c.count = false ↔ (c.kind = 4 ∧ c.count ≠ 1) ∨ (c.kind = 5 ∧ c.count ≠ 2)
      ∨ (6 ≤ c.kind ∧ c.kind ≤ 8 ∧ c.count ≠ 0)))
  ∧ (crc8 [] = 0#8 ∧ ∀ (bs : List Byte) (b : Byte), crc8 (bs ++ [b]) = crcShifted 0x07#8 8 (crc8 bs ^^^ b))
  ∧ (∀ s : State, s.pins.lineReset = false → exec .clockLowTimeout s = .next (gateCurrent { s with svp := { s.svp with
      staging := none, status := .abandoned, field := 0, clockLow := 0, answer := .none } }))

/-! ### The tests the machine reads off its state -/

/-- R108, R135: on the paired station's row as it stands, the tension gate and the release test. -/
def Obligations.GateAndReleaseTestReadTheRow : Prop :=
  ∀ (s : State) (c : WeldCtx) (p : Nat), s.ctx = some c → c.pair = some p →
    (s.gateHolds = true ↔ ∃ side age force, s.row p = .heard true side age (.tensor .holding force)
      ∧ c.plan.fReq * (1000 - (s.bank c.bank).image.tauF) / 1000 ≤ force)
    ∧ (s.releaseHolds = true ↔ ∃ live side age st force, s.row p = .heard live side age (.tensor st force)
      ∧ (st = .idle ∨ st = .releasing) ∧ 20 * force < c.plan.fReq)

/-- R173, R174: the verdict of a weld context is the first that applies: NOT_WELDED without heat; REJECT with an abort
kind or UPSET_SHORT listed; REVIEW with a REVIEW kind or TENSOR_LOST listed, or with the overflow mark; else ACCEPT. -/
def Obligations.VerdictIsTheFirstThatApplies : Prop :=
  ∀ c : WeldCtx,
    let listed (k : FaultKind) := k ∈ c.faults.map (·.kind)
    let rejected := c.abortKind.isSome = true ∨ listed .upsetShort
    let reviewed := c.overflow = true ∨ ∃ k, listed k ∧ k ∈ [FaultKind.powerDegraded, .holdBroken, .tensorSlow,
      .neutralOff, .energyRange, .unclampSlow, .stopInHold, .tensorLost]
    (c.heatBegan = false → verdictOf c = .notWelded)
    ∧ (c.heatBegan = true → rejected → verdictOf c = .reject)
    ∧ (c.heatBegan = true → ¬rejected → reviewed → verdictOf c = .review)
    ∧ (c.heatBegan = true → ¬rejected → ¬reviewed → verdictOf c = .accept)

/-! ### What every step keeps -/

/-- The state after reset keeps the invariant; and a supply reset of it, with every wire low and the strap at 0 and L,
leaves it as it is (R181, R31; log 5, log 6). -/
def Obligations.ResetStateKeepsTheInvariant : Prop :=
  Inv State.reset
  ∧ exec (.supplyReset { station := 0#4, side := .left, lineOk := false, headStop := false, lineReset := false })
      State.reset = .next State.reset

/-- R47, R115, R116, R127, R136: a weld context exists exactly in the states of a weld, and every step keeps it so, with
the claim and the gate watch that go with them. -/
def Obligations.EveryStepKeepsContextAndState : Prop :=
  ∀ s t : State, WeldFits s → step s = .next t → WeldFits t

/-- R71, R148, R150: every step keeps the outgoing queue at 8 frames and one ANNOUNCE at most, the calls at two and one to
a destination at most, and the weld fault list at 8 entries of different kinds, each counted from 1 to 255. A kind that is entered again raises its
count, a new one joins the list's end with its phase, and one that finds the list full sets the overflow mark; FAULT is raised by
the first two, and by neither a count held at 255 nor a kind lost. -/
def Obligations.EveryStepKeepsQueueCallsAndFaultList : Prop :=
  (∀ s t : State, LineFits s → step s = .next t → LineFits t)
  ∧ (∀ (kind : FaultKind) (phase : SeqState) (c : WeldCtx), (c.faults.map (·.kind)).Nodup →
    FaultListed kind phase c (c.addFault kind phase).1
    ∧ ((c.addFault kind phase).2 = true ↔ (∃ e ∈ c.faults, e.kind = kind ∧ e.count < 255)
      ∨ (kind ∉ c.faults.map (·.kind) ∧ c.faults.length < 8)))
  ∧ (∀ s t : State, ListFits s → step s = .next t → ListFits t)

/-- R32: the bank named by the weld context is ready, keeps its image, mark and marker while the context exists, and no
step binds the context to the other. -/
def Obligations.EveryStepKeepsTheBoundBank : Prop :=
  ∀ s t : State, BanksFit s → step s = .next t →
    BanksFit t ∧ ∀ c c', s.ctx = some c → t.ctx = some c' → c'.bank = c.bank ∧ t.bank c.bank = s.bank c.bank

/-- R178, R181, R168: every step keeps the weld numbers apart and below the next, the pending slot empty while a weld is
in flight, and trace memory in its canonical form. -/
def Obligations.EveryStepKeepsRecordsAndTrace : Prop :=
  (∀ s t : State, RecordsFit s → step s = .next t → RecordsFit t)
  ∧ (∀ s t : State, TraceFits s → step s = .next t → TraceFits t)

/-- R183: the first-fault record, once present, stands through every command but a supply reset and CLEAR_FAULTS, and no
following count falls or passes 255. The first fault filed becomes that record, and each later one raises the count of its
kind by 1, up to 255. -/
def Obligations.FirstFaultStandsUntilCleared : Prop :=
  (∀ (c : Instr) (s t : State), exec c s = .next t → (∀ w, c ≠ .supplyReset w) → (∀ w, c ≠ .clearFaults w) →
    (∀ f, s.rst.log.first = some f → t.rst.log.first = some f)
    ∧ ∀ i, s.rst.log.counts.getD i 0 ≤ 255 →
        s.rst.log.counts.getD i 0 ≤ t.rst.log.counts.getD i 0 ∧ t.rst.log.counts.getD i 0 ≤ 255)
  ∧ (∀ (f : FirstFault) (log : FaultLog), log.counts.length = 35 →
    (log.first = none → log.file f = { first := some f, counts := log.counts })
    ∧ (log.first.isSome = true → (log.file f).first = log.first ∧ (log.file f).counts.length = 35
      ∧ ∀ i, (log.file f).counts.getD i 0 =
        if i + 1 = f.kind.code then min (log.counts.getD i 0 + 1) 255 else log.counts.getD i 0))

/-! ### The layouts -/

/-- R144 to R146, R153: a frame laid out with its sync byte, header, payload and check is taken apart as the same frame,
whatever bytes follow its check; cut short anywhere it is discarded; and bytes that are no such layout are discarded. The
check is worked over the header and the payload. A frame the controller sends carries its station, its kind and the payload
of R144, an ANNOUNCE every announced field as it stands (`sentFields`; log 16 for the destination 0). A received payload is
read by kind, with the length the layout gives (`BodyReads`; a claim or an offer above its range as sent, log 54, a head's state code as sent and a console's not read,
log 60), and any other is discarded; a CALL or an ANSWER, and no other
kind, needs a destination of its own. -/
def Obligations.FramesSurviveTheLayout : Prop :=
  (∀ (f : RxFrame) (extra : List Byte), f.source < 16 → f.dest < 16 → f.kind < 256 → f.payload.length ≤ 24 →
    parseFrame (encodeFrame f ++ extra) = some f
    ∧ (encodeFrame f).length = 6 + f.payload.length
    ∧ ∀ n, n < (encodeFrame f).length → parseFrame ((encodeFrame f).take n) = none)
  ∧ (∀ (bytes : List Byte) (f : RxFrame), parseFrame bytes = some f →
    (∃ extra, bytes = encodeFrame f ++ extra) ∧ f.source < 16 ∧ f.dest < 16 ∧ f.kind < 256 ∧ f.payload.length ≤ 24)
  ∧ (∀ f : RxFrame, f.source < 16 → f.dest < 16 →
    let body := fieldBytes [(1, 16 * f.source + f.dest), (1, f.kind), (1, f.payload.length)] ++ f.payload
    encodeFrame f = 0x96#8 :: body ++ fieldBytes [(2, (crc16 body).toNat)])
  ∧ (crc16 [] = 0xFFFF#16
    ∧ ∀ (bs : List Byte) (b : Byte), crc16 (bs ++ [b]) = crcShifted 0x1021#16 8 (crc16 bs ^^^ (b.setWidth 16 <<< 8)))
  ∧ (∀ (f : OutFrame) (s : State), frameBytes f s = encodeFrame
      { source := s.lnp.station, dest := (sentFields s f).1, kind := (sentFields s f).2.1
        payload := fieldBytes (sentFields s f).2.2 })
  ∧ (∀ (f : RxFrame) (body : RxBody), (rxBody f = some body ↔ BodyReads f.payload f.kind body)
    ∧ (rxBody f = some body → (body.needsOwnDest = true ↔ f.kind = 4 ∨ f.kind = 5)))

/-- R18 to R24, R30, R31, R170, R171: a schedule whose 54 fields are good is read back whole from its 112-byte image, and an
image from its schedule; the image stored with its check is a VALID bank at the next supply reset. An image gives each field
from its place (R24), and a field is good exactly in its range and under its pairing condition (`FieldFits`; R18 to R23).
A capture program image's fields are good exactly as R171 says (`CaptureFieldFits`), and where all are good it reads as the
program of R170 (`ProgramOf`). The field an install names is the lowest bad one. -/
def Obligations.BankImagesSurviveTheStore : Prop :=
  (∀ k : Schedule, k.fields.length = 54 → (∀ i, 1 ≤ i → i ≤ 54 → fieldGood k i = true) →
    (imageOfSchedule k).length = 112 ∧ scheduleOfImage (imageOfSchedule k) = k
    ∧ bankOfStored { image := imageOfSchedule k, check := crc16 (imageOfSchedule k) }
      = { image := k, valid := true, installing := false })
  ∧ (∀ image : List Byte, image.length = 112 → imageOfSchedule (scheduleOfImage image) = image
    ∧ (∀ i, 1 ≤ i → i ≤ 52 → (scheduleOfImage image).get i = wordOf image (2 * (i - 1)))
    ∧ (scheduleOfImage image).get 53 = longOf image 104 ∧ (scheduleOfImage image).get 54 = longOf image 108)
  ∧ (∀ (image : List Byte) (i : Nat), 1 ≤ i → i ≤ 54 →
    (fieldGood (scheduleOfImage image) i = true ↔ FieldFits (scheduleOfImage image) i))
  ∧ (∀ k : Schedule, LowestBad (fieldGood k) 54 (firstBadField k))
  ∧ (∀ image : List Byte, LowestBad (captureFieldGood image) 180 (firstBadCaptureField image))
  ∧ (∀ image : List Byte, image.length = 348 →
    (∀ n, 1 ≤ n → n ≤ 180 → (captureFieldGood image n = true ↔ CaptureFieldFits image n))
    ∧ ((∀ n, 1 ≤ n → n ≤ 180 → captureFieldGood image n = true) → ProgramOf image (programOfImage image)))
  ∧ (∀ m : StoredImage, m.checks = true ↔ m.check = crc16 m.image)
end

