-- ==== Sys2Proof/Laws/State.lean ====
section
/-! SUPPORT. What each shared update leaves alone, one lemma per field, and what the small ones write. -/
namespace Sys2Proof.Machine

set_option Elab.async false

/-! ### The smallest updates -/

@[simp] theorem mapCtx_pins (f : WeldCtx → WeldCtx) (s : State) : (s.mapCtx f).pins = s.pins := rfl
@[simp] theorem mapCtx_mfe (f : WeldCtx → WeldCtx) (s : State) : (s.mapCtx f).mfe = s.mfe := rfl
@[simp] theorem mapCtx_wsq (f : WeldCtx → WeldCtx) (s : State) : (s.mapCtx f).wsq = s.wsq := rfl
@[simp] theorem mapCtx_frg (f : WeldCtx → WeldCtx) (s : State) : (s.mapCtx f).frg = s.frg := rfl
@[simp] theorem mapCtx_clu (f : WeldCtx → WeldCtx) (s : State) : (s.mapCtx f).clu = s.clu := rfl
@[simp] theorem mapCtx_tnl (f : WeldCtx → WeldCtx) (s : State) : (s.mapCtx f).tnl = s.tnl := rfl
@[simp] theorem mapCtx_lnp (f : WeldCtx → WeldCtx) (s : State) : (s.mapCtx f).lnp = s.lnp := rfl
@[simp] theorem mapCtx_cap (f : WeldCtx → WeldCtx) (s : State) : (s.mapCtx f).cap = s.cap := rfl
@[simp] theorem mapCtx_rst (f : WeldCtx → WeldCtx) (s : State) : (s.mapCtx f).rst = s.rst := rfl
@[simp] theorem mapCtx_svp (f : WeldCtx → WeldCtx) (s : State) : (s.mapCtx f).svp = s.svp := rfl
@[simp] theorem mapCtx_freeCount (f : WeldCtx → WeldCtx) (s : State) : (s.mapCtx f).freeCount = s.freeCount := rfl
@[simp] theorem mapCtx_pending (f : WeldCtx → WeldCtx) (s : State) : (s.mapCtx f).pending = s.pending := rfl

@[simp] theorem mapCtx_ctx (f : WeldCtx → WeldCtx) (s : State) : (s.mapCtx f).ctx = s.ctx.map f := rfl

@[simp] theorem mapSet_pins (f : Outputs → Outputs) (s : State) : (s.mapSet f).pins = s.pins := rfl
@[simp] theorem mapSet_wsq (f : Outputs → Outputs) (s : State) : (s.mapSet f).wsq = s.wsq := rfl
@[simp] theorem mapSet_ctx (f : Outputs → Outputs) (s : State) : (s.mapSet f).ctx = s.ctx := rfl
@[simp] theorem mapSet_frg (f : Outputs → Outputs) (s : State) : (s.mapSet f).frg = s.frg := rfl
@[simp] theorem mapSet_clu (f : Outputs → Outputs) (s : State) : (s.mapSet f).clu = s.clu := rfl
@[simp] theorem mapSet_tnl (f : Outputs → Outputs) (s : State) : (s.mapSet f).tnl = s.tnl := rfl
@[simp] theorem mapSet_lnp (f : Outputs → Outputs) (s : State) : (s.mapSet f).lnp = s.lnp := rfl
@[simp] theorem mapSet_cap (f : Outputs → Outputs) (s : State) : (s.mapSet f).cap = s.cap := rfl
@[simp] theorem mapSet_rst (f : Outputs → Outputs) (s : State) : (s.mapSet f).rst = s.rst := rfl
@[simp] theorem mapSet_svp (f : Outputs → Outputs) (s : State) : (s.mapSet f).svp = s.svp := rfl
@[simp] theorem mapSet_freeCount (f : Outputs → Outputs) (s : State) : (s.mapSet f).freeCount = s.freeCount := rfl
@[simp] theorem mapSet_pending (f : Outputs → Outputs) (s : State) : (s.mapSet f).pending = s.pending := rfl

@[simp] theorem mapSet_mfe (f : Outputs → Outputs) (s : State) :
    (s.mapSet f).mfe = { s.mfe with set := f s.mfe.set } := rfl

@[simp] theorem mapProgress_pins (f : Progress → Progress) (s : State) : (s.mapProgress f).pins = s.pins := rfl
@[simp] theorem mapProgress_mfe (f : Progress → Progress) (s : State) : (s.mapProgress f).mfe = s.mfe := rfl
@[simp] theorem mapProgress_wsq (f : Progress → Progress) (s : State) : (s.mapProgress f).wsq = s.wsq := rfl
@[simp] theorem mapProgress_frg (f : Progress → Progress) (s : State) : (s.mapProgress f).frg = s.frg := rfl
@[simp] theorem mapProgress_clu (f : Progress → Progress) (s : State) : (s.mapProgress f).clu = s.clu := rfl
@[simp] theorem mapProgress_tnl (f : Progress → Progress) (s : State) : (s.mapProgress f).tnl = s.tnl := rfl
@[simp] theorem mapProgress_lnp (f : Progress → Progress) (s : State) : (s.mapProgress f).lnp = s.lnp := rfl
@[simp] theorem mapProgress_cap (f : Progress → Progress) (s : State) : (s.mapProgress f).cap = s.cap := rfl
@[simp] theorem mapProgress_rst (f : Progress → Progress) (s : State) : (s.mapProgress f).rst = s.rst := rfl
@[simp] theorem mapProgress_svp (f : Progress → Progress) (s : State) : (s.mapProgress f).svp = s.svp := rfl
@[simp] theorem mapProgress_freeCount (f : Progress → Progress) (s : State) : (s.mapProgress f).freeCount = s.freeCount := rfl
@[simp] theorem mapProgress_pending (f : Progress → Progress) (s : State) : (s.mapProgress f).pending = s.pending := rfl

@[simp] theorem mapProgress_ctx (f : Progress → Progress) (s : State) :
    (s.mapProgress f).ctx = s.ctx.map (fun c => { c with progress := f c.progress }) := rfl

@[simp] theorem mapSvp_pins (f : Svp → Svp) (s : State) : (s.mapSvp f).pins = s.pins := rfl
@[simp] theorem mapSvp_mfe (f : Svp → Svp) (s : State) : (s.mapSvp f).mfe = s.mfe := rfl
@[simp] theorem mapSvp_wsq (f : Svp → Svp) (s : State) : (s.mapSvp f).wsq = s.wsq := rfl
@[simp] theorem mapSvp_ctx (f : Svp → Svp) (s : State) : (s.mapSvp f).ctx = s.ctx := rfl
@[simp] theorem mapSvp_frg (f : Svp → Svp) (s : State) : (s.mapSvp f).frg = s.frg := rfl
@[simp] theorem mapSvp_clu (f : Svp → Svp) (s : State) : (s.mapSvp f).clu = s.clu := rfl
@[simp] theorem mapSvp_tnl (f : Svp → Svp) (s : State) : (s.mapSvp f).tnl = s.tnl := rfl
@[simp] theorem mapSvp_lnp (f : Svp → Svp) (s : State) : (s.mapSvp f).lnp = s.lnp := rfl
@[simp] theorem mapSvp_cap (f : Svp → Svp) (s : State) : (s.mapSvp f).cap = s.cap := rfl
@[simp] theorem mapSvp_rst (f : Svp → Svp) (s : State) : (s.mapSvp f).rst = s.rst := rfl
@[simp] theorem mapSvp_freeCount (f : Svp → Svp) (s : State) : (s.mapSvp f).freeCount = s.freeCount := rfl
@[simp] theorem mapSvp_pending (f : Svp → Svp) (s : State) : (s.mapSvp f).pending = s.pending := rfl

@[simp] theorem mapSvp_svp (f : Svp → Svp) (s : State) : (s.mapSvp f).svp = f s.svp := rfl

@[simp] theorem setStatus_pins (c : StatusCode) (n : Nat) (s : State) : (setStatus c n s).pins = s.pins := rfl
@[simp] theorem setStatus_mfe (c : StatusCode) (n : Nat) (s : State) : (setStatus c n s).mfe = s.mfe := rfl
@[simp] theorem setStatus_wsq (c : StatusCode) (n : Nat) (s : State) : (setStatus c n s).wsq = s.wsq := rfl
@[simp] theorem setStatus_ctx (c : StatusCode) (n : Nat) (s : State) : (setStatus c n s).ctx = s.ctx := rfl
@[simp] theorem setStatus_frg (c : StatusCode) (n : Nat) (s : State) : (setStatus c n s).frg = s.frg := rfl
@[simp] theorem setStatus_clu (c : StatusCode) (n : Nat) (s : State) : (setStatus c n s).clu = s.clu := rfl
@[simp] theorem setStatus_tnl (c : StatusCode) (n : Nat) (s : State) : (setStatus c n s).tnl = s.tnl := rfl
@[simp] theorem setStatus_lnp (c : StatusCode) (n : Nat) (s : State) : (setStatus c n s).lnp = s.lnp := rfl
@[simp] theorem setStatus_cap (c : StatusCode) (n : Nat) (s : State) : (setStatus c n s).cap = s.cap := rfl
@[simp] theorem setStatus_rst (c : StatusCode) (n : Nat) (s : State) : (setStatus c n s).rst = s.rst := rfl
@[simp] theorem setStatus_freeCount (c : StatusCode) (n : Nat) (s : State) : (setStatus c n s).freeCount = s.freeCount := rfl
@[simp] theorem setStatus_pending (c : StatusCode) (n : Nat) (s : State) : (setStatus c n s).pending = s.pending := rfl

@[simp] theorem setStatus_svp (c : StatusCode) (n : Nat) (s : State) :
    (setStatus c n s).svp = { s.svp with status := c, field := n } := rfl

@[simp] theorem installOutcome_pins (c : StatusCode) (n : Nat) (s : State) : (installOutcome c n s).pins = s.pins := rfl
@[simp] theorem installOutcome_mfe (c : StatusCode) (n : Nat) (s : State) : (installOutcome c n s).mfe = s.mfe := rfl
@[simp] theorem installOutcome_wsq (c : StatusCode) (n : Nat) (s : State) : (installOutcome c n s).wsq = s.wsq := rfl
@[simp] theorem installOutcome_ctx (c : StatusCode) (n : Nat) (s : State) : (installOutcome c n s).ctx = s.ctx := rfl
@[simp] theorem installOutcome_frg (c : StatusCode) (n : Nat) (s : State) : (installOutcome c n s).frg = s.frg := rfl
@[simp] theorem installOutcome_clu (c : StatusCode) (n : Nat) (s : State) : (installOutcome c n s).clu = s.clu := rfl
@[simp] theorem installOutcome_tnl (c : StatusCode) (n : Nat) (s : State) : (installOutcome c n s).tnl = s.tnl := rfl
@[simp] theorem installOutcome_lnp (c : StatusCode) (n : Nat) (s : State) : (installOutcome c n s).lnp = s.lnp := rfl
@[simp] theorem installOutcome_cap (c : StatusCode) (n : Nat) (s : State) : (installOutcome c n s).cap = s.cap := rfl
@[simp] theorem installOutcome_rst (c : StatusCode) (n : Nat) (s : State) : (installOutcome c n s).rst = s.rst := rfl
@[simp] theorem installOutcome_freeCount (c : StatusCode) (n : Nat) (s : State) : (installOutcome c n s).freeCount = s.freeCount := rfl
@[simp] theorem installOutcome_pending (c : StatusCode) (n : Nat) (s : State) : (installOutcome c n s).pending = s.pending := rfl

@[simp] theorem installOutcome_svp (c : StatusCode) (n : Nat) (s : State) :
    (installOutcome c n s).svp = { s.svp with status := c, field := n, busy := .none } := rfl

@[simp] theorem setRow_pins (n : Nat) (r : PeerRow) (s : State) : (s.setRow n r).pins = s.pins := by unfold State.setRow; split <;> rfl
@[simp] theorem setRow_mfe (n : Nat) (r : PeerRow) (s : State) : (s.setRow n r).mfe = s.mfe := by unfold State.setRow; split <;> rfl
@[simp] theorem setRow_wsq (n : Nat) (r : PeerRow) (s : State) : (s.setRow n r).wsq = s.wsq := by unfold State.setRow; split <;> rfl
@[simp] theorem setRow_ctx (n : Nat) (r : PeerRow) (s : State) : (s.setRow n r).ctx = s.ctx := by unfold State.setRow; split <;> rfl
@[simp] theorem setRow_frg (n : Nat) (r : PeerRow) (s : State) : (s.setRow n r).frg = s.frg := by unfold State.setRow; split <;> rfl
@[simp] theorem setRow_clu (n : Nat) (r : PeerRow) (s : State) : (s.setRow n r).clu = s.clu := by unfold State.setRow; split <;> rfl
@[simp] theorem setRow_tnl (n : Nat) (r : PeerRow) (s : State) : (s.setRow n r).tnl = s.tnl := by unfold State.setRow; split <;> rfl
@[simp] theorem setRow_cap (n : Nat) (r : PeerRow) (s : State) : (s.setRow n r).cap = s.cap := by unfold State.setRow; split <;> rfl
@[simp] theorem setRow_rst (n : Nat) (r : PeerRow) (s : State) : (s.setRow n r).rst = s.rst := by unfold State.setRow; split <;> rfl
@[simp] theorem setRow_svp (n : Nat) (r : PeerRow) (s : State) : (s.setRow n r).svp = s.svp := by unfold State.setRow; split <;> rfl
@[simp] theorem setRow_freeCount (n : Nat) (r : PeerRow) (s : State) : (s.setRow n r).freeCount = s.freeCount := by unfold State.setRow; split <;> rfl
@[simp] theorem setRow_pending (n : Nat) (r : PeerRow) (s : State) : (s.setRow n r).pending = s.pending := by unfold State.setRow; split <;> rfl

@[simp] theorem gateCurrent_pins (s : State) : (gateCurrent s).pins = s.pins := by unfold gateCurrent; split <;> rfl
@[simp] theorem gateCurrent_wsq (s : State) : (gateCurrent s).wsq = s.wsq := by unfold gateCurrent; split <;> rfl
@[simp] theorem gateCurrent_ctx (s : State) : (gateCurrent s).ctx = s.ctx := by unfold gateCurrent; split <;> rfl
@[simp] theorem gateCurrent_frg (s : State) : (gateCurrent s).frg = s.frg := by unfold gateCurrent; split <;> rfl
@[simp] theorem gateCurrent_clu (s : State) : (gateCurrent s).clu = s.clu := by unfold gateCurrent; split <;> rfl
@[simp] theorem gateCurrent_tnl (s : State) : (gateCurrent s).tnl = s.tnl := by unfold gateCurrent; split <;> rfl
@[simp] theorem gateCurrent_lnp (s : State) : (gateCurrent s).lnp = s.lnp := by unfold gateCurrent; split <;> rfl
@[simp] theorem gateCurrent_cap (s : State) : (gateCurrent s).cap = s.cap := by unfold gateCurrent; split <;> rfl
@[simp] theorem gateCurrent_rst (s : State) : (gateCurrent s).rst = s.rst := by unfold gateCurrent; split <;> rfl
@[simp] theorem gateCurrent_svp (s : State) : (gateCurrent s).svp = s.svp := by unfold gateCurrent; split <;> rfl
@[simp] theorem gateCurrent_freeCount (s : State) : (gateCurrent s).freeCount = s.freeCount := by unfold gateCurrent; split <;> rfl
@[simp] theorem gateCurrent_pending (s : State) : (gateCurrent s).pending = s.pending := by unfold gateCurrent; split <;> rfl

@[simp] theorem gateCurrent_mfe_inputs (s : State) : (gateCurrent s).mfe.inputs = s.mfe.inputs := by
  unfold gateCurrent; split <;> rfl
@[simp] theorem gateCurrent_mfe_rangeNotices (s : State) : (gateCurrent s).mfe.rangeNotices = s.mfe.rangeNotices := by
  unfold gateCurrent; split <;> rfl
@[simp] theorem gateCurrent_mfe_planning (s : State) : (gateCurrent s).mfe.planning = s.mfe.planning := by
  unfold gateCurrent; split <;> rfl
@[simp] theorem gateCurrent_mfe_shorted (s : State) : (gateCurrent s).mfe.shorted = s.mfe.shorted := by
  unfold gateCurrent; split <;> rfl
@[simp] theorem gateCurrent_mfe_onsets (s : State) : (gateCurrent s).mfe.onsets = s.mfe.onsets := by
  unfold gateCurrent; split <;> rfl
@[simp] theorem gateCurrent_mfe_shortDuration (s : State) : (gateCurrent s).mfe.shortDuration = s.mfe.shortDuration := by
  unfold gateCurrent; split <;> rfl
@[simp] theorem gateCurrent_mfe_freezeNotices (s : State) : (gateCurrent s).mfe.freezeNotices = s.mfe.freezeNotices := by
  unfold gateCurrent; split <;> rfl
@[simp] theorem gateCurrent_mfe_energy (s : State) : (gateCurrent s).mfe.energy = s.mfe.energy := by
  unfold gateCurrent; split <;> rfl
@[simp] theorem gateCurrent_mfe_stall (s : State) : (gateCurrent s).mfe.stall = s.mfe.stall := by
  unfold gateCurrent; split <;> rfl
@[simp] theorem gateCurrent_mfe_slip (s : State) : (gateCurrent s).mfe.slip = s.mfe.slip := by
  unfold gateCurrent; split <;> rfl
@[simp] theorem gateCurrent_mfe_slipNotice (s : State) : (gateCurrent s).mfe.slipNotice = s.mfe.slipNotice := by
  unfold gateCurrent; split <;> rfl
@[simp] theorem gateCurrent_mfe_set (s : State) : (gateCurrent s).mfe.set = s.mfe.set := by
  unfold gateCurrent; split <;> rfl

/-! ### Announcing: the queue alone -/

@[simp] theorem requestAnnounce_pins (s : State) : (requestAnnounce s).pins = s.pins := rfl
@[simp] theorem requestAnnounce_mfe (s : State) : (requestAnnounce s).mfe = s.mfe := rfl
@[simp] theorem requestAnnounce_wsq (s : State) : (requestAnnounce s).wsq = s.wsq := rfl
@[simp] theorem requestAnnounce_ctx (s : State) : (requestAnnounce s).ctx = s.ctx := rfl
@[simp] theorem requestAnnounce_frg (s : State) : (requestAnnounce s).frg = s.frg := rfl
@[simp] theorem requestAnnounce_clu (s : State) : (requestAnnounce s).clu = s.clu := rfl
@[simp] theorem requestAnnounce_tnl (s : State) : (requestAnnounce s).tnl = s.tnl := rfl
@[simp] theorem requestAnnounce_cap (s : State) : (requestAnnounce s).cap = s.cap := rfl
@[simp] theorem requestAnnounce_rst (s : State) : (requestAnnounce s).rst = s.rst := rfl
@[simp] theorem requestAnnounce_svp (s : State) : (requestAnnounce s).svp = s.svp := rfl
@[simp] theorem requestAnnounce_freeCount (s : State) : (requestAnnounce s).freeCount = s.freeCount := rfl
@[simp] theorem requestAnnounce_pending (s : State) : (requestAnnounce s).pending = s.pending := rfl

@[simp] theorem announceChange_pins (s : State) : (announceChange s).pins = s.pins := by unfold announceChange; split <;> rfl
@[simp] theorem announceChange_mfe (s : State) : (announceChange s).mfe = s.mfe := by unfold announceChange; split <;> rfl
@[simp] theorem announceChange_wsq (s : State) : (announceChange s).wsq = s.wsq := by unfold announceChange; split <;> rfl
@[simp] theorem announceChange_ctx (s : State) : (announceChange s).ctx = s.ctx := by unfold announceChange; split <;> rfl
@[simp] theorem announceChange_frg (s : State) : (announceChange s).frg = s.frg := by unfold announceChange; split <;> rfl
@[simp] theorem announceChange_clu (s : State) : (announceChange s).clu = s.clu := by unfold announceChange; split <;> rfl
@[simp] theorem announceChange_tnl (s : State) : (announceChange s).tnl = s.tnl := by unfold announceChange; split <;> rfl
@[simp] theorem announceChange_cap (s : State) : (announceChange s).cap = s.cap := by unfold announceChange; split <;> rfl
@[simp] theorem announceChange_rst (s : State) : (announceChange s).rst = s.rst := by unfold announceChange; split <;> rfl
@[simp] theorem announceChange_svp (s : State) : (announceChange s).svp = s.svp := by unfold announceChange; split <;> rfl
@[simp] theorem announceChange_freeCount (s : State) : (announceChange s).freeCount = s.freeCount := by unfold announceChange; split <;> rfl
@[simp] theorem announceChange_pending (s : State) : (announceChange s).pending = s.pending := by unfold announceChange; split <;> rfl

/-! ### Activations: trace capture and the trace-truncated mark alone -/

@[simp] theorem runDescriptor_pins (d : Nat) (x : Descriptor) (s : State) : (runDescriptor d x s).pins = s.pins := by unfold runDescriptor; dsimp only; split <;> rfl
@[simp] theorem runDescriptor_mfe (d : Nat) (x : Descriptor) (s : State) : (runDescriptor d x s).mfe = s.mfe := by unfold runDescriptor; dsimp only; split <;> rfl
@[simp] theorem runDescriptor_wsq (d : Nat) (x : Descriptor) (s : State) : (runDescriptor d x s).wsq = s.wsq := by unfold runDescriptor; dsimp only; split <;> rfl
@[simp] theorem runDescriptor_frg (d : Nat) (x : Descriptor) (s : State) : (runDescriptor d x s).frg = s.frg := by unfold runDescriptor; dsimp only; split <;> rfl
@[simp] theorem runDescriptor_clu (d : Nat) (x : Descriptor) (s : State) : (runDescriptor d x s).clu = s.clu := by unfold runDescriptor; dsimp only; split <;> rfl
@[simp] theorem runDescriptor_tnl (d : Nat) (x : Descriptor) (s : State) : (runDescriptor d x s).tnl = s.tnl := by unfold runDescriptor; dsimp only; split <;> rfl
@[simp] theorem runDescriptor_lnp (d : Nat) (x : Descriptor) (s : State) : (runDescriptor d x s).lnp = s.lnp := by unfold runDescriptor; dsimp only; split <;> rfl
@[simp] theorem runDescriptor_rst (d : Nat) (x : Descriptor) (s : State) : (runDescriptor d x s).rst = s.rst := by unfold runDescriptor; dsimp only; split <;> rfl
@[simp] theorem runDescriptor_svp (d : Nat) (x : Descriptor) (s : State) : (runDescriptor d x s).svp = s.svp := by unfold runDescriptor; dsimp only; split <;> rfl
@[simp] theorem runDescriptor_freeCount (d : Nat) (x : Descriptor) (s : State) : (runDescriptor d x s).freeCount = s.freeCount := by unfold runDescriptor; dsimp only; split <;> rfl
@[simp] theorem runDescriptor_pending (d : Nat) (x : Descriptor) (s : State) : (runDescriptor d x s).pending = s.pending := by unfold runDescriptor; dsimp only; split <;> rfl

@[simp] theorem runChain_pins (n d : Nat) (seen : List Nat) (s : State) : (runChain n d seen s).pins = s.pins := by
  induction n generalizing d seen s with
  | zero => rfl
  | succ n ih => unfold runChain; repeat' split
                 all_goals simp [ih]
@[simp] theorem runChain_mfe (n d : Nat) (seen : List Nat) (s : State) : (runChain n d seen s).mfe = s.mfe := by
  induction n generalizing d seen s with
  | zero => rfl
  | succ n ih => unfold runChain; repeat' split
                 all_goals simp [ih]
@[simp] theorem runChain_wsq (n d : Nat) (seen : List Nat) (s : State) : (runChain n d seen s).wsq = s.wsq := by
  induction n generalizing d seen s with
  | zero => rfl
  | succ n ih => unfold runChain; repeat' split
                 all_goals simp [ih]
@[simp] theorem runChain_frg (n d : Nat) (seen : List Nat) (s : State) : (runChain n d seen s).frg = s.frg := by
  induction n generalizing d seen s with
  | zero => rfl
  | succ n ih => unfold runChain; repeat' split
                 all_goals simp [ih]
@[simp] theorem runChain_clu (n d : Nat) (seen : List Nat) (s : State) : (runChain n d seen s).clu = s.clu := by
  induction n generalizing d seen s with
  | zero => rfl
  | succ n ih => unfold runChain; repeat' split
                 all_goals simp [ih]
@[simp] theorem runChain_tnl (n d : Nat) (seen : List Nat) (s : State) : (runChain n d seen s).tnl = s.tnl := by
  induction n generalizing d seen s with
  | zero => rfl
  | succ n ih => unfold runChain; repeat' split
                 all_goals simp [ih]
@[simp] theorem runChain_lnp (n d : Nat) (seen : List Nat) (s : State) : (runChain n d seen s).lnp = s.lnp := by
  induction n generalizing d seen s with
  | zero => rfl
  | succ n ih => unfold runChain; repeat' split
                 all_goals simp [ih]
@[simp] theorem runChain_rst (n d : Nat) (seen : List Nat) (s : State) : (runChain n d seen s).rst = s.rst := by
  induction n generalizing d seen s with
  | zero => rfl
  | succ n ih => unfold runChain; repeat' split
                 all_goals simp [ih]
@[simp] theorem runChain_svp (n d : Nat) (seen : List Nat) (s : State) : (runChain n d seen s).svp = s.svp := by
  induction n generalizing d seen s with
  | zero => rfl
  | succ n ih => unfold runChain; repeat' split
                 all_goals simp [ih]
@[simp] theorem runChain_freeCount (n d : Nat) (seen : List Nat) (s : State) : (runChain n d seen s).freeCount = s.freeCount := by
  induction n generalizing d seen s with
  | zero => rfl
  | succ n ih => unfold runChain; repeat' split
                 all_goals simp [ih]
@[simp] theorem runChain_pending (n d : Nat) (seen : List Nat) (s : State) : (runChain n d seen s).pending = s.pending := by
  induction n generalizing d seen s with
  | zero => rfl
  | succ n ih => unfold runChain; repeat' split
                 all_goals simp [ih]

@[simp] theorem activate_pins (src : Source) (s : State) : (activate src s).pins = s.pins := by
  unfold activate; repeat' split
  all_goals simp
@[simp] theorem activate_mfe (src : Source) (s : State) : (activate src s).mfe = s.mfe := by
  unfold activate; repeat' split
  all_goals simp
@[simp] theorem activate_wsq (src : Source) (s : State) : (activate src s).wsq = s.wsq := by
  unfold activate; repeat' split
  all_goals simp
@[simp] theorem activate_frg (src : Source) (s : State) : (activate src s).frg = s.frg := by
  unfold activate; repeat' split
  all_goals simp
@[simp] theorem activate_clu (src : Source) (s : State) : (activate src s).clu = s.clu := by
  unfold activate; repeat' split
  all_goals simp
@[simp] theorem activate_tnl (src : Source) (s : State) : (activate src s).tnl = s.tnl := by
  unfold activate; repeat' split
  all_goals simp
@[simp] theorem activate_lnp (src : Source) (s : State) : (activate src s).lnp = s.lnp := by
  unfold activate; repeat' split
  all_goals simp
@[simp] theorem activate_rst (src : Source) (s : State) : (activate src s).rst = s.rst := by
  unfold activate; repeat' split
  all_goals simp
@[simp] theorem activate_svp (src : Source) (s : State) : (activate src s).svp = s.svp := by
  unfold activate; repeat' split
  all_goals simp
@[simp] theorem activate_freeCount (src : Source) (s : State) : (activate src s).freeCount = s.freeCount := by
  unfold activate; repeat' split
  all_goals simp
@[simp] theorem activate_pending (src : Source) (s : State) : (activate src s).pending = s.pending := by
  unfold activate; repeat' split
  all_goals simp

/-- What an activation does to the weld context: nothing but the trace-truncated mark, which it may set (R165). -/
theorem runChain_ctx (n d : Nat) (seen : List Nat) (s : State) :
    ∃ b : Bool, (runChain n d seen s).ctx = s.ctx.map (fun c => { c with truncated := c.truncated || b }) := by
  induction n generalizing d seen s with
  | zero => exact ⟨false, by simp [runChain]⟩
  | succ n ih =>
    have one : ∀ (x : Descriptor), ∃ b : Bool,
        (runDescriptor d x s).ctx = s.ctx.map (fun c => { c with truncated := c.truncated || b }) := by
      intro x
      unfold runDescriptor
      dsimp only
      split
      · exact ⟨false, by simp⟩
      · exact ⟨_, rfl⟩
    unfold runChain
    repeat' split
    · exact ⟨false, by simp⟩
    · exact ⟨false, by simp⟩
    · exact one _
    · rename_i x _ _ d' _
      obtain ⟨b1, h1⟩ := one x
      obtain ⟨b2, h2⟩ := ih d' (d :: seen) (runDescriptor d x s)
      refine ⟨b1 || b2, ?_⟩
      rw [h2, h1, Option.map_map]
      congr 1
      funext c
      simp [Bool.or_assoc]

/-- R159, R165: an activation sets at most the trace-truncated mark of the weld context. -/
theorem activate_ctx (src : Source) (s : State) :
    ∃ b : Bool, (activate src s).ctx = s.ctx.map (fun c => { c with truncated := c.truncated || b }) := by
  unfold activate
  split
  · split
    · exact ⟨false, by simp⟩
    · exact runChain_ctx _ _ _ _
  · exact ⟨false, by simp⟩

/-! ### Faults handed to the log, frames offered to the queue -/

@[simp] theorem logFault_pins (k : FaultKind) (w : Option Nat) (i : Option Int) (s : State) : (logFault k w i s).pins = s.pins := by
  unfold logFault; dsimp only; split <;> simp
@[simp] theorem logFault_mfe (k : FaultKind) (w : Option Nat) (i : Option Int) (s : State) : (logFault k w i s).mfe = s.mfe := by
  unfold logFault; dsimp only; split <;> simp
@[simp] theorem logFault_wsq (k : FaultKind) (w : Option Nat) (i : Option Int) (s : State) : (logFault k w i s).wsq = s.wsq := by
  unfold logFault; dsimp only; split <;> simp
@[simp] theorem logFault_ctx (k : FaultKind) (w : Option Nat) (i : Option Int) (s : State) : (logFault k w i s).ctx = s.ctx := by
  unfold logFault; dsimp only; split <;> simp
@[simp] theorem logFault_frg (k : FaultKind) (w : Option Nat) (i : Option Int) (s : State) : (logFault k w i s).frg = s.frg := by
  unfold logFault; dsimp only; split <;> simp
@[simp] theorem logFault_clu (k : FaultKind) (w : Option Nat) (i : Option Int) (s : State) : (logFault k w i s).clu = s.clu := by
  unfold logFault; dsimp only; split <;> simp
@[simp] theorem logFault_tnl (k : FaultKind) (w : Option Nat) (i : Option Int) (s : State) : (logFault k w i s).tnl = s.tnl := by
  unfold logFault; dsimp only; split <;> simp
@[simp] theorem logFault_cap (k : FaultKind) (w : Option Nat) (i : Option Int) (s : State) : (logFault k w i s).cap = s.cap := by
  unfold logFault; dsimp only; split <;> simp
@[simp] theorem logFault_svp (k : FaultKind) (w : Option Nat) (i : Option Int) (s : State) : (logFault k w i s).svp = s.svp := by
  unfold logFault; dsimp only; split <;> simp
@[simp] theorem logFault_freeCount (k : FaultKind) (w : Option Nat) (i : Option Int) (s : State) : (logFault k w i s).freeCount = s.freeCount := by
  unfold logFault; dsimp only; split <;> simp
@[simp] theorem logFault_pending (k : FaultKind) (w : Option Nat) (i : Option Int) (s : State) : (logFault k w i s).pending = s.pending := by
  unfold logFault; dsimp only; split <;> simp

/-- R183: what a fault handed to the log does to the store: it is filed, and nothing else changes. -/
@[simp] theorem logFault_rst (k : FaultKind) (w : Option Nat) (i : Option Int) (s : State) :
    (logFault k w i s).rst =
      { s.rst with log := s.rst.log.file { kind := k, state := s.wsq.seq, weldNumber := w, input := i } } := by
  unfold logFault; dsimp only; split <;> simp

@[simp] theorem lineFault_pins (f : OutFrame) (s : State) : (lineFault f s).pins = s.pins := by simp [lineFault]
@[simp] theorem lineFault_mfe (f : OutFrame) (s : State) : (lineFault f s).mfe = s.mfe := by simp [lineFault]
@[simp] theorem lineFault_wsq (f : OutFrame) (s : State) : (lineFault f s).wsq = s.wsq := by simp [lineFault]
@[simp] theorem lineFault_ctx (f : OutFrame) (s : State) : (lineFault f s).ctx = s.ctx := by simp [lineFault]
@[simp] theorem lineFault_frg (f : OutFrame) (s : State) : (lineFault f s).frg = s.frg := by simp [lineFault]
@[simp] theorem lineFault_clu (f : OutFrame) (s : State) : (lineFault f s).clu = s.clu := by simp [lineFault]
@[simp] theorem lineFault_tnl (f : OutFrame) (s : State) : (lineFault f s).tnl = s.tnl := by simp [lineFault]
@[simp] theorem lineFault_cap (f : OutFrame) (s : State) : (lineFault f s).cap = s.cap := by simp [lineFault]
@[simp] theorem lineFault_svp (f : OutFrame) (s : State) : (lineFault f s).svp = s.svp := by simp [lineFault]
@[simp] theorem lineFault_freeCount (f : OutFrame) (s : State) : (lineFault f s).freeCount = s.freeCount := by simp [lineFault]
@[simp] theorem lineFault_pending (f : OutFrame) (s : State) : (lineFault f s).pending = s.pending := by simp [lineFault]

@[simp] theorem offer_pins (f : OutFrame) (s : State) : (offer f s).pins = s.pins := by
  unfold offer; repeat' split
  all_goals simp
@[simp] theorem offer_mfe (f : OutFrame) (s : State) : (offer f s).mfe = s.mfe := by
  unfold offer; repeat' split
  all_goals simp
@[simp] theorem offer_wsq (f : OutFrame) (s : State) : (offer f s).wsq = s.wsq := by
  unfold offer; repeat' split
  all_goals simp
@[simp] theorem offer_ctx (f : OutFrame) (s : State) : (offer f s).ctx = s.ctx := by
  unfold offer; repeat' split
  all_goals simp
@[simp] theorem offer_frg (f : OutFrame) (s : State) : (offer f s).frg = s.frg := by
  unfold offer; repeat' split
  all_goals simp
@[simp] theorem offer_clu (f : OutFrame) (s : State) : (offer f s).clu = s.clu := by
  unfold offer; repeat' split
  all_goals simp
@[simp] theorem offer_tnl (f : OutFrame) (s : State) : (offer f s).tnl = s.tnl := by
  unfold offer; repeat' split
  all_goals simp
@[simp] theorem offer_cap (f : OutFrame) (s : State) : (offer f s).cap = s.cap := by
  unfold offer; repeat' split
  all_goals simp
@[simp] theorem offer_svp (f : OutFrame) (s : State) : (offer f s).svp = s.svp := by
  unfold offer; repeat' split
  all_goals simp
@[simp] theorem offer_freeCount (f : OutFrame) (s : State) : (offer f s).freeCount = s.freeCount := by
  unfold offer; repeat' split
  all_goals simp
@[simp] theorem offer_pending (f : OutFrame) (s : State) : (offer f s).pending = s.pending := by
  unfold offer; repeat' split
  all_goals simp

/-! ### Claims, faults and states -/

@[simp] theorem claimSent_pins (n : Nat) (s : State) : (claimSent n s).pins = s.pins := by unfold claimSent; split <;> rfl
@[simp] theorem claimSent_mfe (n : Nat) (s : State) : (claimSent n s).mfe = s.mfe := by unfold claimSent; split <;> rfl
@[simp] theorem claimSent_wsq (n : Nat) (s : State) : (claimSent n s).wsq = s.wsq := by unfold claimSent; split <;> rfl
@[simp] theorem claimSent_ctx (n : Nat) (s : State) : (claimSent n s).ctx = s.ctx := by unfold claimSent; split <;> rfl
@[simp] theorem claimSent_frg (n : Nat) (s : State) : (claimSent n s).frg = s.frg := by unfold claimSent; split <;> rfl
@[simp] theorem claimSent_tnl (n : Nat) (s : State) : (claimSent n s).tnl = s.tnl := by unfold claimSent; split <;> rfl
@[simp] theorem claimSent_lnp (n : Nat) (s : State) : (claimSent n s).lnp = s.lnp := by unfold claimSent; split <;> rfl
@[simp] theorem claimSent_cap (n : Nat) (s : State) : (claimSent n s).cap = s.cap := by unfold claimSent; split <;> rfl
@[simp] theorem claimSent_rst (n : Nat) (s : State) : (claimSent n s).rst = s.rst := by unfold claimSent; split <;> rfl
@[simp] theorem claimSent_svp (n : Nat) (s : State) : (claimSent n s).svp = s.svp := by unfold claimSent; split <;> rfl
@[simp] theorem claimSent_freeCount (n : Nat) (s : State) : (claimSent n s).freeCount = s.freeCount := by unfold claimSent; split <;> rfl
@[simp] theorem claimSent_pending (n : Nat) (s : State) : (claimSent n s).pending = s.pending := by unfold claimSent; split <;> rfl

@[simp] theorem sendClaim_pins (s : State) : (sendClaim s).pins = s.pins := by
  unfold sendClaim; dsimp only; split <;> simp
@[simp] theorem sendClaim_mfe (s : State) : (sendClaim s).mfe = s.mfe := by
  unfold sendClaim; dsimp only; split <;> simp
@[simp] theorem sendClaim_wsq (s : State) : (sendClaim s).wsq = s.wsq := by
  unfold sendClaim; dsimp only; split <;> simp
@[simp] theorem sendClaim_ctx (s : State) : (sendClaim s).ctx = s.ctx := by
  unfold sendClaim; dsimp only; split <;> simp
@[simp] theorem sendClaim_frg (s : State) : (sendClaim s).frg = s.frg := by
  unfold sendClaim; dsimp only; split <;> simp
@[simp] theorem sendClaim_tnl (s : State) : (sendClaim s).tnl = s.tnl := by
  unfold sendClaim; dsimp only; split <;> simp
@[simp] theorem sendClaim_cap (s : State) : (sendClaim s).cap = s.cap := by
  unfold sendClaim; dsimp only; split <;> simp
@[simp] theorem sendClaim_svp (s : State) : (sendClaim s).svp = s.svp := by
  unfold sendClaim; dsimp only; split <;> simp
@[simp] theorem sendClaim_freeCount (s : State) : (sendClaim s).freeCount = s.freeCount := by
  unfold sendClaim; dsimp only; split <;> simp
@[simp] theorem sendClaim_pending (s : State) : (sendClaim s).pending = s.pending := by
  unfold sendClaim; dsimp only; split <;> simp

@[simp] theorem setOwnClaim_pins (v : Nat) (s : State) : (setOwnClaim v s).pins = s.pins := by
  unfold setOwnClaim; split <;> simp
@[simp] theorem setOwnClaim_mfe (v : Nat) (s : State) : (setOwnClaim v s).mfe = s.mfe := by
  unfold setOwnClaim; split <;> simp
@[simp] theorem setOwnClaim_wsq (v : Nat) (s : State) : (setOwnClaim v s).wsq = s.wsq := by
  unfold setOwnClaim; split <;> simp
@[simp] theorem setOwnClaim_frg (v : Nat) (s : State) : (setOwnClaim v s).frg = s.frg := by
  unfold setOwnClaim; split <;> simp
@[simp] theorem setOwnClaim_tnl (v : Nat) (s : State) : (setOwnClaim v s).tnl = s.tnl := by
  unfold setOwnClaim; split <;> simp
@[simp] theorem setOwnClaim_rst (v : Nat) (s : State) : (setOwnClaim v s).rst = s.rst := by
  unfold setOwnClaim; split <;> simp
@[simp] theorem setOwnClaim_svp (v : Nat) (s : State) : (setOwnClaim v s).svp = s.svp := by
  unfold setOwnClaim; split <;> simp
@[simp] theorem setOwnClaim_freeCount (v : Nat) (s : State) : (setOwnClaim v s).freeCount = s.freeCount := by
  unfold setOwnClaim; split <;> simp
@[simp] theorem setOwnClaim_pending (v : Nat) (s : State) : (setOwnClaim v s).pending = s.pending := by
  unfold setOwnClaim; split <;> simp

@[simp] theorem setOwnClaim_ownClaim (v : Nat) (s : State) : (setOwnClaim v s).clu.ownClaim = v := by
  unfold setOwnClaim; split
  · assumption
  · simp

@[simp] theorem yieldOwnClaim_pins (s : State) : (yieldOwnClaim s).pins = s.pins := by
  unfold yieldOwnClaim; dsimp only; split <;> simp
@[simp] theorem yieldOwnClaim_mfe (s : State) : (yieldOwnClaim s).mfe = s.mfe := by
  unfold yieldOwnClaim; dsimp only; split <;> simp
@[simp] theorem yieldOwnClaim_wsq (s : State) : (yieldOwnClaim s).wsq = s.wsq := by
  unfold yieldOwnClaim; dsimp only; split <;> simp
@[simp] theorem yieldOwnClaim_frg (s : State) : (yieldOwnClaim s).frg = s.frg := by
  unfold yieldOwnClaim; dsimp only; split <;> simp
@[simp] theorem yieldOwnClaim_tnl (s : State) : (yieldOwnClaim s).tnl = s.tnl := by
  unfold yieldOwnClaim; dsimp only; split <;> simp
@[simp] theorem yieldOwnClaim_svp (s : State) : (yieldOwnClaim s).svp = s.svp := by
  unfold yieldOwnClaim; dsimp only; split <;> simp
@[simp] theorem yieldOwnClaim_freeCount (s : State) : (yieldOwnClaim s).freeCount = s.freeCount := by
  unfold yieldOwnClaim; dsimp only; split <;> simp
@[simp] theorem yieldOwnClaim_pending (s : State) : (yieldOwnClaim s).pending = s.pending := by
  unfold yieldOwnClaim; dsimp only; split <;> simp

@[simp] theorem yieldOwnClaim_step (s : State) : (yieldOwnClaim s).clu.step = .idle := by
  unfold yieldOwnClaim; dsimp only; split <;> simp_all

@[simp] theorem enterFaultAs_pins (p : SeqState) (k : FaultKind) (i : Option Int) (s : State) : (enterFaultAs p k i s).pins = s.pins := by
  unfold enterFaultAs; dsimp only; repeat' split
  all_goals simp
@[simp] theorem enterFaultAs_mfe (p : SeqState) (k : FaultKind) (i : Option Int) (s : State) : (enterFaultAs p k i s).mfe = s.mfe := by
  unfold enterFaultAs; dsimp only; repeat' split
  all_goals simp
@[simp] theorem enterFaultAs_wsq (p : SeqState) (k : FaultKind) (i : Option Int) (s : State) : (enterFaultAs p k i s).wsq = s.wsq := by
  unfold enterFaultAs; dsimp only; repeat' split
  all_goals simp
@[simp] theorem enterFaultAs_frg (p : SeqState) (k : FaultKind) (i : Option Int) (s : State) : (enterFaultAs p k i s).frg = s.frg := by
  unfold enterFaultAs; dsimp only; repeat' split
  all_goals simp
@[simp] theorem enterFaultAs_clu (p : SeqState) (k : FaultKind) (i : Option Int) (s : State) : (enterFaultAs p k i s).clu = s.clu := by
  unfold enterFaultAs; dsimp only; repeat' split
  all_goals simp
@[simp] theorem enterFaultAs_tnl (p : SeqState) (k : FaultKind) (i : Option Int) (s : State) : (enterFaultAs p k i s).tnl = s.tnl := by
  unfold enterFaultAs; dsimp only; repeat' split
  all_goals simp
@[simp] theorem enterFaultAs_svp (p : SeqState) (k : FaultKind) (i : Option Int) (s : State) : (enterFaultAs p k i s).svp = s.svp := by
  unfold enterFaultAs; dsimp only; repeat' split
  all_goals simp
@[simp] theorem enterFaultAs_freeCount (p : SeqState) (k : FaultKind) (i : Option Int) (s : State) : (enterFaultAs p k i s).freeCount = s.freeCount := by
  unfold enterFaultAs; dsimp only; repeat' split
  all_goals simp
@[simp] theorem enterFaultAs_pending (p : SeqState) (k : FaultKind) (i : Option Int) (s : State) : (enterFaultAs p k i s).pending = s.pending := by
  unfold enterFaultAs; dsimp only; repeat' split
  all_goals simp

@[simp] theorem enterFault_pins (k : FaultKind) (i : Option Int) (s : State) : (enterFault k i s).pins = s.pins := by simp [enterFault]
@[simp] theorem enterFault_mfe (k : FaultKind) (i : Option Int) (s : State) : (enterFault k i s).mfe = s.mfe := by simp [enterFault]
@[simp] theorem enterFault_wsq (k : FaultKind) (i : Option Int) (s : State) : (enterFault k i s).wsq = s.wsq := by simp [enterFault]
@[simp] theorem enterFault_frg (k : FaultKind) (i : Option Int) (s : State) : (enterFault k i s).frg = s.frg := by simp [enterFault]
@[simp] theorem enterFault_clu (k : FaultKind) (i : Option Int) (s : State) : (enterFault k i s).clu = s.clu := by simp [enterFault]
@[simp] theorem enterFault_tnl (k : FaultKind) (i : Option Int) (s : State) : (enterFault k i s).tnl = s.tnl := by simp [enterFault]
@[simp] theorem enterFault_svp (k : FaultKind) (i : Option Int) (s : State) : (enterFault k i s).svp = s.svp := by simp [enterFault]
@[simp] theorem enterFault_freeCount (k : FaultKind) (i : Option Int) (s : State) : (enterFault k i s).freeCount = s.freeCount := by simp [enterFault]
@[simp] theorem enterFault_pending (k : FaultKind) (i : Option Int) (s : State) : (enterFault k i s).pending = s.pending := by simp [enterFault]

@[simp] theorem enterState_pins (st : SeqState) (s : State) : (enterState st s).pins = s.pins := by simp [enterState]
@[simp] theorem enterState_frg (st : SeqState) (s : State) : (enterState st s).frg = s.frg := by simp [enterState]
@[simp] theorem enterState_clu (st : SeqState) (s : State) : (enterState st s).clu = s.clu := by simp [enterState]
@[simp] theorem enterState_tnl (st : SeqState) (s : State) : (enterState st s).tnl = s.tnl := by simp [enterState]
@[simp] theorem enterState_rst (st : SeqState) (s : State) : (enterState st s).rst = s.rst := by simp [enterState]
@[simp] theorem enterState_svp (st : SeqState) (s : State) : (enterState st s).svp = s.svp := by simp [enterState]
@[simp] theorem enterState_freeCount (st : SeqState) (s : State) : (enterState st s).freeCount = s.freeCount := by simp [enterState]
@[simp] theorem enterState_pending (st : SeqState) (s : State) : (enterState st s).pending = s.pending := by simp [enterState]

@[simp] theorem enterState_wsq (st : SeqState) (s : State) : (enterState st s).wsq = { s.wsq with seq := st } := by
  simp [enterState]

@[simp] theorem enterState_mfe (st : SeqState) (s : State) :
    (enterState st s).mfe =
      { s.mfe with
        slip := if st.slipChecked then s.mfe.slip else 0
        stall := if st.regulated then s.mfe.stall else [] } := by
  simp [enterState]

@[simp] theorem requestCall_pins (d : Nat) (b : CallBody) (s : State) : (requestCall d b s).pins = s.pins := by
  unfold requestCall; dsimp only; repeat' split
  all_goals simp
@[simp] theorem requestCall_mfe (d : Nat) (b : CallBody) (s : State) : (requestCall d b s).mfe = s.mfe := by
  unfold requestCall; dsimp only; repeat' split
  all_goals simp
@[simp] theorem requestCall_wsq (d : Nat) (b : CallBody) (s : State) : (requestCall d b s).wsq = s.wsq := by
  unfold requestCall; dsimp only; repeat' split
  all_goals simp
@[simp] theorem requestCall_ctx (d : Nat) (b : CallBody) (s : State) : (requestCall d b s).ctx = s.ctx := by
  unfold requestCall; dsimp only; repeat' split
  all_goals simp
@[simp] theorem requestCall_frg (d : Nat) (b : CallBody) (s : State) : (requestCall d b s).frg = s.frg := by
  unfold requestCall; dsimp only; repeat' split
  all_goals simp
@[simp] theorem requestCall_clu (d : Nat) (b : CallBody) (s : State) : (requestCall d b s).clu = s.clu := by
  unfold requestCall; dsimp only; repeat' split
  all_goals simp
@[simp] theorem requestCall_cap (d : Nat) (b : CallBody) (s : State) : (requestCall d b s).cap = s.cap := by
  unfold requestCall; dsimp only; repeat' split
  all_goals simp
@[simp] theorem requestCall_svp (d : Nat) (b : CallBody) (s : State) : (requestCall d b s).svp = s.svp := by
  unfold requestCall; dsimp only; repeat' split
  all_goals simp
@[simp] theorem requestCall_freeCount (d : Nat) (b : CallBody) (s : State) : (requestCall d b s).freeCount = s.freeCount := by
  unfold requestCall; dsimp only; repeat' split
  all_goals simp
@[simp] theorem requestCall_pending (d : Nat) (b : CallBody) (s : State) : (requestCall d b s).pending = s.pending := by
  unfold requestCall; dsimp only; repeat' split
  all_goals simp

@[simp] theorem sendLetGo_pins (s : State) : (sendLetGo s).pins = s.pins := by
  unfold sendLetGo; repeat' split
  all_goals simp
@[simp] theorem sendLetGo_mfe (s : State) : (sendLetGo s).mfe = s.mfe := by
  unfold sendLetGo; repeat' split
  all_goals simp
@[simp] theorem sendLetGo_wsq (s : State) : (sendLetGo s).wsq = s.wsq := by
  unfold sendLetGo; repeat' split
  all_goals simp
@[simp] theorem sendLetGo_ctx (s : State) : (sendLetGo s).ctx = s.ctx := by
  unfold sendLetGo; repeat' split
  all_goals simp
@[simp] theorem sendLetGo_frg (s : State) : (sendLetGo s).frg = s.frg := by
  unfold sendLetGo; repeat' split
  all_goals simp
@[simp] theorem sendLetGo_clu (s : State) : (sendLetGo s).clu = s.clu := by
  unfold sendLetGo; repeat' split
  all_goals simp
@[simp] theorem sendLetGo_cap (s : State) : (sendLetGo s).cap = s.cap := by
  unfold sendLetGo; repeat' split
  all_goals simp
@[simp] theorem sendLetGo_svp (s : State) : (sendLetGo s).svp = s.svp := by
  unfold sendLetGo; repeat' split
  all_goals simp
@[simp] theorem sendLetGo_freeCount (s : State) : (sendLetGo s).freeCount = s.freeCount := by
  unfold sendLetGo; repeat' split
  all_goals simp
@[simp] theorem sendLetGo_pending (s : State) : (sendLetGo s).pending = s.pending := by
  unfold sendLetGo; repeat' split
  all_goals simp

@[simp] theorem stopRegulation_pins (s : State) : (stopRegulation s).pins = s.pins := by
  unfold stopRegulation; dsimp only; split <;> simp
@[simp] theorem stopRegulation_mfe (s : State) : (stopRegulation s).mfe = s.mfe := by
  unfold stopRegulation; dsimp only; split <;> simp
@[simp] theorem stopRegulation_wsq (s : State) : (stopRegulation s).wsq = s.wsq := by
  unfold stopRegulation; dsimp only; split <;> simp
@[simp] theorem stopRegulation_clu (s : State) : (stopRegulation s).clu = s.clu := by
  unfold stopRegulation; dsimp only; split <;> simp
@[simp] theorem stopRegulation_tnl (s : State) : (stopRegulation s).tnl = s.tnl := by
  unfold stopRegulation; dsimp only; split <;> simp
@[simp] theorem stopRegulation_lnp (s : State) : (stopRegulation s).lnp = s.lnp := by
  unfold stopRegulation; dsimp only; split <;> simp
@[simp] theorem stopRegulation_cap (s : State) : (stopRegulation s).cap = s.cap := by
  unfold stopRegulation; dsimp only; split <;> simp
@[simp] theorem stopRegulation_rst (s : State) : (stopRegulation s).rst = s.rst := by
  unfold stopRegulation; dsimp only; split <;> simp
@[simp] theorem stopRegulation_svp (s : State) : (stopRegulation s).svp = s.svp := by
  unfold stopRegulation; dsimp only; split <;> simp
@[simp] theorem stopRegulation_freeCount (s : State) : (stopRegulation s).freeCount = s.freeCount := by
  unfold stopRegulation; dsimp only; split <;> simp
@[simp] theorem stopRegulation_pending (s : State) : (stopRegulation s).pending = s.pending := by
  unfold stopRegulation; dsimp only; split <;> simp

@[simp] theorem stopTensor_pins (s : State) : (stopTensor s).pins = s.pins := by simp [stopTensor]
@[simp] theorem stopTensor_mfe (s : State) : (stopTensor s).mfe = s.mfe := by simp [stopTensor]
@[simp] theorem stopTensor_wsq (s : State) : (stopTensor s).wsq = s.wsq := by simp [stopTensor]
@[simp] theorem stopTensor_ctx (s : State) : (stopTensor s).ctx = s.ctx := by simp [stopTensor]
@[simp] theorem stopTensor_frg (s : State) : (stopTensor s).frg = s.frg := by simp [stopTensor]
@[simp] theorem stopTensor_clu (s : State) : (stopTensor s).clu = s.clu := by simp [stopTensor]
@[simp] theorem stopTensor_lnp (s : State) : (stopTensor s).lnp = s.lnp := by simp [stopTensor]
@[simp] theorem stopTensor_cap (s : State) : (stopTensor s).cap = s.cap := by simp [stopTensor]
@[simp] theorem stopTensor_rst (s : State) : (stopTensor s).rst = s.rst := by simp [stopTensor]
@[simp] theorem stopTensor_svp (s : State) : (stopTensor s).svp = s.svp := by simp [stopTensor]
@[simp] theorem stopTensor_freeCount (s : State) : (stopTensor s).freeCount = s.freeCount := by simp [stopTensor]
@[simp] theorem stopTensor_pending (s : State) : (stopTensor s).pending = s.pending := by simp [stopTensor]

@[simp] theorem makeSafe_pins (s : State) : (makeSafe s).pins = s.pins := by
  unfold makeSafe; dsimp only; split <;> simp
@[simp] theorem makeSafe_frg (s : State) : (makeSafe s).frg = s.frg := by
  unfold makeSafe; dsimp only; split <;> simp
@[simp] theorem makeSafe_svp (s : State) : (makeSafe s).svp = s.svp := by
  unfold makeSafe; dsimp only; split <;> simp
@[simp] theorem makeSafe_freeCount (s : State) : (makeSafe s).freeCount = s.freeCount := by
  unfold makeSafe; dsimp only; split <;> simp
@[simp] theorem makeSafe_pending (s : State) : (makeSafe s).pending = s.pending := by
  unfold makeSafe; dsimp only; split <;> simp

@[simp] theorem makeSafe_seq (s : State) : (makeSafe s).wsq.seq = s.wsq.seq := by
  unfold makeSafe; dsimp only; split <;> simp

@[simp] theorem makeSafe_set (s : State) :
    (makeSafe s).mfe.set = { current := 0, velocity := 0, force := 0, clamp := .opn } := by
  unfold makeSafe; dsimp only; split <;> simp

/-! ### The abort path -/

@[simp] theorem abortWeld_pins (k : FaultKind) (i : Option Int) (s : State) : (abortWeld k i s).pins = s.pins := by simp [abortWeld]
@[simp] theorem abortWeld_svp (k : FaultKind) (i : Option Int) (s : State) : (abortWeld k i s).svp = s.svp := by simp [abortWeld]
@[simp] theorem abortWeld_freeCount (k : FaultKind) (i : Option Int) (s : State) : (abortWeld k i s).freeCount = s.freeCount := by simp [abortWeld]
@[simp] theorem abortWeld_pending (k : FaultKind) (i : Option Int) (s : State) : (abortWeld k i s).pending = s.pending := by simp [abortWeld]

/-- R66, R68: after an abort the sequencer is in STOPPING. -/
@[simp] theorem abortWeld_seq (k : FaultKind) (i : Option Int) (s : State) : (abortWeld k i s).wsq.seq = .stopping := by
  simp [abortWeld]

/-- R68: after an abort the outputs are set to 0 and OPEN. -/
@[simp] theorem abortWeld_set (k : FaultKind) (i : Option Int) (s : State) :
    (abortWeld k i s).mfe.set = { current := 0, velocity := 0, force := 0, clamp := .opn } := by
  simp [abortWeld]

@[simp] theorem takeFault_pins (k : FaultKind) (i : Option Int) (s : State) : (takeFault k i s).pins = s.pins := by
  unfold takeFault; repeat' split
  all_goals simp
@[simp] theorem takeFault_svp (k : FaultKind) (i : Option Int) (s : State) : (takeFault k i s).svp = s.svp := by
  unfold takeFault; repeat' split
  all_goals simp
@[simp] theorem takeFault_freeCount (k : FaultKind) (i : Option Int) (s : State) : (takeFault k i s).freeCount = s.freeCount := by
  unfold takeFault; repeat' split
  all_goals simp
@[simp] theorem takeFault_pending (k : FaultKind) (i : Option Int) (s : State) : (takeFault k i s).pending = s.pending := by
  unfold takeFault; repeat' split
  all_goals simp

@[simp] theorem enterLate_pins (k : FaultKind) (i : Option Int) (s : State) : (enterLate k i s).pins = s.pins := by
  unfold enterLate; simp
@[simp] theorem enterLate_svp (k : FaultKind) (i : Option Int) (s : State) : (enterLate k i s).svp = s.svp := by
  unfold enterLate; simp
@[simp] theorem enterLate_freeCount (k : FaultKind) (i : Option Int) (s : State) : (enterLate k i s).freeCount = s.freeCount := by
  unfold enterLate; simp
@[simp] theorem enterLate_pending (k : FaultKind) (i : Option Int) (s : State) : (enterLate k i s).pending = s.pending := by
  unfold enterLate; simp

@[simp] theorem stopWeld_pins (k : FaultKind) (s : State) : (stopWeld k s).pins = s.pins := by
  unfold stopWeld; repeat' split
  all_goals simp
@[simp] theorem stopWeld_svp (k : FaultKind) (s : State) : (stopWeld k s).svp = s.svp := by
  unfold stopWeld; repeat' split
  all_goals simp
@[simp] theorem stopWeld_freeCount (k : FaultKind) (s : State) : (stopWeld k s).freeCount = s.freeCount := by
  unfold stopWeld; repeat' split
  all_goals simp
@[simp] theorem stopWeld_pending (k : FaultKind) (s : State) : (stopWeld k s).pending = s.pending := by
  unfold stopWeld; repeat' split
  all_goals simp

@[simp] theorem takeStationFault_pins (k : FaultKind) (i : Option Int) (s : State) : (takeStationFault k i s).pins = s.pins := by
  unfold takeStationFault; repeat' split
  all_goals simp
@[simp] theorem takeStationFault_svp (k : FaultKind) (i : Option Int) (s : State) : (takeStationFault k i s).svp = s.svp := by
  unfold takeStationFault; repeat' split
  all_goals simp
@[simp] theorem takeStationFault_freeCount (k : FaultKind) (i : Option Int) (s : State) : (takeStationFault k i s).freeCount = s.freeCount := by
  unfold takeStationFault; repeat' split
  all_goals simp
@[simp] theorem takeStationFault_pending (k : FaultKind) (i : Option Int) (s : State) : (takeStationFault k i s).pending = s.pending := by
  unfold takeStationFault; repeat' split
  all_goals simp

/-! ### A CLEAR's own change -/

@[simp] theorem clearHaltLatch_pins (s : State) : (clearHaltLatch s).pins = s.pins := rfl
@[simp] theorem clearHaltLatch_mfe (s : State) : (clearHaltLatch s).mfe = s.mfe := rfl
@[simp] theorem clearHaltLatch_wsq (s : State) : (clearHaltLatch s).wsq = { s.wsq with haltLatch := false } := rfl
@[simp] theorem clearHaltLatch_ctx (s : State) : (clearHaltLatch s).ctx = s.ctx := rfl
@[simp] theorem clearHaltLatch_frg (s : State) : (clearHaltLatch s).frg = s.frg := rfl
@[simp] theorem clearHaltLatch_clu (s : State) : (clearHaltLatch s).clu = s.clu := rfl
@[simp] theorem clearHaltLatch_tnl (s : State) : (clearHaltLatch s).tnl = s.tnl := rfl
@[simp] theorem clearHaltLatch_lnp (s : State) : (clearHaltLatch s).lnp = s.lnp := rfl
@[simp] theorem clearHaltLatch_cap (s : State) : (clearHaltLatch s).cap = s.cap := rfl
@[simp] theorem clearHaltLatch_rst (s : State) : (clearHaltLatch s).rst = s.rst := rfl
@[simp] theorem clearHaltLatch_svp (s : State) : (clearHaltLatch s).svp = s.svp := rfl
@[simp] theorem clearHaltLatch_freeCount (s : State) : (clearHaltLatch s).freeCount = s.freeCount := rfl
@[simp] theorem clearHaltLatch_pending (s : State) : (clearHaltLatch s).pending = s.pending := rfl

end Sys2Proof.Machine
end

