-- ==== Sys2Proof/Laws/Outer.lean ====
section
/-! SUPPORT. No shared operation of a weld, of the claim, of the tensor or of the peer view touches the wires, the service
port, the queue of commands or the count of free values. -/
namespace Sys2Proof.Machine

set_option Elab.async false

@[simp] theorem claimAmount_pins (a : Nat) (s : State) : (claimAmount a s).pins = s.pins := by simp [claimAmount]
@[simp] theorem claimAmount_svp (a : Nat) (s : State) : (claimAmount a s).svp = s.svp := by simp [claimAmount]
@[simp] theorem claimAmount_freeCount (a : Nat) (s : State) : (claimAmount a s).freeCount = s.freeCount := by simp [claimAmount]
@[simp] theorem claimAmount_pending (a : Nat) (s : State) : (claimAmount a s).pending = s.pending := by simp [claimAmount]

@[simp] theorem decideClaim_pins (s : State) : (decideClaim s).pins = s.pins := by
  unfold decideClaim; try dsimp only
  repeat' split
  all_goals simp
@[simp] theorem decideClaim_svp (s : State) : (decideClaim s).svp = s.svp := by
  unfold decideClaim; try dsimp only
  repeat' split
  all_goals simp
@[simp] theorem decideClaim_freeCount (s : State) : (decideClaim s).freeCount = s.freeCount := by
  unfold decideClaim; try dsimp only
  repeat' split
  all_goals simp
@[simp] theorem decideClaim_pending (s : State) : (decideClaim s).pending = s.pending := by
  unfold decideClaim; try dsimp only
  repeat' split
  all_goals simp

@[simp] theorem redecideClaim_pins (s : State) : (redecideClaim s).pins = s.pins := by
  unfold redecideClaim; try dsimp only
  repeat' split
  all_goals simp
@[simp] theorem redecideClaim_svp (s : State) : (redecideClaim s).svp = s.svp := by
  unfold redecideClaim; try dsimp only
  repeat' split
  all_goals simp
@[simp] theorem redecideClaim_freeCount (s : State) : (redecideClaim s).freeCount = s.freeCount := by
  unfold redecideClaim; try dsimp only
  repeat' split
  all_goals simp
@[simp] theorem redecideClaim_pending (s : State) : (redecideClaim s).pending = s.pending := by
  unfold redecideClaim; try dsimp only
  repeat' split
  all_goals simp

@[simp] theorem yieldToLower_pins (s : State) : (yieldToLower s).pins = s.pins := by simp [yieldToLower]
@[simp] theorem yieldToLower_svp (s : State) : (yieldToLower s).svp = s.svp := by simp [yieldToLower]
@[simp] theorem yieldToLower_freeCount (s : State) : (yieldToLower s).freeCount = s.freeCount := by simp [yieldToLower]
@[simp] theorem yieldToLower_pending (s : State) : (yieldToLower s).pending = s.pending := by simp [yieldToLower]

@[simp] theorem shrinkClaim_pins (a : Nat) (s : State) : (shrinkClaim a s).pins = s.pins := by simp [shrinkClaim]
@[simp] theorem shrinkClaim_svp (a : Nat) (s : State) : (shrinkClaim a s).svp = s.svp := by simp [shrinkClaim]
@[simp] theorem shrinkClaim_freeCount (a : Nat) (s : State) : (shrinkClaim a s).freeCount = s.freeCount := by simp [shrinkClaim]
@[simp] theorem shrinkClaim_pending (a : Nat) (s : State) : (shrinkClaim a s).pending = s.pending := by simp [shrinkClaim]

@[simp] theorem losePower_pins (i : Option Int) (s : State) : (losePower i s).pins = s.pins := by simp [losePower]
@[simp] theorem losePower_svp (i : Option Int) (s : State) : (losePower i s).svp = s.svp := by simp [losePower]
@[simp] theorem losePower_freeCount (i : Option Int) (s : State) : (losePower i s).freeCount = s.freeCount := by simp [losePower]
@[simp] theorem losePower_pending (i : Option Int) (s : State) : (losePower i s).pending = s.pending := by simp [losePower]

@[simp] theorem shortfall_pins (s : State) : (shortfall s).pins = s.pins := by
  unfold shortfall; try dsimp only
  repeat' split
  all_goals simp
@[simp] theorem shortfall_svp (s : State) : (shortfall s).svp = s.svp := by
  unfold shortfall; try dsimp only
  repeat' split
  all_goals simp
@[simp] theorem shortfall_freeCount (s : State) : (shortfall s).freeCount = s.freeCount := by
  unfold shortfall; try dsimp only
  repeat' split
  all_goals simp
@[simp] theorem shortfall_pending (s : State) : (shortfall s).pending = s.pending := by
  unfold shortfall; try dsimp only
  repeat' split
  all_goals simp

@[simp] theorem checkSpare_pins (s : State) : (checkSpare s).pins = s.pins := by
  unfold checkSpare; try dsimp only
  repeat' split
  all_goals simp
@[simp] theorem checkSpare_svp (s : State) : (checkSpare s).svp = s.svp := by
  unfold checkSpare; try dsimp only
  repeat' split
  all_goals simp
@[simp] theorem checkSpare_freeCount (s : State) : (checkSpare s).freeCount = s.freeCount := by
  unfold checkSpare; try dsimp only
  repeat' split
  all_goals simp
@[simp] theorem checkSpare_pending (s : State) : (checkSpare s).pending = s.pending := by
  unfold checkSpare; try dsimp only
  repeat' split
  all_goals simp

@[simp] theorem endShed_pins (s : State) : (endShed s).pins = s.pins := rfl
@[simp] theorem endShed_svp (s : State) : (endShed s).svp = s.svp := rfl
@[simp] theorem endShed_freeCount (s : State) : (endShed s).freeCount = s.freeCount := rfl
@[simp] theorem endShed_pending (s : State) : (endShed s).pending = s.pending := rfl

@[simp] theorem checkShed_pins (s : State) : (checkShed s).pins = s.pins := by
  unfold checkShed; try dsimp only
  repeat' split
  all_goals simp
@[simp] theorem checkShed_svp (s : State) : (checkShed s).svp = s.svp := by
  unfold checkShed; try dsimp only
  repeat' split
  all_goals simp
@[simp] theorem checkShed_freeCount (s : State) : (checkShed s).freeCount = s.freeCount := by
  unfold checkShed; try dsimp only
  repeat' split
  all_goals simp
@[simp] theorem checkShed_pending (s : State) : (checkShed s).pending = s.pending := by
  unfold checkShed; try dsimp only
  repeat' split
  all_goals simp

@[simp] theorem settleNotice_pins (n : Nat) (r f : Bool) (s : State) : (settleNotice n r f s).pins = s.pins := by
  unfold settleNotice; try dsimp only
  repeat' split
  all_goals simp
@[simp] theorem settleNotice_svp (n : Nat) (r f : Bool) (s : State) : (settleNotice n r f s).svp = s.svp := by
  unfold settleNotice; try dsimp only
  repeat' split
  all_goals simp
@[simp] theorem settleNotice_freeCount (n : Nat) (r f : Bool) (s : State) : (settleNotice n r f s).freeCount = s.freeCount := by
  unfold settleNotice; try dsimp only
  repeat' split
  all_goals simp
@[simp] theorem settleNotice_pending (n : Nat) (r f : Bool) (s : State) : (settleNotice n r f s).pending = s.pending := by
  unfold settleNotice; try dsimp only
  repeat' split
  all_goals simp

@[simp] theorem cluNotice_pins (b : State) (n : Nat) (s : State) : (cluNotice b n s).pins = s.pins := by
  unfold cluNotice; try dsimp only
  repeat' split
  all_goals simp
@[simp] theorem cluNotice_svp (b : State) (n : Nat) (s : State) : (cluNotice b n s).svp = s.svp := by
  unfold cluNotice; try dsimp only
  repeat' split
  all_goals simp
@[simp] theorem cluNotice_freeCount (b : State) (n : Nat) (s : State) : (cluNotice b n s).freeCount = s.freeCount := by
  unfold cluNotice; try dsimp only
  repeat' split
  all_goals simp
@[simp] theorem cluNotice_pending (b : State) (n : Nat) (s : State) : (cluNotice b n s).pending = s.pending := by
  unfold cluNotice; try dsimp only
  repeat' split
  all_goals simp

@[simp] theorem tellRoom_pins (s : State) : (tellRoom s).pins = s.pins := by
  unfold tellRoom; try dsimp only
  repeat' split
  all_goals simp
@[simp] theorem tellRoom_svp (s : State) : (tellRoom s).svp = s.svp := by
  unfold tellRoom; try dsimp only
  repeat' split
  all_goals simp
@[simp] theorem tellRoom_freeCount (s : State) : (tellRoom s).freeCount = s.freeCount := by
  unfold tellRoom; try dsimp only
  repeat' split
  all_goals simp
@[simp] theorem tellRoom_pending (s : State) : (tellRoom s).pending = s.pending := by
  unfold tellRoom; try dsimp only
  repeat' split
  all_goals simp

@[simp] theorem claimDiscarded_pins (n : Nat) (s : State) : (claimDiscarded n s).pins = s.pins := by
  unfold claimDiscarded; try dsimp only
  repeat' split
  all_goals simp
@[simp] theorem claimDiscarded_svp (n : Nat) (s : State) : (claimDiscarded n s).svp = s.svp := by
  unfold claimDiscarded; try dsimp only
  repeat' split
  all_goals simp
@[simp] theorem claimDiscarded_freeCount (n : Nat) (s : State) : (claimDiscarded n s).freeCount = s.freeCount := by
  unfold claimDiscarded; try dsimp only
  repeat' split
  all_goals simp
@[simp] theorem claimDiscarded_pending (n : Nat) (s : State) : (claimDiscarded n s).pending = s.pending := by
  unfold claimDiscarded; try dsimp only
  repeat' split
  all_goals simp

@[simp] theorem cluCleared_pins (s : State) : (cluCleared s).pins = s.pins := by
  unfold cluCleared; try dsimp only
  repeat' split
  all_goals simp
@[simp] theorem cluCleared_svp (s : State) : (cluCleared s).svp = s.svp := by
  unfold cluCleared; try dsimp only
  repeat' split
  all_goals simp
@[simp] theorem cluCleared_freeCount (s : State) : (cluCleared s).freeCount = s.freeCount := by
  unfold cluCleared; try dsimp only
  repeat' split
  all_goals simp
@[simp] theorem cluCleared_pending (s : State) : (cluCleared s).pending = s.pending := by
  unfold cluCleared; try dsimp only
  repeat' split
  all_goals simp

@[simp] theorem beginApproach_pins (s : State) : (beginApproach s).pins = s.pins := by simp [beginApproach]
@[simp] theorem beginApproach_svp (s : State) : (beginApproach s).svp = s.svp := by simp [beginApproach]
@[simp] theorem beginApproach_freeCount (s : State) : (beginApproach s).freeCount = s.freeCount := by simp [beginApproach]
@[simp] theorem beginApproach_pending (s : State) : (beginApproach s).pending = s.pending := by simp [beginApproach]

@[simp] theorem enterPreheat_pins (s : State) : (enterPreheat s).pins = s.pins := by simp [enterPreheat]
@[simp] theorem enterPreheat_svp (s : State) : (enterPreheat s).svp = s.svp := by simp [enterPreheat]
@[simp] theorem enterPreheat_freeCount (s : State) : (enterPreheat s).freeCount = s.freeCount := by simp [enterPreheat]
@[simp] theorem enterPreheat_pending (s : State) : (enterPreheat s).pending = s.pending := by simp [enterPreheat]

@[simp] theorem beginContact_pins (s : State) : (beginContact s).pins = s.pins := by simp [beginContact]
@[simp] theorem beginContact_svp (s : State) : (beginContact s).svp = s.svp := by simp [beginContact]
@[simp] theorem beginContact_freeCount (s : State) : (beginContact s).freeCount = s.freeCount := by simp [beginContact]
@[simp] theorem beginContact_pending (s : State) : (beginContact s).pending = s.pending := by simp [beginContact]

@[simp] theorem endContact_pins (s : State) : (endContact s).pins = s.pins := by simp [endContact]
@[simp] theorem endContact_svp (s : State) : (endContact s).svp = s.svp := by simp [endContact]
@[simp] theorem endContact_freeCount (s : State) : (endContact s).freeCount = s.freeCount := by simp [endContact]
@[simp] theorem endContact_pending (s : State) : (endContact s).pending = s.pending := by simp [endContact]

@[simp] theorem retreat_pins (s : State) : (retreat s).pins = s.pins := by
  unfold retreat; try dsimp only
  repeat' split
  all_goals simp
@[simp] theorem retreat_svp (s : State) : (retreat s).svp = s.svp := by
  unfold retreat; try dsimp only
  repeat' split
  all_goals simp
@[simp] theorem retreat_freeCount (s : State) : (retreat s).freeCount = s.freeCount := by
  unfold retreat; try dsimp only
  repeat' split
  all_goals simp
@[simp] theorem retreat_pending (s : State) : (retreat s).pending = s.pending := by
  unfold retreat; try dsimp only
  repeat' split
  all_goals simp

@[simp] theorem writePreheatBurn_pins (s : State) : (writePreheatBurn s).pins = s.pins := rfl
@[simp] theorem writePreheatBurn_svp (s : State) : (writePreheatBurn s).svp = s.svp := rfl
@[simp] theorem writePreheatBurn_freeCount (s : State) : (writePreheatBurn s).freeCount = s.freeCount := rfl
@[simp] theorem writePreheatBurn_pending (s : State) : (writePreheatBurn s).pending = s.pending := rfl

@[simp] theorem enterFlash_pins (s : State) : (enterFlash s).pins = s.pins := by simp [enterFlash]
@[simp] theorem enterFlash_svp (s : State) : (enterFlash s).svp = s.svp := by simp [enterFlash]
@[simp] theorem enterFlash_freeCount (s : State) : (enterFlash s).freeCount = s.freeCount := by simp [enterFlash]
@[simp] theorem enterFlash_pending (s : State) : (enterFlash s).pending = s.pending := by simp [enterFlash]

@[simp] theorem enterBoost_pins (s : State) : (enterBoost s).pins = s.pins := by simp [enterBoost]
@[simp] theorem enterBoost_svp (s : State) : (enterBoost s).svp = s.svp := by simp [enterBoost]
@[simp] theorem enterBoost_freeCount (s : State) : (enterBoost s).freeCount = s.freeCount := by simp [enterBoost]
@[simp] theorem enterBoost_pending (s : State) : (enterBoost s).pending = s.pending := by simp [enterBoost]

@[simp] theorem backoffSample_pins (x : Backoff) (s : State) : (backoffSample x s).pins = s.pins := by
  unfold backoffSample; try dsimp only
  repeat' split
  all_goals simp
@[simp] theorem backoffSample_svp (x : Backoff) (s : State) : (backoffSample x s).svp = s.svp := by
  unfold backoffSample; try dsimp only
  repeat' split
  all_goals simp
@[simp] theorem backoffSample_freeCount (x : Backoff) (s : State) : (backoffSample x s).freeCount = s.freeCount := by
  unfold backoffSample; try dsimp only
  repeat' split
  all_goals simp
@[simp] theorem backoffSample_pending (x : Backoff) (s : State) : (backoffSample x s).pending = s.pending := by
  unfold backoffSample; try dsimp only
  repeat' split
  all_goals simp

@[simp] theorem requestGate_pins (w : Watch) (s : State) : (requestGate w s).pins = s.pins := rfl
@[simp] theorem requestGate_svp (w : Watch) (s : State) : (requestGate w s).svp = s.svp := rfl
@[simp] theorem requestGate_freeCount (w : Watch) (s : State) : (requestGate w s).freeCount = s.freeCount := rfl
@[simp] theorem requestGate_pending (w : Watch) (s : State) : (requestGate w s).pending = s.pending := rfl

@[simp] theorem endWatch_pins (s : State) : (endWatch s).pins = s.pins := rfl
@[simp] theorem endWatch_svp (s : State) : (endWatch s).svp = s.svp := rfl
@[simp] theorem endWatch_freeCount (s : State) : (endWatch s).freeCount = s.freeCount := rfl
@[simp] theorem endWatch_pending (s : State) : (endWatch s).pending = s.pending := rfl

@[simp] theorem holdBroken_pins (s : State) : (holdBroken s).pins = s.pins := by
  unfold holdBroken; try dsimp only
  repeat' split
  all_goals simp
@[simp] theorem holdBroken_svp (s : State) : (holdBroken s).svp = s.svp := by
  unfold holdBroken; try dsimp only
  repeat' split
  all_goals simp
@[simp] theorem holdBroken_freeCount (s : State) : (holdBroken s).freeCount = s.freeCount := by
  unfold holdBroken; try dsimp only
  repeat' split
  all_goals simp
@[simp] theorem holdBroken_pending (s : State) : (holdBroken s).pending = s.pending := by
  unfold holdBroken; try dsimp only
  repeat' split
  all_goals simp

@[simp] theorem requestHeatGate_pins (s : State) : (requestHeatGate s).pins = s.pins := by
  unfold requestHeatGate; try dsimp only
  repeat' split
  all_goals simp
@[simp] theorem requestHeatGate_svp (s : State) : (requestHeatGate s).svp = s.svp := by
  unfold requestHeatGate; try dsimp only
  repeat' split
  all_goals simp
@[simp] theorem requestHeatGate_freeCount (s : State) : (requestHeatGate s).freeCount = s.freeCount := by
  unfold requestHeatGate; try dsimp only
  repeat' split
  all_goals simp
@[simp] theorem requestHeatGate_pending (s : State) : (requestHeatGate s).pending = s.pending := by
  unfold requestHeatGate; try dsimp only
  repeat' split
  all_goals simp

@[simp] theorem enterPower_pins (s : State) : (enterPower s).pins = s.pins := by simp [enterPower]
@[simp] theorem enterPower_svp (s : State) : (enterPower s).svp = s.svp := by simp [enterPower]
@[simp] theorem enterPower_freeCount (s : State) : (enterPower s).freeCount = s.freeCount := by simp [enterPower]
@[simp] theorem enterPower_pending (s : State) : (enterPower s).pending = s.pending := by simp [enterPower]

@[simp] theorem leavePower_pins (s : State) : (leavePower s).pins = s.pins := by
  unfold leavePower; try dsimp only
  repeat' split
  all_goals simp
@[simp] theorem leavePower_svp (s : State) : (leavePower s).svp = s.svp := by
  unfold leavePower; try dsimp only
  repeat' split
  all_goals simp
@[simp] theorem leavePower_freeCount (s : State) : (leavePower s).freeCount = s.freeCount := by
  unfold leavePower; try dsimp only
  repeat' split
  all_goals simp
@[simp] theorem leavePower_pending (s : State) : (leavePower s).pending = s.pending := by
  unfold leavePower; try dsimp only
  repeat' split
  all_goals simp

@[simp] theorem grantClaim_pins (s : State) : (grantClaim s).pins = s.pins := by
  unfold grantClaim; try dsimp only
  repeat' split
  all_goals simp
@[simp] theorem grantClaim_svp (s : State) : (grantClaim s).svp = s.svp := by
  unfold grantClaim; try dsimp only
  repeat' split
  all_goals simp
@[simp] theorem grantClaim_freeCount (s : State) : (grantClaim s).freeCount = s.freeCount := by
  unfold grantClaim; try dsimp only
  repeat' split
  all_goals simp
@[simp] theorem grantClaim_pending (s : State) : (grantClaim s).pending = s.pending := by
  unfold grantClaim; try dsimp only
  repeat' split
  all_goals simp

@[simp] theorem sendClosure_pins (s : State) : (sendClosure s).pins = s.pins := by
  unfold sendClosure; try dsimp only
  repeat' split
  all_goals simp
@[simp] theorem sendClosure_svp (s : State) : (sendClosure s).svp = s.svp := by
  unfold sendClosure; try dsimp only
  repeat' split
  all_goals simp
@[simp] theorem sendClosure_freeCount (s : State) : (sendClosure s).freeCount = s.freeCount := by
  unfold sendClosure; try dsimp only
  repeat' split
  all_goals simp
@[simp] theorem sendClosure_pending (s : State) : (sendClosure s).pending = s.pending := by
  unfold sendClosure; try dsimp only
  repeat' split
  all_goals simp

@[simp] theorem enterClose_pins (s : State) : (enterClose s).pins = s.pins := by
  unfold enterClose; try dsimp only
  repeat' split
  all_goals simp
@[simp] theorem enterClose_svp (s : State) : (enterClose s).svp = s.svp := by
  unfold enterClose; try dsimp only
  repeat' split
  all_goals simp
@[simp] theorem enterClose_freeCount (s : State) : (enterClose s).freeCount = s.freeCount := by
  unfold enterClose; try dsimp only
  repeat' split
  all_goals simp
@[simp] theorem enterClose_pending (s : State) : (enterClose s).pending = s.pending := by
  unfold enterClose; try dsimp only
  repeat' split
  all_goals simp

@[simp] theorem closureTaken_pins (s : State) : (closureTaken s).pins = s.pins := by
  unfold closureTaken; try dsimp only
  repeat' split
  all_goals simp
@[simp] theorem closureTaken_svp (s : State) : (closureTaken s).svp = s.svp := by
  unfold closureTaken; try dsimp only
  repeat' split
  all_goals simp
@[simp] theorem closureTaken_freeCount (s : State) : (closureTaken s).freeCount = s.freeCount := by
  unfold closureTaken; try dsimp only
  repeat' split
  all_goals simp
@[simp] theorem closureTaken_pending (s : State) : (closureTaken s).pending = s.pending := by
  unfold closureTaken; try dsimp only
  repeat' split
  all_goals simp

@[simp] theorem closureFreed_pins (r : CallResult) (s : State) : (closureFreed r s).pins = s.pins := by
  unfold closureFreed; try dsimp only
  repeat' split
  all_goals simp
@[simp] theorem closureFreed_svp (r : CallResult) (s : State) : (closureFreed r s).svp = s.svp := by
  unfold closureFreed; try dsimp only
  repeat' split
  all_goals simp
@[simp] theorem closureFreed_freeCount (r : CallResult) (s : State) : (closureFreed r s).freeCount = s.freeCount := by
  unfold closureFreed; try dsimp only
  repeat' split
  all_goals simp
@[simp] theorem closureFreed_pending (r : CallResult) (s : State) : (closureFreed r s).pending = s.pending := by
  unfold closureFreed; try dsimp only
  repeat' split
  all_goals simp

@[simp] theorem owedFreed_pins (o : Owed) (r : CallResult) (s : State) : (owedFreed o r s).pins = s.pins := by
  unfold owedFreed; try dsimp only
  repeat' split
  all_goals simp
@[simp] theorem owedFreed_svp (o : Owed) (r : CallResult) (s : State) : (owedFreed o r s).svp = s.svp := by
  unfold owedFreed; try dsimp only
  repeat' split
  all_goals simp
@[simp] theorem owedFreed_freeCount (o : Owed) (r : CallResult) (s : State) : (owedFreed o r s).freeCount = s.freeCount := by
  unfold owedFreed; try dsimp only
  repeat' split
  all_goals simp
@[simp] theorem owedFreed_pending (o : Owed) (r : CallResult) (s : State) : (owedFreed o r s).pending = s.pending := by
  unfold owedFreed; try dsimp only
  repeat' split
  all_goals simp

@[simp] theorem tensorFreed_pins (c : TensorCall) (r : CallResult) (s : State) : (tensorFreed c r s).pins = s.pins := by
  unfold tensorFreed; try dsimp only
  repeat' split
  all_goals simp
@[simp] theorem tensorFreed_svp (c : TensorCall) (r : CallResult) (s : State) : (tensorFreed c r s).svp = s.svp := by
  unfold tensorFreed; try dsimp only
  repeat' split
  all_goals simp
@[simp] theorem tensorFreed_freeCount (c : TensorCall) (r : CallResult) (s : State) : (tensorFreed c r s).freeCount = s.freeCount := by
  unfold tensorFreed; try dsimp only
  repeat' split
  all_goals simp
@[simp] theorem tensorFreed_pending (c : TensorCall) (r : CallResult) (s : State) : (tensorFreed c r s).pending = s.pending := by
  unfold tensorFreed; try dsimp only
  repeat' split
  all_goals simp

@[simp] theorem dropRecord_pins (d : Nat) (s : State) : (dropRecord d s).pins = s.pins := by
  unfold dropRecord; try dsimp only
  repeat' split
  all_goals simp
@[simp] theorem dropRecord_svp (d : Nat) (s : State) : (dropRecord d s).svp = s.svp := by
  unfold dropRecord; try dsimp only
  repeat' split
  all_goals simp
@[simp] theorem dropRecord_freeCount (d : Nat) (s : State) : (dropRecord d s).freeCount = s.freeCount := by
  unfold dropRecord; try dsimp only
  repeat' split
  all_goals simp
@[simp] theorem dropRecord_pending (d : Nat) (s : State) : (dropRecord d s).pending = s.pending := by
  unfold dropRecord; try dsimp only
  repeat' split
  all_goals simp

@[simp] theorem callFreed_pins (d : Nat) (r : CallResult) (s : State) : (callFreed d r s).pins = s.pins := by
  unfold callFreed; try dsimp only
  repeat' split
  all_goals simp
@[simp] theorem callFreed_svp (d : Nat) (r : CallResult) (s : State) : (callFreed d r s).svp = s.svp := by
  unfold callFreed; try dsimp only
  repeat' split
  all_goals simp
@[simp] theorem callFreed_freeCount (d : Nat) (r : CallResult) (s : State) : (callFreed d r s).freeCount = s.freeCount := by
  unfold callFreed; try dsimp only
  repeat' split
  all_goals simp
@[simp] theorem callFreed_pending (d : Nat) (r : CallResult) (s : State) : (callFreed d r s).pending = s.pending := by
  unfold callFreed; try dsimp only
  repeat' split
  all_goals simp

@[simp] theorem enterUnclamp_pins (s : State) : (enterUnclamp s).pins = s.pins := by simp [enterUnclamp]
@[simp] theorem enterUnclamp_svp (s : State) : (enterUnclamp s).svp = s.svp := by simp [enterUnclamp]
@[simp] theorem enterUnclamp_freeCount (s : State) : (enterUnclamp s).freeCount = s.freeCount := by simp [enterUnclamp]
@[simp] theorem enterUnclamp_pending (s : State) : (enterUnclamp s).pending = s.pending := by simp [enterUnclamp]

@[simp] theorem enterLetGo_pins (s : State) : (enterLetGo s).pins = s.pins := by
  unfold enterLetGo; try dsimp only
  repeat' split
  all_goals simp
@[simp] theorem enterLetGo_svp (s : State) : (enterLetGo s).svp = s.svp := by
  unfold enterLetGo; try dsimp only
  repeat' split
  all_goals simp
@[simp] theorem enterLetGo_freeCount (s : State) : (enterLetGo s).freeCount = s.freeCount := by
  unfold enterLetGo; try dsimp only
  repeat' split
  all_goals simp
@[simp] theorem enterLetGo_pending (s : State) : (enterLetGo s).pending = s.pending := by
  unfold enterLetGo; try dsimp only
  repeat' split
  all_goals simp

@[simp] theorem enterHold_pins (s : State) : (enterHold s).pins = s.pins := by
  unfold enterHold; try dsimp only
  repeat' split
  all_goals simp
@[simp] theorem enterHold_svp (s : State) : (enterHold s).svp = s.svp := by
  unfold enterHold; try dsimp only
  repeat' split
  all_goals simp
@[simp] theorem enterHold_freeCount (s : State) : (enterHold s).freeCount = s.freeCount := by
  unfold enterHold; try dsimp only
  repeat' split
  all_goals simp
@[simp] theorem enterHold_pending (s : State) : (enterHold s).pending = s.pending := by
  unfold enterHold; try dsimp only
  repeat' split
  all_goals simp

@[simp] theorem endHold_pins (s : State) : (endHold s).pins = s.pins := by
  unfold endHold; try dsimp only
  repeat' split
  all_goals simp
@[simp] theorem endHold_svp (s : State) : (endHold s).svp = s.svp := by
  unfold endHold; try dsimp only
  repeat' split
  all_goals simp
@[simp] theorem endHold_freeCount (s : State) : (endHold s).freeCount = s.freeCount := by
  unfold endHold; try dsimp only
  repeat' split
  all_goals simp
@[simp] theorem endHold_pending (s : State) : (endHold s).pending = s.pending := by
  unfold endHold; try dsimp only
  repeat' split
  all_goals simp

@[simp] theorem leaveUpset_pins (s : State) : (leaveUpset s).pins = s.pins := by
  unfold leaveUpset; try dsimp only
  repeat' split
  all_goals simp
@[simp] theorem leaveUpset_svp (s : State) : (leaveUpset s).svp = s.svp := by
  unfold leaveUpset; try dsimp only
  repeat' split
  all_goals simp
@[simp] theorem leaveUpset_freeCount (s : State) : (leaveUpset s).freeCount = s.freeCount := by
  unfold leaveUpset; try dsimp only
  repeat' split
  all_goals simp
@[simp] theorem leaveUpset_pending (s : State) : (leaveUpset s).pending = s.pending := by
  unfold leaveUpset; try dsimp only
  repeat' split
  all_goals simp

@[simp] theorem heatOver_pins (s : State) : (heatOver s).pins = s.pins := by simp [heatOver]
@[simp] theorem heatOver_svp (s : State) : (heatOver s).svp = s.svp := by simp [heatOver]
@[simp] theorem heatOver_freeCount (s : State) : (heatOver s).freeCount = s.freeCount := by simp [heatOver]
@[simp] theorem heatOver_pending (s : State) : (heatOver s).pending = s.pending := by simp [heatOver]

@[simp] theorem endStroke_pins (b : Bool) (s : State) : (endStroke b s).pins = s.pins := by
  unfold endStroke; try dsimp only
  repeat' split
  all_goals simp
@[simp] theorem endStroke_svp (b : Bool) (s : State) : (endStroke b s).svp = s.svp := by
  unfold endStroke; try dsimp only
  repeat' split
  all_goals simp
@[simp] theorem endStroke_freeCount (b : Bool) (s : State) : (endStroke b s).freeCount = s.freeCount := by
  unfold endStroke; try dsimp only
  repeat' split
  all_goals simp
@[simp] theorem endStroke_pending (b : Bool) (s : State) : (endStroke b s).pending = s.pending := by
  unfold endStroke; try dsimp only
  repeat' split
  all_goals simp

@[simp] theorem workStroke_pins (s : State) : (workStroke s).pins = s.pins := rfl
@[simp] theorem workStroke_mfe (s : State) : (workStroke s).mfe = s.mfe := rfl
@[simp] theorem workStroke_wsq (s : State) : (workStroke s).wsq = s.wsq := rfl
@[simp] theorem workStroke_frg (s : State) : (workStroke s).frg = s.frg := rfl
@[simp] theorem workStroke_clu (s : State) : (workStroke s).clu = s.clu := rfl
@[simp] theorem workStroke_tnl (s : State) : (workStroke s).tnl = s.tnl := rfl
@[simp] theorem workStroke_lnp (s : State) : (workStroke s).lnp = s.lnp := rfl
@[simp] theorem workStroke_cap (s : State) : (workStroke s).cap = s.cap := rfl
@[simp] theorem workStroke_rst (s : State) : (workStroke s).rst = s.rst := rfl
@[simp] theorem workStroke_svp (s : State) : (workStroke s).svp = s.svp := rfl
@[simp] theorem workStroke_freeCount (s : State) : (workStroke s).freeCount = s.freeCount := rfl
@[simp] theorem workStroke_pending (s : State) : (workStroke s).pending = s.pending := rfl
@[simp] theorem workStroke_ctx (s : State) : (workStroke s).ctx = s.ctx.map (fun c => { c with progress :=
    if s.wsq.stroke = .stroke then
      { c.progress with
        upsetDistance := (s.position - s.wsq.upsetEntry).toNat
        peakForce := max c.progress.peakForce (s.input .force).toNat }
    else c.progress }) := rfl

@[simp] theorem strokeSample_pins (s : State) : (strokeSample s).pins = s.pins := by
  unfold strokeSample; try dsimp only
  repeat' split
  all_goals simp
@[simp] theorem strokeSample_svp (s : State) : (strokeSample s).svp = s.svp := by
  unfold strokeSample; try dsimp only
  repeat' split
  all_goals simp
@[simp] theorem strokeSample_freeCount (s : State) : (strokeSample s).freeCount = s.freeCount := by
  unfold strokeSample; try dsimp only
  repeat' split
  all_goals simp
@[simp] theorem strokeSample_pending (s : State) : (strokeSample s).pending = s.pending := by
  unfold strokeSample; try dsimp only
  repeat' split
  all_goals simp

@[simp] theorem enterUpset_pins (s : State) : (enterUpset s).pins = s.pins := by
  unfold enterUpset; try dsimp only
  repeat' split
  all_goals simp
@[simp] theorem enterUpset_svp (s : State) : (enterUpset s).svp = s.svp := by
  unfold enterUpset; try dsimp only
  repeat' split
  all_goals simp
@[simp] theorem enterUpset_freeCount (s : State) : (enterUpset s).freeCount = s.freeCount := by
  unfold enterUpset; try dsimp only
  repeat' split
  all_goals simp
@[simp] theorem enterUpset_pending (s : State) : (enterUpset s).pending = s.pending := by
  unfold enterUpset; try dsimp only
  repeat' split
  all_goals simp

@[simp] theorem endFlash_pins (s : State) : (endFlash s).pins = s.pins := by
  unfold endFlash; try dsimp only
  repeat' split
  all_goals simp
@[simp] theorem endFlash_svp (s : State) : (endFlash s).svp = s.svp := by
  unfold endFlash; try dsimp only
  repeat' split
  all_goals simp
@[simp] theorem endFlash_freeCount (s : State) : (endFlash s).freeCount = s.freeCount := by
  unfold endFlash; try dsimp only
  repeat' split
  all_goals simp
@[simp] theorem endFlash_pending (s : State) : (endFlash s).pending = s.pending := by
  unfold endFlash; try dsimp only
  repeat' split
  all_goals simp

@[simp] theorem gateNotice_pins (s : State) : (gateNotice s).pins = s.pins := by
  unfold gateNotice; try dsimp only
  repeat' split
  all_goals simp
@[simp] theorem gateNotice_svp (s : State) : (gateNotice s).svp = s.svp := by
  unfold gateNotice; try dsimp only
  repeat' split
  all_goals simp
@[simp] theorem gateNotice_freeCount (s : State) : (gateNotice s).freeCount = s.freeCount := by
  unfold gateNotice; try dsimp only
  repeat' split
  all_goals simp
@[simp] theorem gateNotice_pending (s : State) : (gateNotice s).pending = s.pending := by
  unfold gateNotice; try dsimp only
  repeat' split
  all_goals simp

@[simp] theorem closeRowLost_pins (s : State) : (closeRowLost s).pins = s.pins := by
  unfold closeRowLost; try dsimp only
  repeat' split
  all_goals simp
@[simp] theorem closeRowLost_svp (s : State) : (closeRowLost s).svp = s.svp := by
  unfold closeRowLost; try dsimp only
  repeat' split
  all_goals simp
@[simp] theorem closeRowLost_freeCount (s : State) : (closeRowLost s).freeCount = s.freeCount := by
  unfold closeRowLost; try dsimp only
  repeat' split
  all_goals simp
@[simp] theorem closeRowLost_pending (s : State) : (closeRowLost s).pending = s.pending := by
  unfold closeRowLost; try dsimp only
  repeat' split
  all_goals simp

@[simp] theorem releaseNotice_pins (s : State) : (releaseNotice s).pins = s.pins := by
  unfold releaseNotice; try dsimp only
  repeat' split
  all_goals simp
@[simp] theorem releaseNotice_svp (s : State) : (releaseNotice s).svp = s.svp := by
  unfold releaseNotice; try dsimp only
  repeat' split
  all_goals simp
@[simp] theorem releaseNotice_freeCount (s : State) : (releaseNotice s).freeCount = s.freeCount := by
  unfold releaseNotice; try dsimp only
  repeat' split
  all_goals simp
@[simp] theorem releaseNotice_pending (s : State) : (releaseNotice s).pending = s.pending := by
  unfold releaseNotice; try dsimp only
  repeat' split
  all_goals simp

@[simp] theorem settleEnergy_pins (s : State) : (settleEnergy s).pins = s.pins := by
  unfold settleEnergy; try dsimp only
  repeat' split
  all_goals simp
@[simp] theorem settleEnergy_svp (s : State) : (settleEnergy s).svp = s.svp := by
  unfold settleEnergy; try dsimp only
  repeat' split
  all_goals simp
@[simp] theorem settleEnergy_freeCount (s : State) : (settleEnergy s).freeCount = s.freeCount := by
  unfold settleEnergy; try dsimp only
  repeat' split
  all_goals simp
@[simp] theorem settleEnergy_pending (s : State) : (settleEnergy s).pending = s.pending := by
  unfold settleEnergy; try dsimp only
  repeat' split
  all_goals simp

@[simp] theorem settleNeutral_pins (s : State) : (settleNeutral s).pins = s.pins := by
  unfold settleNeutral; try dsimp only
  repeat' split
  all_goals simp
@[simp] theorem settleNeutral_svp (s : State) : (settleNeutral s).svp = s.svp := by
  unfold settleNeutral; try dsimp only
  repeat' split
  all_goals simp
@[simp] theorem settleNeutral_freeCount (s : State) : (settleNeutral s).freeCount = s.freeCount := by
  unfold settleNeutral; try dsimp only
  repeat' split
  all_goals simp
@[simp] theorem settleNeutral_pending (s : State) : (settleNeutral s).pending = s.pending := by
  unfold settleNeutral; try dsimp only
  repeat' split
  all_goals simp

@[simp] theorem settleVerdict_pins (s : State) : (settleVerdict s).pins = s.pins := by simp [settleVerdict]
@[simp] theorem settleVerdict_svp (s : State) : (settleVerdict s).svp = s.svp := by simp [settleVerdict]
@[simp] theorem settleVerdict_freeCount (s : State) : (settleVerdict s).freeCount = s.freeCount := by simp [settleVerdict]
@[simp] theorem settleVerdict_pending (s : State) : (settleVerdict s).pending = s.pending := by simp [settleVerdict]

@[simp] theorem handRecord_pins (s : State) : (handRecord s).pins = s.pins := by
  unfold handRecord; try dsimp only
  repeat' split
  all_goals simp
@[simp] theorem handRecord_svp (s : State) : (handRecord s).svp = s.svp := by
  unfold handRecord; try dsimp only
  repeat' split
  all_goals simp
@[simp] theorem handRecord_freeCount (s : State) : (handRecord s).freeCount = s.freeCount := by
  unfold handRecord; try dsimp only
  repeat' split
  all_goals simp
@[simp] theorem handRecord_pending (s : State) : (handRecord s).pending = s.pending := by
  unfold handRecord; try dsimp only
  repeat' split
  all_goals simp

@[simp] theorem endContext_pins (s : State) : (endContext s).pins = s.pins := by
  unfold endContext; try dsimp only
  repeat' split
  all_goals simp
@[simp] theorem endContext_svp (s : State) : (endContext s).svp = s.svp := by
  unfold endContext; try dsimp only
  repeat' split
  all_goals simp
@[simp] theorem endContext_freeCount (s : State) : (endContext s).freeCount = s.freeCount := by
  unfold endContext; try dsimp only
  repeat' split
  all_goals simp
@[simp] theorem endContext_pending (s : State) : (endContext s).pending = s.pending := by
  unfold endContext; try dsimp only
  repeat' split
  all_goals simp

@[simp] theorem buildOutcome_pins (s : State) : (buildOutcome s).pins = s.pins := by simp [buildOutcome]
@[simp] theorem buildOutcome_svp (s : State) : (buildOutcome s).svp = s.svp := by simp [buildOutcome]
@[simp] theorem buildOutcome_freeCount (s : State) : (buildOutcome s).freeCount = s.freeCount := by simp [buildOutcome]
@[simp] theorem buildOutcome_pending (s : State) : (buildOutcome s).pending = s.pending := by simp [buildOutcome]

@[simp] theorem pairedNotice_pins (b : Bool) (s : State) : (pairedNotice b s).pins = s.pins := by
  unfold pairedNotice; try dsimp only
  repeat' split
  all_goals simp
@[simp] theorem pairedNotice_svp (b : Bool) (s : State) : (pairedNotice b s).svp = s.svp := by
  unfold pairedNotice; try dsimp only
  repeat' split
  all_goals simp
@[simp] theorem pairedNotice_freeCount (b : Bool) (s : State) : (pairedNotice b s).freeCount = s.freeCount := by
  unfold pairedNotice; try dsimp only
  repeat' split
  all_goals simp
@[simp] theorem pairedNotice_pending (b : Bool) (s : State) : (pairedNotice b s).pending = s.pending := by
  unfold pairedNotice; try dsimp only
  repeat' split
  all_goals simp

@[simp] theorem changeRow_pins (n : Nat) (b : Bool) (r : PeerRow) (s : State) : (changeRow n b r s).pins = s.pins := by
  unfold changeRow; try dsimp only
  repeat' split
  all_goals simp
@[simp] theorem changeRow_svp (n : Nat) (b : Bool) (r : PeerRow) (s : State) : (changeRow n b r s).svp = s.svp := by
  unfold changeRow; try dsimp only
  repeat' split
  all_goals simp
@[simp] theorem changeRow_freeCount (n : Nat) (b : Bool) (r : PeerRow) (s : State) : (changeRow n b r s).freeCount = s.freeCount := by
  unfold changeRow; try dsimp only
  repeat' split
  all_goals simp
@[simp] theorem changeRow_pending (n : Nat) (b : Bool) (r : PeerRow) (s : State) : (changeRow n b r s).pending = s.pending := by
  unfold changeRow; try dsimp only
  repeat' split
  all_goals simp

@[simp] theorem takeClaim_pins (n a : Nat) (s : State) : (takeClaim n a s).pins = s.pins := by
  unfold takeClaim; try dsimp only
  repeat' split
  all_goals simp
@[simp] theorem takeClaim_svp (n a : Nat) (s : State) : (takeClaim n a s).svp = s.svp := by
  unfold takeClaim; try dsimp only
  repeat' split
  all_goals simp
@[simp] theorem takeClaim_freeCount (n a : Nat) (s : State) : (takeClaim n a s).freeCount = s.freeCount := by
  unfold takeClaim; try dsimp only
  repeat' split
  all_goals simp
@[simp] theorem takeClaim_pending (n a : Nat) (s : State) : (takeClaim n a s).pending = s.pending := by
  unfold takeClaim; try dsimp only
  repeat' split
  all_goals simp

@[simp] theorem takeAnnounce_pins (n : Nat) (d : Option Side) (r : RoleData) (s : State) : (takeAnnounce n d r s).pins = s.pins := by simp [takeAnnounce]
@[simp] theorem takeAnnounce_svp (n : Nat) (d : Option Side) (r : RoleData) (s : State) : (takeAnnounce n d r s).svp = s.svp := by simp [takeAnnounce]
@[simp] theorem takeAnnounce_freeCount (n : Nat) (d : Option Side) (r : RoleData) (s : State) : (takeAnnounce n d r s).freeCount = s.freeCount := by simp [takeAnnounce]
@[simp] theorem takeAnnounce_pending (n : Nat) (d : Option Side) (r : RoleData) (s : State) : (takeAnnounce n d r s).pending = s.pending := by simp [takeAnnounce]

@[simp] theorem staleRow_pins (n : Nat) (s : State) : (staleRow n s).pins = s.pins := by
  unfold staleRow; try dsimp only
  repeat' split
  all_goals simp
@[simp] theorem staleRow_svp (n : Nat) (s : State) : (staleRow n s).svp = s.svp := by
  unfold staleRow; try dsimp only
  repeat' split
  all_goals simp
@[simp] theorem staleRow_freeCount (n : Nat) (s : State) : (staleRow n s).freeCount = s.freeCount := by
  unfold staleRow; try dsimp only
  repeat' split
  all_goals simp
@[simp] theorem staleRow_pending (n : Nat) (s : State) : (staleRow n s).pending = s.pending := by
  unfold staleRow; try dsimp only
  repeat' split
  all_goals simp

@[simp] theorem emptyRow_pins (n : Nat) (s : State) : (emptyRow n s).pins = s.pins := by
  unfold emptyRow; try dsimp only
  repeat' split
  all_goals simp
@[simp] theorem emptyRow_svp (n : Nat) (s : State) : (emptyRow n s).svp = s.svp := by
  unfold emptyRow; try dsimp only
  repeat' split
  all_goals simp
@[simp] theorem emptyRow_freeCount (n : Nat) (s : State) : (emptyRow n s).freeCount = s.freeCount := by
  unfold emptyRow; try dsimp only
  repeat' split
  all_goals simp
@[simp] theorem emptyRow_pending (n : Nat) (s : State) : (emptyRow n s).pending = s.pending := by
  unfold emptyRow; try dsimp only
  repeat' split
  all_goals simp

end Sys2Proof.Machine
end

