-- ==== Sys2Proof/Laws/Keeps.lean ====
section
/-! SUPPORT. Every shared operation keeps trace memory canonical, the outgoing queue and the calls within their limits, and
the weld fault list within its own: the laws of a write to trace memory, then one lemma per operation and part. -/
namespace Sys2Proof.Machine

set_option Elab.async false
set_option linter.unusedTactic false
set_option linter.unreachableTactic false
set_option linter.unusedSimpArgs false

/-! ### The parts -/

/-- R148: at most 8 frames, at most one ANNOUNCE. -/
def queueOk (q : List OutFrame) : Bool := q.length ≤ 8 && q.count .announce ≤ 1

/-- R150: at most two calls, one to a destination. -/
def callsOk (cs : List CallRecord) : Bool := cs.length ≤ 2 && decide (cs.map (·.dest)).Nodup

/-- R71: the fault list of a weld context, if there is one. -/
def faultsOk (o : Option WeldCtx) : Bool :=
  o.all (fun c => decide (c.faults.length ≤ 8) && decide (c.faults.map (·.kind)).Nodup
    && c.faults.all (fun e => decide (1 ≤ e.count) && decide (e.count ≤ 255)))

/-! ### Trace memory -/

theorem insert_mem_loc (m : Memory) (l : Nat) (e : TraceEntry) (x : Nat × TraceEntry) (h : x ∈ m.insert l e) :
    x = (l, e) ∨ x ∈ m := by
  induction m with
  | nil => simpa [Memory.insert] using h
  | cons y m ih =>
    obtain ⟨a, v⟩ := y
    simp only [Memory.insert] at h
    split at h
    · simpa using h
    · split at h
      · simp at h; rcases h with h | h <;> simp [h]
      · simp at h; rcases h with h | h
        · simp [h]
        · rcases ih h with h | h <;> simp [h]

theorem insert_sorted (m : Memory) (l : Nat) (e : TraceEntry) (h : m.Pairwise (fun x y => x.1 < y.1)) :
    (m.insert l e).Pairwise (fun x y => x.1 < y.1) := by
  induction m with
  | nil => simp [Memory.insert]
  | cons y m ih =>
    obtain ⟨a, v⟩ := y
    have h1 := (List.pairwise_cons.mp h).1
    have h2 := (List.pairwise_cons.mp h).2
    simp only [Memory.insert]
    split
    · refine List.pairwise_cons.mpr ⟨?_, h⟩
      intro x hx
      rcases List.mem_cons.mp hx with rfl | hx
      · assumption
      · have := h1 x hx; simp at this ⊢; omega
    · split
      · rename_i h3 h4
        subst h4
        exact List.pairwise_cons.mpr ⟨h1, h2⟩
      · refine List.pairwise_cons.mpr ⟨?_, ih h2⟩
        intro x hx
        rcases insert_mem_loc m l e x hx with rfl | hx
        · simp; omega
        · exact h1 x hx

/-- A write keeps the canonical form. -/
theorem write_wf (m : Memory) (l : Nat) (e : TraceEntry) (h : m.wf = true) : (m.write l e).wf = true := by
  unfold Memory.write
  split
  · rename_i hl
    simp only [Memory.wf, Bool.and_eq_true, decide_eq_true_eq, List.all_eq_true] at h ⊢
    refine ⟨insert_sorted m l e h.1, ?_⟩
    intro x hx
    rcases insert_mem_loc m l e x hx with rfl | hx
    · simpa using hl
    · exact h.2 x hx
  · exact h

/-- What is written at a location below 8192 reads back. -/
theorem read_write_same (m : Memory) (l : Nat) (e : TraceEntry) (h : l < memorySize) : (m.write l e).read l = some e := by
  simp only [Memory.write, h, if_true]
  induction m with
  | nil => simp [Memory.insert, Memory.read]
  | cons y m ih =>
    obtain ⟨a, v⟩ := y
    simp only [Memory.insert]
    split
    · simp [Memory.read]
    · split
      · simp [Memory.read]
      · rename_i h1 h2
        simp only [Memory.read]
        rw [if_neg (fun h => h2 h.symm)]
        exact ih

/-- A write leaves every other location alone. -/
theorem read_write_other (m : Memory) (l k : Nat) (e : TraceEntry) (h : k ≠ l) : (m.write l e).read k = m.read k := by
  unfold Memory.write
  split
  · induction m with
    | nil => simp [Memory.insert, Memory.read, Ne.symm h]
    | cons y m ih =>
      obtain ⟨a, v⟩ := y
      simp only [Memory.insert]
      split
      · simp [Memory.read, Ne.symm h]
      · split
        · rename_i h1 h2
          subst h2
          simp [Memory.read, Ne.symm h]
        · simp only [Memory.read, ih]
  · rfl

/-- The memory right after reset is canonical. -/
theorem reset_memory_wf : State.reset.cap.memory.wf = true := rfl

theorem put_wf (desc : Descriptor) (d : Nat) (w : TraceWork) (x : Channel × Int) (h : w.memory.wf = true) :
    (w.put desc d x).memory.wf = true := by
  unfold TraceWork.put
  repeat' split
  all_goals simp [write_wf, h]

theorem foldl_put_wf (desc : Descriptor) (d : Nat) (xs : List (Channel × Int)) (w : TraceWork) (h : w.memory.wf = true) :
    (xs.foldl (TraceWork.put desc d) w).memory.wf = true := by
  induction xs generalizing w with
  | nil => exact h
  | cons x xs ih => exact ih _ (put_wf desc d w x h)

theorem finish_memory (desc : Descriptor) (w : TraceWork) : (w.finish desc).memory = w.memory := by
  simp only [TraceWork.finish]
  repeat' split
  all_goals rfl

theorem runDescriptor_memory (d : Nat) (desc : Descriptor) (s : State) (h : s.cap.memory.wf = true) :
    (runDescriptor d desc s).cap.memory.wf = true := by
  unfold runDescriptor; dsimp only
  split
  · exact h
  · simp only [finish_memory]
    exact foldl_put_wf _ _ _ _ h

theorem runChain_memory (n d : Nat) (seen : List Nat) (s : State) (h : s.cap.memory.wf = true) :
    (runChain n d seen s).cap.memory.wf = true := by
  induction n generalizing d seen s with
  | zero => exact h
  | succ n ih =>
    simp only [runChain]
    repeat' split
    · exact h
    · exact h
    · exact runDescriptor_memory _ _ _ h
    · exact ih _ _ _ (runDescriptor_memory _ _ _ h)

@[simp] theorem activate_memory (c : Source) (s : State) (h : s.cap.memory.wf = true) :
    (activate c s).cap.memory.wf = true := by
  unfold activate
  repeat' split
  · exact h
  · exact runChain_memory _ _ _ _ h
  · exact h

/-! ### The fault list -/

@[simp] theorem faultsOk_map (f : WeldCtx → WeldCtx) (o : Option WeldCtx) (hf : ∀ c, (f c).faults = c.faults) :
    faultsOk (o.map f) = faultsOk o := by
  cases o <;> simp [faultsOk, hf]

@[simp] theorem faultsOk_none : faultsOk none = true := rfl

theorem addFault_ok (k : FaultKind) (p : SeqState) (c : WeldCtx) (h : faultsOk (some c) = true) :
    faultsOk (some (c.addFault k p).1) = true := by
  simp only [faultsOk, Option.all_some, Bool.and_eq_true, decide_eq_true_eq, List.all_eq_true] at h ⊢
  obtain ⟨⟨h1, h2⟩, h3⟩ := h
  unfold WeldCtx.addFault
  split
  · split
    · rename_i e he hlt
      have hmem := List.mem_of_find?_eq_some he
      have hk : (c.faults.map (fun e => if e.kind == k then { e with count := e.count + 1 } else e)).map (·.kind)
          = c.faults.map (·.kind) := by
        simp only [List.map_map]
        apply List.map_congr_left
        intro x _
        simp only [Function.comp]
        split <;> rfl
      refine ⟨⟨by simpa using h1, by rw [hk]; exact h2⟩, ?_⟩
      intro x hx
      obtain ⟨y, hy, rfl⟩ := List.mem_map.mp hx
      split
      · rename_i hyk
        have hek : e.kind = k := by simpa using List.find?_some he
        have hye : y = e := by
          have hyk' : y.kind = k := by simpa using hyk
          exact List.inj_on_of_nodup_map h2 hy hmem (by rw [hyk', hek])
        subst hye
        have := h3 y hy
        simp; omega
      · exact h3 y hy
    · exact ⟨⟨h1, h2⟩, h3⟩
  · split
    · rename_i hn hlt
      refine ⟨⟨by simp; omega, ?_⟩, ?_⟩
      · simp only [List.map_append, List.map_cons, List.map_nil]
        rw [List.nodup_append]
        refine ⟨h2, by simp, ?_⟩
        intro a ha b hb hab
        obtain ⟨x, hx, rfl⟩ := List.mem_map.mp ha
        simp at hb
        have := List.find?_eq_none.mp hn x hx
        simp at this
        exact this (by rw [hab, hb])
      · intro x hx
        rcases List.mem_append.mp hx with hx | hx
        · exact h3 x hx
        · simp at hx; subst hx; simp
    · exact ⟨⟨h1, h2⟩, h3⟩

/-! ### The queue and the calls -/

theorem wantAnnounce_ok (b : Bool) (l : Lnp) (h : queueOk l.queue = true) : queueOk (l.wantAnnounce b).queue = true := by
  simp only [queueOk, Bool.and_eq_true, decide_eq_true_eq] at h ⊢
  unfold Lnp.wantAnnounce
  repeat' split
  all_goals first | exact h | skip
  rename_i h1 h2 h3
  simp [queueLimit] at h3
  have : l.queue.count .announce = 0 := List.count_eq_zero.mpr (by simpa using h1)
  simp [List.count_append, this]
  omega

theorem join_ok (f : OutFrame) (l : Lnp) (hf : f ≠ .announce) (hr : l.hasRoom = true) (h : queueOk l.queue = true) :
    queueOk (l.join f).queue = true := by
  simp only [queueOk, Bool.and_eq_true, decide_eq_true_eq] at h ⊢
  unfold Lnp.join
  split
  · rename_i h1
    simp [queueLimit] at h1
    simp [List.count_append, List.count_cons, hf]
    omega
  · rename_i h1
    have hm : OutFrame.announce ∈ l.queue := by
      simp [Lnp.hasRoom, Lnp.announceRemovable] at hr
      rcases hr with hr | hr
      · exact absurd hr h1
      · exact hr.1
    simp [List.count_append, List.count_cons, hf, List.length_erase_of_mem hm]
    have := List.length_pos_of_mem hm
    omega

/-! ### Parts of the Line Port that a frame or a fault leaves alone -/

@[simp] theorem requestAnnounce_calls (s : State) : (requestAnnounce s).lnp.calls = s.lnp.calls := by
  unfold requestAnnounce Lnp.wantAnnounce; try dsimp only
  repeat' split
  all_goals simp
@[simp] theorem requestAnnounce_station (s : State) : (requestAnnounce s).lnp.station = s.lnp.station := by
  unfold requestAnnounce Lnp.wantAnnounce; try dsimp only
  repeat' split
  all_goals simp
@[simp] theorem requestAnnounce_side (s : State) : (requestAnnounce s).lnp.side = s.lnp.side := by
  unfold requestAnnounce Lnp.wantAnnounce; try dsimp only
  repeat' split
  all_goals simp
@[simp] theorem requestAnnounce_peers (s : State) : (requestAnnounce s).lnp.peers = s.lnp.peers := by
  unfold requestAnnounce Lnp.wantAnnounce; try dsimp only
  repeat' split
  all_goals simp
@[simp] theorem requestAnnounce_announceTimer (s : State) : (requestAnnounce s).lnp.announceTimer = s.lnp.announceTimer := by
  unfold requestAnnounce Lnp.wantAnnounce; try dsimp only
  repeat' split
  all_goals simp
@[simp] theorem requestAnnounce_lineOkRisen (s : State) : (requestAnnounce s).lnp.lineOkRisen = s.lnp.lineOkRisen := by
  unfold requestAnnounce Lnp.wantAnnounce; try dsimp only
  repeat' split
  all_goals simp

@[simp] theorem announceChange_calls (s : State) : (announceChange s).lnp.calls = s.lnp.calls := by
  unfold announceChange; try dsimp only
  repeat' split
  all_goals simp
@[simp] theorem announceChange_station (s : State) : (announceChange s).lnp.station = s.lnp.station := by
  unfold announceChange; try dsimp only
  repeat' split
  all_goals simp
@[simp] theorem announceChange_side (s : State) : (announceChange s).lnp.side = s.lnp.side := by
  unfold announceChange; try dsimp only
  repeat' split
  all_goals simp
@[simp] theorem announceChange_peers (s : State) : (announceChange s).lnp.peers = s.lnp.peers := by
  unfold announceChange; try dsimp only
  repeat' split
  all_goals simp
@[simp] theorem announceChange_announceTimer (s : State) : (announceChange s).lnp.announceTimer = s.lnp.announceTimer := by
  unfold announceChange; try dsimp only
  repeat' split
  all_goals simp
@[simp] theorem announceChange_lineOkRisen (s : State) : (announceChange s).lnp.lineOkRisen = s.lnp.lineOkRisen := by
  unfold announceChange; try dsimp only
  repeat' split
  all_goals simp

@[simp] theorem logFault_calls (k : FaultKind) (w : Option Nat) (i : Option Int) (s : State) : (logFault k w i s).lnp.calls = s.lnp.calls := by
  unfold logFault; try dsimp only
  repeat' split
  all_goals simp
@[simp] theorem logFault_station (k : FaultKind) (w : Option Nat) (i : Option Int) (s : State) : (logFault k w i s).lnp.station = s.lnp.station := by
  unfold logFault; try dsimp only
  repeat' split
  all_goals simp
@[simp] theorem logFault_side (k : FaultKind) (w : Option Nat) (i : Option Int) (s : State) : (logFault k w i s).lnp.side = s.lnp.side := by
  unfold logFault; try dsimp only
  repeat' split
  all_goals simp
@[simp] theorem logFault_peers (k : FaultKind) (w : Option Nat) (i : Option Int) (s : State) : (logFault k w i s).lnp.peers = s.lnp.peers := by
  unfold logFault; try dsimp only
  repeat' split
  all_goals simp
@[simp] theorem logFault_announceTimer (k : FaultKind) (w : Option Nat) (i : Option Int) (s : State) : (logFault k w i s).lnp.announceTimer = s.lnp.announceTimer := by
  unfold logFault; try dsimp only
  repeat' split
  all_goals simp
@[simp] theorem logFault_lineOkRisen (k : FaultKind) (w : Option Nat) (i : Option Int) (s : State) : (logFault k w i s).lnp.lineOkRisen = s.lnp.lineOkRisen := by
  unfold logFault; try dsimp only
  repeat' split
  all_goals simp

@[simp] theorem lineFault_calls (f : OutFrame) (s : State) : (lineFault f s).lnp.calls = s.lnp.calls := by
  unfold lineFault; try dsimp only
  repeat' split
  all_goals simp
@[simp] theorem lineFault_station (f : OutFrame) (s : State) : (lineFault f s).lnp.station = s.lnp.station := by
  unfold lineFault; try dsimp only
  repeat' split
  all_goals simp
@[simp] theorem lineFault_side (f : OutFrame) (s : State) : (lineFault f s).lnp.side = s.lnp.side := by
  unfold lineFault; try dsimp only
  repeat' split
  all_goals simp
@[simp] theorem lineFault_peers (f : OutFrame) (s : State) : (lineFault f s).lnp.peers = s.lnp.peers := by
  unfold lineFault; try dsimp only
  repeat' split
  all_goals simp
@[simp] theorem lineFault_announceTimer (f : OutFrame) (s : State) : (lineFault f s).lnp.announceTimer = s.lnp.announceTimer := by
  unfold lineFault; try dsimp only
  repeat' split
  all_goals simp
@[simp] theorem lineFault_lineOkRisen (f : OutFrame) (s : State) : (lineFault f s).lnp.lineOkRisen = s.lnp.lineOkRisen := by
  unfold lineFault; try dsimp only
  repeat' split
  all_goals simp

@[simp] theorem offer_calls (f : OutFrame) (s : State) : (offer f s).lnp.calls = s.lnp.calls := by
  unfold offer Lnp.join; try dsimp only
  repeat' split
  all_goals simp
@[simp] theorem offer_station (f : OutFrame) (s : State) : (offer f s).lnp.station = s.lnp.station := by
  unfold offer Lnp.join; try dsimp only
  repeat' split
  all_goals simp
@[simp] theorem offer_side (f : OutFrame) (s : State) : (offer f s).lnp.side = s.lnp.side := by
  unfold offer Lnp.join; try dsimp only
  repeat' split
  all_goals simp
@[simp] theorem offer_peers (f : OutFrame) (s : State) : (offer f s).lnp.peers = s.lnp.peers := by
  unfold offer Lnp.join; try dsimp only
  repeat' split
  all_goals simp
@[simp] theorem offer_announceTimer (f : OutFrame) (s : State) : (offer f s).lnp.announceTimer = s.lnp.announceTimer := by
  unfold offer Lnp.join; try dsimp only
  repeat' split
  all_goals simp
@[simp] theorem offer_lineOkRisen (f : OutFrame) (s : State) : (offer f s).lnp.lineOkRisen = s.lnp.lineOkRisen := by
  unfold offer Lnp.join; try dsimp only
  repeat' split
  all_goals simp

@[simp] theorem sendClaim_calls (s : State) : (sendClaim s).lnp.calls = s.lnp.calls := by
  unfold sendClaim; try dsimp only
  repeat' split
  all_goals simp
@[simp] theorem sendClaim_station (s : State) : (sendClaim s).lnp.station = s.lnp.station := by
  unfold sendClaim; try dsimp only
  repeat' split
  all_goals simp
@[simp] theorem sendClaim_side (s : State) : (sendClaim s).lnp.side = s.lnp.side := by
  unfold sendClaim; try dsimp only
  repeat' split
  all_goals simp
@[simp] theorem sendClaim_peers (s : State) : (sendClaim s).lnp.peers = s.lnp.peers := by
  unfold sendClaim; try dsimp only
  repeat' split
  all_goals simp
@[simp] theorem sendClaim_announceTimer (s : State) : (sendClaim s).lnp.announceTimer = s.lnp.announceTimer := by
  unfold sendClaim; try dsimp only
  repeat' split
  all_goals simp
@[simp] theorem sendClaim_lineOkRisen (s : State) : (sendClaim s).lnp.lineOkRisen = s.lnp.lineOkRisen := by
  unfold sendClaim; try dsimp only
  repeat' split
  all_goals simp

@[simp] theorem setOwnClaim_calls (v : Nat) (s : State) : (setOwnClaim v s).lnp.calls = s.lnp.calls := by
  unfold setOwnClaim; try dsimp only
  repeat' split
  all_goals simp
@[simp] theorem setOwnClaim_station (v : Nat) (s : State) : (setOwnClaim v s).lnp.station = s.lnp.station := by
  unfold setOwnClaim; try dsimp only
  repeat' split
  all_goals simp
@[simp] theorem setOwnClaim_side (v : Nat) (s : State) : (setOwnClaim v s).lnp.side = s.lnp.side := by
  unfold setOwnClaim; try dsimp only
  repeat' split
  all_goals simp
@[simp] theorem setOwnClaim_peers (v : Nat) (s : State) : (setOwnClaim v s).lnp.peers = s.lnp.peers := by
  unfold setOwnClaim; try dsimp only
  repeat' split
  all_goals simp
@[simp] theorem setOwnClaim_announceTimer (v : Nat) (s : State) : (setOwnClaim v s).lnp.announceTimer = s.lnp.announceTimer := by
  unfold setOwnClaim; try dsimp only
  repeat' split
  all_goals simp
@[simp] theorem setOwnClaim_lineOkRisen (v : Nat) (s : State) : (setOwnClaim v s).lnp.lineOkRisen = s.lnp.lineOkRisen := by
  unfold setOwnClaim; try dsimp only
  repeat' split
  all_goals simp

@[simp] theorem yieldOwnClaim_calls (s : State) : (yieldOwnClaim s).lnp.calls = s.lnp.calls := by
  unfold yieldOwnClaim; try dsimp only
  repeat' split
  all_goals simp
@[simp] theorem yieldOwnClaim_station (s : State) : (yieldOwnClaim s).lnp.station = s.lnp.station := by
  unfold yieldOwnClaim; try dsimp only
  repeat' split
  all_goals simp
@[simp] theorem yieldOwnClaim_side (s : State) : (yieldOwnClaim s).lnp.side = s.lnp.side := by
  unfold yieldOwnClaim; try dsimp only
  repeat' split
  all_goals simp
@[simp] theorem yieldOwnClaim_peers (s : State) : (yieldOwnClaim s).lnp.peers = s.lnp.peers := by
  unfold yieldOwnClaim; try dsimp only
  repeat' split
  all_goals simp
@[simp] theorem yieldOwnClaim_announceTimer (s : State) : (yieldOwnClaim s).lnp.announceTimer = s.lnp.announceTimer := by
  unfold yieldOwnClaim; try dsimp only
  repeat' split
  all_goals simp
@[simp] theorem yieldOwnClaim_lineOkRisen (s : State) : (yieldOwnClaim s).lnp.lineOkRisen = s.lnp.lineOkRisen := by
  unfold yieldOwnClaim; try dsimp only
  repeat' split
  all_goals simp

@[simp] theorem enterFaultAs_calls (p : SeqState) (k : FaultKind) (i : Option Int) (s : State) : (enterFaultAs p k i s).lnp.calls = s.lnp.calls := by
  unfold enterFaultAs; try dsimp only
  repeat' split
  all_goals simp
@[simp] theorem enterFaultAs_station (p : SeqState) (k : FaultKind) (i : Option Int) (s : State) : (enterFaultAs p k i s).lnp.station = s.lnp.station := by
  unfold enterFaultAs; try dsimp only
  repeat' split
  all_goals simp
@[simp] theorem enterFaultAs_side (p : SeqState) (k : FaultKind) (i : Option Int) (s : State) : (enterFaultAs p k i s).lnp.side = s.lnp.side := by
  unfold enterFaultAs; try dsimp only
  repeat' split
  all_goals simp
@[simp] theorem enterFaultAs_peers (p : SeqState) (k : FaultKind) (i : Option Int) (s : State) : (enterFaultAs p k i s).lnp.peers = s.lnp.peers := by
  unfold enterFaultAs; try dsimp only
  repeat' split
  all_goals simp
@[simp] theorem enterFaultAs_announceTimer (p : SeqState) (k : FaultKind) (i : Option Int) (s : State) : (enterFaultAs p k i s).lnp.announceTimer = s.lnp.announceTimer := by
  unfold enterFaultAs; try dsimp only
  repeat' split
  all_goals simp
@[simp] theorem enterFaultAs_lineOkRisen (p : SeqState) (k : FaultKind) (i : Option Int) (s : State) : (enterFaultAs p k i s).lnp.lineOkRisen = s.lnp.lineOkRisen := by
  unfold enterFaultAs; try dsimp only
  repeat' split
  all_goals simp

@[simp] theorem enterFault_calls (k : FaultKind) (i : Option Int) (s : State) : (enterFault k i s).lnp.calls = s.lnp.calls := by
  unfold enterFault; try dsimp only
  repeat' split
  all_goals simp
@[simp] theorem enterFault_station (k : FaultKind) (i : Option Int) (s : State) : (enterFault k i s).lnp.station = s.lnp.station := by
  unfold enterFault; try dsimp only
  repeat' split
  all_goals simp
@[simp] theorem enterFault_side (k : FaultKind) (i : Option Int) (s : State) : (enterFault k i s).lnp.side = s.lnp.side := by
  unfold enterFault; try dsimp only
  repeat' split
  all_goals simp
@[simp] theorem enterFault_peers (k : FaultKind) (i : Option Int) (s : State) : (enterFault k i s).lnp.peers = s.lnp.peers := by
  unfold enterFault; try dsimp only
  repeat' split
  all_goals simp
@[simp] theorem enterFault_announceTimer (k : FaultKind) (i : Option Int) (s : State) : (enterFault k i s).lnp.announceTimer = s.lnp.announceTimer := by
  unfold enterFault; try dsimp only
  repeat' split
  all_goals simp
@[simp] theorem enterFault_lineOkRisen (k : FaultKind) (i : Option Int) (s : State) : (enterFault k i s).lnp.lineOkRisen = s.lnp.lineOkRisen := by
  unfold enterFault; try dsimp only
  repeat' split
  all_goals simp

@[simp] theorem enterState_calls (st : SeqState) (s : State) : (enterState st s).lnp.calls = s.lnp.calls := by
  unfold enterState; try dsimp only
  repeat' split
  all_goals simp
@[simp] theorem enterState_station (st : SeqState) (s : State) : (enterState st s).lnp.station = s.lnp.station := by
  unfold enterState; try dsimp only
  repeat' split
  all_goals simp
@[simp] theorem enterState_side (st : SeqState) (s : State) : (enterState st s).lnp.side = s.lnp.side := by
  unfold enterState; try dsimp only
  repeat' split
  all_goals simp
@[simp] theorem enterState_peers (st : SeqState) (s : State) : (enterState st s).lnp.peers = s.lnp.peers := by
  unfold enterState; try dsimp only
  repeat' split
  all_goals simp
@[simp] theorem enterState_announceTimer (st : SeqState) (s : State) : (enterState st s).lnp.announceTimer = s.lnp.announceTimer := by
  unfold enterState; try dsimp only
  repeat' split
  all_goals simp
@[simp] theorem enterState_lineOkRisen (st : SeqState) (s : State) : (enterState st s).lnp.lineOkRisen = s.lnp.lineOkRisen := by
  unfold enterState; try dsimp only
  repeat' split
  all_goals simp

@[simp] theorem requestCall_station (d : Nat) (b : CallBody) (s : State) : (requestCall d b s).lnp.station = s.lnp.station := by
  unfold requestCall; try dsimp only
  repeat' split
  all_goals simp
@[simp] theorem requestCall_side (d : Nat) (b : CallBody) (s : State) : (requestCall d b s).lnp.side = s.lnp.side := by
  unfold requestCall; try dsimp only
  repeat' split
  all_goals simp
@[simp] theorem requestCall_peers (d : Nat) (b : CallBody) (s : State) : (requestCall d b s).lnp.peers = s.lnp.peers := by
  unfold requestCall; try dsimp only
  repeat' split
  all_goals simp
@[simp] theorem requestCall_announceTimer (d : Nat) (b : CallBody) (s : State) : (requestCall d b s).lnp.announceTimer = s.lnp.announceTimer := by
  unfold requestCall; try dsimp only
  repeat' split
  all_goals simp
@[simp] theorem requestCall_lineOkRisen (d : Nat) (b : CallBody) (s : State) : (requestCall d b s).lnp.lineOkRisen = s.lnp.lineOkRisen := by
  unfold requestCall; try dsimp only
  repeat' split
  all_goals simp

@[simp] theorem sendLetGo_station (s : State) : (sendLetGo s).lnp.station = s.lnp.station := by
  unfold sendLetGo; try dsimp only
  repeat' split
  all_goals simp
@[simp] theorem sendLetGo_side (s : State) : (sendLetGo s).lnp.side = s.lnp.side := by
  unfold sendLetGo; try dsimp only
  repeat' split
  all_goals simp
@[simp] theorem sendLetGo_peers (s : State) : (sendLetGo s).lnp.peers = s.lnp.peers := by
  unfold sendLetGo; try dsimp only
  repeat' split
  all_goals simp
@[simp] theorem sendLetGo_announceTimer (s : State) : (sendLetGo s).lnp.announceTimer = s.lnp.announceTimer := by
  unfold sendLetGo; try dsimp only
  repeat' split
  all_goals simp
@[simp] theorem sendLetGo_lineOkRisen (s : State) : (sendLetGo s).lnp.lineOkRisen = s.lnp.lineOkRisen := by
  unfold sendLetGo; try dsimp only
  repeat' split
  all_goals simp

@[simp] theorem stopRegulation_calls (s : State) : (stopRegulation s).lnp.calls = s.lnp.calls := by
  unfold stopRegulation; try dsimp only
  repeat' split
  all_goals simp
@[simp] theorem stopRegulation_station (s : State) : (stopRegulation s).lnp.station = s.lnp.station := by
  unfold stopRegulation; try dsimp only
  repeat' split
  all_goals simp
@[simp] theorem stopRegulation_side (s : State) : (stopRegulation s).lnp.side = s.lnp.side := by
  unfold stopRegulation; try dsimp only
  repeat' split
  all_goals simp
@[simp] theorem stopRegulation_peers (s : State) : (stopRegulation s).lnp.peers = s.lnp.peers := by
  unfold stopRegulation; try dsimp only
  repeat' split
  all_goals simp
@[simp] theorem stopRegulation_announceTimer (s : State) : (stopRegulation s).lnp.announceTimer = s.lnp.announceTimer := by
  unfold stopRegulation; try dsimp only
  repeat' split
  all_goals simp
@[simp] theorem stopRegulation_lineOkRisen (s : State) : (stopRegulation s).lnp.lineOkRisen = s.lnp.lineOkRisen := by
  unfold stopRegulation; try dsimp only
  repeat' split
  all_goals simp

@[simp] theorem stopTensor_calls (s : State) : (stopTensor s).lnp.calls = s.lnp.calls := by
  unfold stopTensor; try dsimp only
  repeat' split
  all_goals simp
@[simp] theorem stopTensor_station (s : State) : (stopTensor s).lnp.station = s.lnp.station := by
  unfold stopTensor; try dsimp only
  repeat' split
  all_goals simp
@[simp] theorem stopTensor_side (s : State) : (stopTensor s).lnp.side = s.lnp.side := by
  unfold stopTensor; try dsimp only
  repeat' split
  all_goals simp
@[simp] theorem stopTensor_peers (s : State) : (stopTensor s).lnp.peers = s.lnp.peers := by
  unfold stopTensor; try dsimp only
  repeat' split
  all_goals simp
@[simp] theorem stopTensor_announceTimer (s : State) : (stopTensor s).lnp.announceTimer = s.lnp.announceTimer := by
  unfold stopTensor; try dsimp only
  repeat' split
  all_goals simp
@[simp] theorem stopTensor_lineOkRisen (s : State) : (stopTensor s).lnp.lineOkRisen = s.lnp.lineOkRisen := by
  unfold stopTensor; try dsimp only
  repeat' split
  all_goals simp

@[simp] theorem makeSafe_station (s : State) : (makeSafe s).lnp.station = s.lnp.station := by
  unfold makeSafe; try dsimp only
  repeat' split
  all_goals simp
@[simp] theorem makeSafe_side (s : State) : (makeSafe s).lnp.side = s.lnp.side := by
  unfold makeSafe; try dsimp only
  repeat' split
  all_goals simp
@[simp] theorem makeSafe_peers (s : State) : (makeSafe s).lnp.peers = s.lnp.peers := by
  unfold makeSafe; try dsimp only
  repeat' split
  all_goals simp
@[simp] theorem makeSafe_announceTimer (s : State) : (makeSafe s).lnp.announceTimer = s.lnp.announceTimer := by
  unfold makeSafe; try dsimp only
  repeat' split
  all_goals simp
@[simp] theorem makeSafe_lineOkRisen (s : State) : (makeSafe s).lnp.lineOkRisen = s.lnp.lineOkRisen := by
  unfold makeSafe; try dsimp only
  repeat' split
  all_goals simp

@[simp] theorem abortWeld_station (k : FaultKind) (i : Option Int) (s : State) : (abortWeld k i s).lnp.station = s.lnp.station := by
  unfold abortWeld; try dsimp only
  repeat' split
  all_goals simp
@[simp] theorem abortWeld_side (k : FaultKind) (i : Option Int) (s : State) : (abortWeld k i s).lnp.side = s.lnp.side := by
  unfold abortWeld; try dsimp only
  repeat' split
  all_goals simp
@[simp] theorem abortWeld_peers (k : FaultKind) (i : Option Int) (s : State) : (abortWeld k i s).lnp.peers = s.lnp.peers := by
  unfold abortWeld; try dsimp only
  repeat' split
  all_goals simp
@[simp] theorem abortWeld_announceTimer (k : FaultKind) (i : Option Int) (s : State) : (abortWeld k i s).lnp.announceTimer = s.lnp.announceTimer := by
  unfold abortWeld; try dsimp only
  repeat' split
  all_goals simp
@[simp] theorem abortWeld_lineOkRisen (k : FaultKind) (i : Option Int) (s : State) : (abortWeld k i s).lnp.lineOkRisen = s.lnp.lineOkRisen := by
  unfold abortWeld; try dsimp only
  repeat' split
  all_goals simp

@[simp] theorem takeFault_station (k : FaultKind) (i : Option Int) (s : State) : (takeFault k i s).lnp.station = s.lnp.station := by
  unfold takeFault; try dsimp only
  repeat' split
  all_goals simp
@[simp] theorem takeFault_side (k : FaultKind) (i : Option Int) (s : State) : (takeFault k i s).lnp.side = s.lnp.side := by
  unfold takeFault; try dsimp only
  repeat' split
  all_goals simp
@[simp] theorem takeFault_peers (k : FaultKind) (i : Option Int) (s : State) : (takeFault k i s).lnp.peers = s.lnp.peers := by
  unfold takeFault; try dsimp only
  repeat' split
  all_goals simp
@[simp] theorem takeFault_announceTimer (k : FaultKind) (i : Option Int) (s : State) : (takeFault k i s).lnp.announceTimer = s.lnp.announceTimer := by
  unfold takeFault; try dsimp only
  repeat' split
  all_goals simp
@[simp] theorem takeFault_lineOkRisen (k : FaultKind) (i : Option Int) (s : State) : (takeFault k i s).lnp.lineOkRisen = s.lnp.lineOkRisen := by
  unfold takeFault; try dsimp only
  repeat' split
  all_goals simp

@[simp] theorem enterLate_calls (k : FaultKind) (i : Option Int) (s : State) : (enterLate k i s).lnp.calls = s.lnp.calls := by
  unfold enterLate; try dsimp only
  repeat' split
  all_goals simp
@[simp] theorem enterLate_station (k : FaultKind) (i : Option Int) (s : State) : (enterLate k i s).lnp.station = s.lnp.station := by
  unfold enterLate; try dsimp only
  repeat' split
  all_goals simp
@[simp] theorem enterLate_side (k : FaultKind) (i : Option Int) (s : State) : (enterLate k i s).lnp.side = s.lnp.side := by
  unfold enterLate; try dsimp only
  repeat' split
  all_goals simp
@[simp] theorem enterLate_peers (k : FaultKind) (i : Option Int) (s : State) : (enterLate k i s).lnp.peers = s.lnp.peers := by
  unfold enterLate; try dsimp only
  repeat' split
  all_goals simp
@[simp] theorem enterLate_announceTimer (k : FaultKind) (i : Option Int) (s : State) : (enterLate k i s).lnp.announceTimer = s.lnp.announceTimer := by
  unfold enterLate; try dsimp only
  repeat' split
  all_goals simp
@[simp] theorem enterLate_lineOkRisen (k : FaultKind) (i : Option Int) (s : State) : (enterLate k i s).lnp.lineOkRisen = s.lnp.lineOkRisen := by
  unfold enterLate; try dsimp only
  repeat' split
  all_goals simp

@[simp] theorem stopWeld_station (k : FaultKind) (s : State) : (stopWeld k s).lnp.station = s.lnp.station := by
  unfold stopWeld; try dsimp only
  repeat' split
  all_goals simp
@[simp] theorem stopWeld_side (k : FaultKind) (s : State) : (stopWeld k s).lnp.side = s.lnp.side := by
  unfold stopWeld; try dsimp only
  repeat' split
  all_goals simp
@[simp] theorem stopWeld_peers (k : FaultKind) (s : State) : (stopWeld k s).lnp.peers = s.lnp.peers := by
  unfold stopWeld; try dsimp only
  repeat' split
  all_goals simp
@[simp] theorem stopWeld_announceTimer (k : FaultKind) (s : State) : (stopWeld k s).lnp.announceTimer = s.lnp.announceTimer := by
  unfold stopWeld; try dsimp only
  repeat' split
  all_goals simp
@[simp] theorem stopWeld_lineOkRisen (k : FaultKind) (s : State) : (stopWeld k s).lnp.lineOkRisen = s.lnp.lineOkRisen := by
  unfold stopWeld; try dsimp only
  repeat' split
  all_goals simp

@[simp] theorem takeStationFault_station (k : FaultKind) (i : Option Int) (s : State) : (takeStationFault k i s).lnp.station = s.lnp.station := by
  unfold takeStationFault; try dsimp only
  repeat' split
  all_goals simp
@[simp] theorem takeStationFault_side (k : FaultKind) (i : Option Int) (s : State) : (takeStationFault k i s).lnp.side = s.lnp.side := by
  unfold takeStationFault; try dsimp only
  repeat' split
  all_goals simp
@[simp] theorem takeStationFault_peers (k : FaultKind) (i : Option Int) (s : State) : (takeStationFault k i s).lnp.peers = s.lnp.peers := by
  unfold takeStationFault; try dsimp only
  repeat' split
  all_goals simp
@[simp] theorem takeStationFault_announceTimer (k : FaultKind) (i : Option Int) (s : State) : (takeStationFault k i s).lnp.announceTimer = s.lnp.announceTimer := by
  unfold takeStationFault; try dsimp only
  repeat' split
  all_goals simp
@[simp] theorem takeStationFault_lineOkRisen (k : FaultKind) (i : Option Int) (s : State) : (takeStationFault k i s).lnp.lineOkRisen = s.lnp.lineOkRisen := by
  unfold takeStationFault; try dsimp only
  repeat' split
  all_goals simp

/-! ### The capture program -/

theorem runDescriptor_program (d : Nat) (desc : Descriptor) (s : State) : (runDescriptor d desc s).cap.program = s.cap.program := by
  unfold runDescriptor; dsimp only
  split <;> rfl

theorem runChain_program (n d : Nat) (seen : List Nat) (s : State) : (runChain n d seen s).cap.program = s.cap.program := by
  induction n generalizing d seen s with
  | zero => rfl
  | succ n ih =>
    simp only [runChain]
    repeat' split
    all_goals first | rfl | exact runDescriptor_program _ _ _ | rw [ih, runDescriptor_program]

@[simp] theorem activate_program (c : Source) (s : State) : (activate c s).cap.program = s.cap.program := by
  unfold activate
  repeat' split
  all_goals first | rfl | exact runChain_program _ _ _ _

theorem runDescriptor_tick (d : Nat) (desc : Descriptor) (s : State) : (runDescriptor d desc s).cap.tick = s.cap.tick := by
  unfold runDescriptor; dsimp only
  split <;> rfl

theorem runChain_tick (n d : Nat) (seen : List Nat) (s : State) : (runChain n d seen s).cap.tick = s.cap.tick := by
  induction n generalizing d seen s with
  | zero => rfl
  | succ n ih =>
    simp only [runChain]
    repeat' split
    all_goals first | rfl | exact runDescriptor_tick _ _ _ | rw [ih, runDescriptor_tick]

@[simp] theorem activate_tick (c : Source) (s : State) : (activate c s).cap.tick = s.cap.tick := by
  unfold activate
  repeat' split
  all_goals first | rfl | exact runChain_tick _ _ _ _

theorem runDescriptor_waiting (d : Nat) (desc : Descriptor) (s : State) : (runDescriptor d desc s).cap.waiting = s.cap.waiting := by
  unfold runDescriptor; dsimp only
  split <;> rfl

theorem runChain_waiting (n d : Nat) (seen : List Nat) (s : State) : (runChain n d seen s).cap.waiting = s.cap.waiting := by
  induction n generalizing d seen s with
  | zero => rfl
  | succ n ih =>
    simp only [runChain]
    repeat' split
    all_goals first | rfl | exact runDescriptor_waiting _ _ _ | rw [ih, runDescriptor_waiting]

@[simp] theorem activate_waiting (c : Source) (s : State) : (activate c s).cap.waiting = s.cap.waiting := by
  unfold activate
  repeat' split
  all_goals first | rfl | exact runChain_waiting _ _ _ _

@[simp] theorem setOwnClaim_program (v : Nat) (s : State) : (setOwnClaim v s).cap.program = s.cap.program := by
  unfold setOwnClaim; try dsimp only
  repeat' split
  all_goals simp
@[simp] theorem setOwnClaim_tick (v : Nat) (s : State) : (setOwnClaim v s).cap.tick = s.cap.tick := by
  unfold setOwnClaim; try dsimp only
  repeat' split
  all_goals simp
@[simp] theorem setOwnClaim_waiting (v : Nat) (s : State) : (setOwnClaim v s).cap.waiting = s.cap.waiting := by
  unfold setOwnClaim; try dsimp only
  repeat' split
  all_goals simp

@[simp] theorem yieldOwnClaim_program (s : State) : (yieldOwnClaim s).cap.program = s.cap.program := by
  unfold yieldOwnClaim; try dsimp only
  repeat' split
  all_goals simp
@[simp] theorem yieldOwnClaim_tick (s : State) : (yieldOwnClaim s).cap.tick = s.cap.tick := by
  unfold yieldOwnClaim; try dsimp only
  repeat' split
  all_goals simp
@[simp] theorem yieldOwnClaim_waiting (s : State) : (yieldOwnClaim s).cap.waiting = s.cap.waiting := by
  unfold yieldOwnClaim; try dsimp only
  repeat' split
  all_goals simp

@[simp] theorem enterFaultAs_program (p : SeqState) (k : FaultKind) (i : Option Int) (s : State) : (enterFaultAs p k i s).cap.program = s.cap.program := by
  unfold enterFaultAs; try dsimp only
  repeat' split
  all_goals simp
@[simp] theorem enterFaultAs_tick (p : SeqState) (k : FaultKind) (i : Option Int) (s : State) : (enterFaultAs p k i s).cap.tick = s.cap.tick := by
  unfold enterFaultAs; try dsimp only
  repeat' split
  all_goals simp
@[simp] theorem enterFaultAs_waiting (p : SeqState) (k : FaultKind) (i : Option Int) (s : State) : (enterFaultAs p k i s).cap.waiting = s.cap.waiting := by
  unfold enterFaultAs; try dsimp only
  repeat' split
  all_goals simp

@[simp] theorem enterFault_program (k : FaultKind) (i : Option Int) (s : State) : (enterFault k i s).cap.program = s.cap.program := by
  unfold enterFault; try dsimp only
  repeat' split
  all_goals simp
@[simp] theorem enterFault_tick (k : FaultKind) (i : Option Int) (s : State) : (enterFault k i s).cap.tick = s.cap.tick := by
  unfold enterFault; try dsimp only
  repeat' split
  all_goals simp
@[simp] theorem enterFault_waiting (k : FaultKind) (i : Option Int) (s : State) : (enterFault k i s).cap.waiting = s.cap.waiting := by
  unfold enterFault; try dsimp only
  repeat' split
  all_goals simp

@[simp] theorem enterState_program (st : SeqState) (s : State) : (enterState st s).cap.program = s.cap.program := by
  unfold enterState; try dsimp only
  repeat' split
  all_goals simp
@[simp] theorem enterState_tick (st : SeqState) (s : State) : (enterState st s).cap.tick = s.cap.tick := by
  unfold enterState; try dsimp only
  repeat' split
  all_goals simp
@[simp] theorem enterState_waiting (st : SeqState) (s : State) : (enterState st s).cap.waiting = s.cap.waiting := by
  unfold enterState; try dsimp only
  repeat' split
  all_goals simp

@[simp] theorem makeSafe_program (s : State) : (makeSafe s).cap.program = s.cap.program := by
  unfold makeSafe; try dsimp only
  repeat' split
  all_goals simp
@[simp] theorem makeSafe_tick (s : State) : (makeSafe s).cap.tick = s.cap.tick := by
  unfold makeSafe; try dsimp only
  repeat' split
  all_goals simp
@[simp] theorem makeSafe_waiting (s : State) : (makeSafe s).cap.waiting = s.cap.waiting := by
  unfold makeSafe; try dsimp only
  repeat' split
  all_goals simp

@[simp] theorem abortWeld_program (k : FaultKind) (i : Option Int) (s : State) : (abortWeld k i s).cap.program = s.cap.program := by
  unfold abortWeld; try dsimp only
  repeat' split
  all_goals simp
@[simp] theorem abortWeld_tick (k : FaultKind) (i : Option Int) (s : State) : (abortWeld k i s).cap.tick = s.cap.tick := by
  unfold abortWeld; try dsimp only
  repeat' split
  all_goals simp
@[simp] theorem abortWeld_waiting (k : FaultKind) (i : Option Int) (s : State) : (abortWeld k i s).cap.waiting = s.cap.waiting := by
  unfold abortWeld; try dsimp only
  repeat' split
  all_goals simp

@[simp] theorem takeFault_program (k : FaultKind) (i : Option Int) (s : State) : (takeFault k i s).cap.program = s.cap.program := by
  unfold takeFault; try dsimp only
  repeat' split
  all_goals simp
@[simp] theorem takeFault_tick (k : FaultKind) (i : Option Int) (s : State) : (takeFault k i s).cap.tick = s.cap.tick := by
  unfold takeFault; try dsimp only
  repeat' split
  all_goals simp
@[simp] theorem takeFault_waiting (k : FaultKind) (i : Option Int) (s : State) : (takeFault k i s).cap.waiting = s.cap.waiting := by
  unfold takeFault; try dsimp only
  repeat' split
  all_goals simp

@[simp] theorem enterLate_program (k : FaultKind) (i : Option Int) (s : State) : (enterLate k i s).cap.program = s.cap.program := by
  unfold enterLate; try dsimp only
  repeat' split
  all_goals simp
@[simp] theorem enterLate_tick (k : FaultKind) (i : Option Int) (s : State) : (enterLate k i s).cap.tick = s.cap.tick := by
  unfold enterLate; try dsimp only
  repeat' split
  all_goals simp
@[simp] theorem enterLate_waiting (k : FaultKind) (i : Option Int) (s : State) : (enterLate k i s).cap.waiting = s.cap.waiting := by
  unfold enterLate; try dsimp only
  repeat' split
  all_goals simp

@[simp] theorem stopWeld_program (k : FaultKind) (s : State) : (stopWeld k s).cap.program = s.cap.program := by
  unfold stopWeld; try dsimp only
  repeat' split
  all_goals simp
@[simp] theorem stopWeld_tick (k : FaultKind) (s : State) : (stopWeld k s).cap.tick = s.cap.tick := by
  unfold stopWeld; try dsimp only
  repeat' split
  all_goals simp
@[simp] theorem stopWeld_waiting (k : FaultKind) (s : State) : (stopWeld k s).cap.waiting = s.cap.waiting := by
  unfold stopWeld; try dsimp only
  repeat' split
  all_goals simp

@[simp] theorem takeStationFault_program (k : FaultKind) (i : Option Int) (s : State) : (takeStationFault k i s).cap.program = s.cap.program := by
  unfold takeStationFault; try dsimp only
  repeat' split
  all_goals simp
@[simp] theorem takeStationFault_tick (k : FaultKind) (i : Option Int) (s : State) : (takeStationFault k i s).cap.tick = s.cap.tick := by
  unfold takeStationFault; try dsimp only
  repeat' split
  all_goals simp
@[simp] theorem takeStationFault_waiting (k : FaultKind) (i : Option Int) (s : State) : (takeStationFault k i s).cap.waiting = s.cap.waiting := by
  unfold takeStationFault; try dsimp only
  repeat' split
  all_goals simp

/-! ### The operations every family shares -/

theorem runDescriptor_faultsOk (d : Nat) (desc : Descriptor) (s : State) :
    faultsOk (runDescriptor d desc s).ctx = faultsOk s.ctx := by
  unfold runDescriptor; dsimp only
  split <;> simp

theorem runChain_faultsOk (n d : Nat) (seen : List Nat) (s : State) :
    faultsOk (runChain n d seen s).ctx = faultsOk s.ctx := by
  induction n generalizing d seen s with
  | zero => rfl
  | succ n ih =>
    simp only [runChain]
    repeat' split
    all_goals first | rfl | exact runDescriptor_faultsOk _ _ _ | rw [ih, runDescriptor_faultsOk]

theorem activate_ctx_faults (c : Source) (s : State) : faultsOk (activate c s).ctx = faultsOk s.ctx := by
  unfold activate
  repeat' split
  all_goals first | rfl | exact runChain_faultsOk _ _ _ _

@[simp] theorem requestAnnounce_queue (s : State) (h : queueOk s.lnp.queue = true) :
    queueOk (requestAnnounce s).lnp.queue = true := wantAnnounce_ok _ _ h

@[simp] theorem announceChange_queue (s : State) (h : queueOk s.lnp.queue = true) :
    queueOk (announceChange s).lnp.queue = true := by
  unfold announceChange; try dsimp only
  repeat' split
  all_goals first | exact h | simp (maxDischargeDepth := 30) [h]

@[simp] theorem logFault_queue (k : FaultKind) (w : Option Nat) (i : Option Int) (s : State) (h : queueOk s.lnp.queue = true) :
    queueOk (logFault k w i s).lnp.queue = true := by
  unfold logFault; try dsimp only
  repeat' split
  all_goals first | exact h | simp (maxDischargeDepth := 30) [h]

@[simp] theorem lineFault_queue (f : OutFrame) (s : State) (h : queueOk s.lnp.queue = true) :
    queueOk (lineFault f s).lnp.queue = true := by
  unfold lineFault; try dsimp only
  repeat' split
  all_goals first | exact h | simp (maxDischargeDepth := 30) [h]

@[simp] theorem activate_faults (c : Source) (s : State) (h : faultsOk s.ctx = true) :
    faultsOk (activate c s).ctx = true := by
  rw [activate_ctx_faults]; exact h

@[simp] theorem offer_queue (f : OutFrame) (s : State) (hf : f ≠ .announce) (h : queueOk s.lnp.queue = true) :
    queueOk (offer f s).lnp.queue = true := by
  unfold offer
  split
  · exact h
  · split
    · exact join_ok f s.lnp hf (by assumption) h
    · simp [h]


@[simp] theorem sendClaim_queue (s : State) (h : queueOk s.lnp.queue = true) :
    queueOk (sendClaim s).lnp.queue = true := by
  unfold sendClaim; try dsimp only
  repeat' split
  all_goals first | exact h | simp (maxDischargeDepth := 30) [h]

@[simp] theorem setOwnClaim_memory (v : Nat) (s : State) (h : s.cap.memory.wf = true) :
    (setOwnClaim v s).cap.memory.wf = true := by
  unfold setOwnClaim; try dsimp only
  repeat' split
  all_goals first | exact h | simp (maxDischargeDepth := 30) [h]
@[simp] theorem setOwnClaim_queue (v : Nat) (s : State) (h : queueOk s.lnp.queue = true) :
    queueOk (setOwnClaim v s).lnp.queue = true := by
  unfold setOwnClaim; try dsimp only
  repeat' split
  all_goals first | exact h | simp (maxDischargeDepth := 30) [h]
@[simp] theorem setOwnClaim_faults (v : Nat) (s : State) (h : faultsOk s.ctx = true) :
    faultsOk (setOwnClaim v s).ctx = true := by
  unfold setOwnClaim; try dsimp only
  repeat' split
  all_goals first | exact h | simp (maxDischargeDepth := 30) [h]

@[simp] theorem yieldOwnClaim_memory (s : State) (h : s.cap.memory.wf = true) :
    (yieldOwnClaim s).cap.memory.wf = true := by
  unfold yieldOwnClaim; try dsimp only
  repeat' split
  all_goals first | exact h | simp (maxDischargeDepth := 30) [h]
@[simp] theorem yieldOwnClaim_queue (s : State) (h : queueOk s.lnp.queue = true) :
    queueOk (yieldOwnClaim s).lnp.queue = true := by
  unfold yieldOwnClaim; try dsimp only
  repeat' split
  all_goals first | exact h | simp (maxDischargeDepth := 30) [h]
@[simp] theorem yieldOwnClaim_faults (s : State) (h : faultsOk s.ctx = true) :
    faultsOk (yieldOwnClaim s).ctx = true := by
  unfold yieldOwnClaim; try dsimp only
  repeat' split
  all_goals first | exact h | simp (maxDischargeDepth := 30) [h]

@[simp] theorem enterFaultAs_memory (p : SeqState) (k : FaultKind) (i : Option Int) (s : State) (h : s.cap.memory.wf = true) :
    (enterFaultAs p k i s).cap.memory.wf = true := by
  unfold enterFaultAs; try dsimp only
  repeat' split
  all_goals first | exact h | simp (maxDischargeDepth := 30) [h]
@[simp] theorem enterFaultAs_queue (p : SeqState) (k : FaultKind) (i : Option Int) (s : State) (h : queueOk s.lnp.queue = true) :
    queueOk (enterFaultAs p k i s).lnp.queue = true := by
  unfold enterFaultAs; try dsimp only
  repeat' split
  all_goals first | exact h | simp (maxDischargeDepth := 30) [h]
@[simp] theorem enterFaultAs_faults (p : SeqState) (k : FaultKind) (i : Option Int) (s : State) (h : faultsOk s.ctx = true) :
    faultsOk (enterFaultAs p k i s).ctx = true := by
  unfold enterFaultAs
  split
  · simp [h]
  · rename_i c hc
    have hk := addFault_ok k p c (by rw [← hc]; exact h)
    dsimp only
    split <;> simp [hk]

@[simp] theorem enterFault_memory (k : FaultKind) (i : Option Int) (s : State) (h : s.cap.memory.wf = true) :
    (enterFault k i s).cap.memory.wf = true := by
  unfold enterFault; try dsimp only
  repeat' split
  all_goals first | exact h | simp (maxDischargeDepth := 30) [h]
@[simp] theorem enterFault_queue (k : FaultKind) (i : Option Int) (s : State) (h : queueOk s.lnp.queue = true) :
    queueOk (enterFault k i s).lnp.queue = true := by
  unfold enterFault; try dsimp only
  repeat' split
  all_goals first | exact h | simp (maxDischargeDepth := 30) [h]
@[simp] theorem enterFault_faults (k : FaultKind) (i : Option Int) (s : State) (h : faultsOk s.ctx = true) :
    faultsOk (enterFault k i s).ctx = true := by
  unfold enterFault; try dsimp only
  repeat' split
  all_goals first | exact h | simp (maxDischargeDepth := 30) [h]

@[simp] theorem enterState_memory (st : SeqState) (s : State) (h : s.cap.memory.wf = true) :
    (enterState st s).cap.memory.wf = true := by
  unfold enterState; try dsimp only
  repeat' split
  all_goals first | exact h | simp (maxDischargeDepth := 30) [h]
@[simp] theorem enterState_queue (st : SeqState) (s : State) (h : queueOk s.lnp.queue = true) :
    queueOk (enterState st s).lnp.queue = true := by
  unfold enterState; try dsimp only
  repeat' split
  all_goals first | exact h | simp (maxDischargeDepth := 30) [h]
@[simp] theorem enterState_faults (st : SeqState) (s : State) (h : faultsOk s.ctx = true) :
    faultsOk (enterState st s).ctx = true := by
  unfold enterState
  simp only [announceChange_ctx]
  refine activate_faults _ _ ?_
  rw [← faultsOk_map (fun c => if st.forward then { c with phaseReached := st } else c) s.ctx (by intro c; split <;> rfl)] at h
  exact h

@[simp] theorem requestCall_queue (d : Nat) (b : CallBody) (s : State) (h : queueOk s.lnp.queue = true) :
    queueOk (requestCall d b s).lnp.queue = true := by
  unfold requestCall; try dsimp only
  repeat' split
  all_goals first | exact h | simp (maxDischargeDepth := 30) [h]
@[simp] theorem requestCall_calls (d : Nat) (b : CallBody) (s : State) (h : callsOk s.lnp.calls = true) :
    callsOk (requestCall d b s).lnp.calls = true := by
  unfold requestCall; try dsimp only
  repeat' split
  all_goals first | exact h | (simp [h]; done) | skip
  all_goals
    rename_i h1 h2 h3
    simp [Lnp.callAllowed] at h1
    simp [callsOk] at h ⊢
    refine ⟨by omega, ?_⟩
    rw [List.nodup_append]
    refine ⟨h.2, by simp, ?_⟩
    intro a ha b hb hab
    obtain ⟨x, hx, rfl⟩ := List.mem_map.mp ha
    simp at hb
    exact h1.2 x hx (by rw [hab, hb])

@[simp] theorem sendLetGo_queue (s : State) (h : queueOk s.lnp.queue = true) :
    queueOk (sendLetGo s).lnp.queue = true := by
  unfold sendLetGo; try dsimp only
  repeat' split
  all_goals first | exact h | simp (maxDischargeDepth := 30) [h]
@[simp] theorem sendLetGo_calls (s : State) (h : callsOk s.lnp.calls = true) :
    callsOk (sendLetGo s).lnp.calls = true := by
  unfold sendLetGo; try dsimp only
  repeat' split
  all_goals first | exact h | simp (maxDischargeDepth := 30) [h]

@[simp] theorem stopRegulation_faults (s : State) (h : faultsOk s.ctx = true) :
    faultsOk (stopRegulation s).ctx = true := by
  unfold stopRegulation; try dsimp only
  repeat' split
  all_goals first | exact h | simp (maxDischargeDepth := 30) [h]


@[simp] theorem makeSafe_memory (s : State) (h : s.cap.memory.wf = true) :
    (makeSafe s).cap.memory.wf = true := by
  unfold makeSafe; try dsimp only
  repeat' split
  all_goals first | exact h | simp (maxDischargeDepth := 30) [h]
@[simp] theorem makeSafe_queue (s : State) (h : queueOk s.lnp.queue = true) :
    queueOk (makeSafe s).lnp.queue = true := by
  unfold makeSafe; try dsimp only
  repeat' split
  all_goals first | exact h | simp (maxDischargeDepth := 30) [h]
@[simp] theorem makeSafe_calls (s : State) (h : callsOk s.lnp.calls = true) :
    callsOk (makeSafe s).lnp.calls = true := by
  unfold makeSafe; try dsimp only
  repeat' split
  all_goals first | exact h | simp (maxDischargeDepth := 30) [h]
@[simp] theorem makeSafe_faults (s : State) (h : faultsOk s.ctx = true) :
    faultsOk (makeSafe s).ctx = true := by
  unfold makeSafe; try dsimp only
  repeat' split
  all_goals first | exact h | simp (maxDischargeDepth := 30) [h]

@[simp] theorem abortWeld_memory (k : FaultKind) (i : Option Int) (s : State) (h : s.cap.memory.wf = true) :
    (abortWeld k i s).cap.memory.wf = true := by
  unfold abortWeld; try dsimp only
  repeat' split
  all_goals first | exact h | simp (maxDischargeDepth := 30) [h]
@[simp] theorem abortWeld_queue (k : FaultKind) (i : Option Int) (s : State) (h : queueOk s.lnp.queue = true) :
    queueOk (abortWeld k i s).lnp.queue = true := by
  unfold abortWeld; try dsimp only
  repeat' split
  all_goals first | exact h | simp (maxDischargeDepth := 30) [h]
@[simp] theorem abortWeld_calls (k : FaultKind) (i : Option Int) (s : State) (h : callsOk s.lnp.calls = true) :
    callsOk (abortWeld k i s).lnp.calls = true := by
  unfold abortWeld; try dsimp only
  repeat' split
  all_goals first | exact h | simp (maxDischargeDepth := 30) [h]
@[simp] theorem abortWeld_faults (k : FaultKind) (i : Option Int) (s : State) (h : faultsOk s.ctx = true) :
    faultsOk (abortWeld k i s).ctx = true := by
  unfold abortWeld; try dsimp only
  repeat' split
  all_goals first | exact h | simp (maxDischargeDepth := 30) [h]

@[simp] theorem takeFault_memory (k : FaultKind) (i : Option Int) (s : State) (h : s.cap.memory.wf = true) :
    (takeFault k i s).cap.memory.wf = true := by
  unfold takeFault; try dsimp only
  repeat' split
  all_goals first | exact h | simp (maxDischargeDepth := 30) [h]
@[simp] theorem takeFault_queue (k : FaultKind) (i : Option Int) (s : State) (h : queueOk s.lnp.queue = true) :
    queueOk (takeFault k i s).lnp.queue = true := by
  unfold takeFault; try dsimp only
  repeat' split
  all_goals first | exact h | simp (maxDischargeDepth := 30) [h]
@[simp] theorem takeFault_calls (k : FaultKind) (i : Option Int) (s : State) (h : callsOk s.lnp.calls = true) :
    callsOk (takeFault k i s).lnp.calls = true := by
  unfold takeFault; try dsimp only
  repeat' split
  all_goals first | exact h | simp (maxDischargeDepth := 30) [h]
@[simp] theorem takeFault_faults (k : FaultKind) (i : Option Int) (s : State) (h : faultsOk s.ctx = true) :
    faultsOk (takeFault k i s).ctx = true := by
  unfold takeFault; try dsimp only
  repeat' split
  all_goals first | exact h | simp (maxDischargeDepth := 30) [h]

@[simp] theorem enterLate_memory (k : FaultKind) (i : Option Int) (s : State) (h : s.cap.memory.wf = true) :
    (enterLate k i s).cap.memory.wf = true := by
  unfold enterLate; try dsimp only
  repeat' split
  all_goals first | exact h | simp (maxDischargeDepth := 30) [h]
@[simp] theorem enterLate_queue (k : FaultKind) (i : Option Int) (s : State) (h : queueOk s.lnp.queue = true) :
    queueOk (enterLate k i s).lnp.queue = true := by
  unfold enterLate; try dsimp only
  repeat' split
  all_goals first | exact h | simp (maxDischargeDepth := 30) [h]
@[simp] theorem enterLate_faults (k : FaultKind) (i : Option Int) (s : State) (h : faultsOk s.ctx = true) :
    faultsOk (enterLate k i s).ctx = true := by
  unfold enterLate; try dsimp only
  repeat' split
  all_goals first | exact h | simp (maxDischargeDepth := 30) [h]

@[simp] theorem stopWeld_memory (k : FaultKind) (s : State) (h : s.cap.memory.wf = true) :
    (stopWeld k s).cap.memory.wf = true := by
  unfold stopWeld; try dsimp only
  repeat' split
  all_goals first | exact h | simp (maxDischargeDepth := 30) [h]
@[simp] theorem stopWeld_queue (k : FaultKind) (s : State) (h : queueOk s.lnp.queue = true) :
    queueOk (stopWeld k s).lnp.queue = true := by
  unfold stopWeld; try dsimp only
  repeat' split
  all_goals first | exact h | simp (maxDischargeDepth := 30) [h]
@[simp] theorem stopWeld_calls (k : FaultKind) (s : State) (h : callsOk s.lnp.calls = true) :
    callsOk (stopWeld k s).lnp.calls = true := by
  unfold stopWeld; try dsimp only
  repeat' split
  all_goals first | exact h | simp (maxDischargeDepth := 30) [h]
@[simp] theorem stopWeld_faults (k : FaultKind) (s : State) (h : faultsOk s.ctx = true) :
    faultsOk (stopWeld k s).ctx = true := by
  unfold stopWeld; try dsimp only
  repeat' split
  all_goals first | exact h | simp (maxDischargeDepth := 30) [h]

@[simp] theorem takeStationFault_memory (k : FaultKind) (i : Option Int) (s : State) (h : s.cap.memory.wf = true) :
    (takeStationFault k i s).cap.memory.wf = true := by
  unfold takeStationFault; try dsimp only
  repeat' split
  all_goals first | exact h | simp (maxDischargeDepth := 30) [h]
@[simp] theorem takeStationFault_queue (k : FaultKind) (i : Option Int) (s : State) (h : queueOk s.lnp.queue = true) :
    queueOk (takeStationFault k i s).lnp.queue = true := by
  unfold takeStationFault; try dsimp only
  repeat' split
  all_goals first | exact h | simp (maxDischargeDepth := 30) [h]
@[simp] theorem takeStationFault_calls (k : FaultKind) (i : Option Int) (s : State) (h : callsOk s.lnp.calls = true) :
    callsOk (takeStationFault k i s).lnp.calls = true := by
  unfold takeStationFault; try dsimp only
  repeat' split
  all_goals first | exact h | simp (maxDischargeDepth := 30) [h]
@[simp] theorem takeStationFault_faults (k : FaultKind) (i : Option Int) (s : State) (h : faultsOk s.ctx = true) :
    faultsOk (takeStationFault k i s).ctx = true := by
  unfold takeStationFault; try dsimp only
  repeat' split
  all_goals first | exact h | simp (maxDischargeDepth := 30) [h]

@[simp] theorem callsOk_filter (p : CallRecord → Bool) (cs : List CallRecord) (h : callsOk cs = true) :
    callsOk (cs.filter p) = true := by
  simp only [callsOk, Bool.and_eq_true, decide_eq_true_eq] at h ⊢
  exact ⟨le_trans (List.length_filter_le _ _) h.1, h.2.sublist (List.filter_sublist.map _)⟩

theorem callsOk_map (f : CallRecord → CallRecord) (hf : ∀ r, (f r).dest = r.dest) (cs : List CallRecord)
    (h : callsOk cs = true) : callsOk (cs.map f) = true := by
  have he : (cs.map f).map (·.dest) = cs.map (·.dest) := by
    simp only [List.map_map]
    exact List.map_congr_left (fun r _ => hf r)
  simpa [callsOk, he] using h

@[simp] theorem callsOk_nil : callsOk [] = true := rfl

@[simp] theorem queueOk_nil : queueOk [] = true := rfl

theorem queueOk_tail (f : OutFrame) (q : List OutFrame) (h : queueOk (f :: q) = true) : queueOk q = true := by
  simp only [queueOk, Bool.and_eq_true, decide_eq_true_eq, List.length_cons, List.count_cons] at h ⊢
  exact ⟨by omega, by omega⟩

@[simp] theorem takeProgram_memory (p : Program) (c : Cap) : (c.takeProgram p).memory.wf = true := rfl

@[simp] theorem accept_memory (c : Cap) : c.accept.memory.wf = true := rfl

@[simp] theorem takeWaiting_memory (c : Cap) (h : c.memory.wf = true) : c.takeWaiting.memory.wf = true := by
  unfold Cap.takeWaiting
  cases c.waiting <;> simp [h]

@[simp] theorem setRow_queue (n : Nat) (r : PeerRow) (s : State) : (s.setRow n r).lnp.queue = s.lnp.queue := by
  unfold State.setRow; split <;> rfl

@[simp] theorem setRow_calls (n : Nat) (r : PeerRow) (s : State) : (s.setRow n r).lnp.calls = s.lnp.calls := by
  unfold State.setRow; split <;> rfl

/-! ### The operations of a weld, of the claim, of the tensor and of the peer view -/

@[simp] theorem claimAmount_memory (a : Nat) (s : State) (h : s.cap.memory.wf = true) :
    (claimAmount a s).cap.memory.wf = true := by
  unfold claimAmount; try dsimp only
  repeat' split
  all_goals first | exact h | simp (maxDischargeDepth := 30) [h]
@[simp] theorem claimAmount_queue (a : Nat) (s : State) (h : queueOk s.lnp.queue = true) :
    queueOk (claimAmount a s).lnp.queue = true := by
  unfold claimAmount; try dsimp only
  repeat' split
  all_goals first | exact h | simp (maxDischargeDepth := 30) [h]
@[simp] theorem claimAmount_calls (a : Nat) (s : State) (h : callsOk s.lnp.calls = true) :
    callsOk (claimAmount a s).lnp.calls = true := by
  unfold claimAmount; try dsimp only
  repeat' split
  all_goals first | exact h | simp (maxDischargeDepth := 30) [h]
@[simp] theorem claimAmount_faults (a : Nat) (s : State) (h : faultsOk s.ctx = true) :
    faultsOk (claimAmount a s).ctx = true := by
  unfold claimAmount; try dsimp only
  repeat' split
  all_goals first | exact h | simp (maxDischargeDepth := 30) [h]

@[simp] theorem decideClaim_memory (s : State) (h : s.cap.memory.wf = true) :
    (decideClaim s).cap.memory.wf = true := by
  unfold decideClaim; try dsimp only
  repeat' split
  all_goals first | exact h | simp (maxDischargeDepth := 30) [h]
@[simp] theorem decideClaim_queue (s : State) (h : queueOk s.lnp.queue = true) :
    queueOk (decideClaim s).lnp.queue = true := by
  unfold decideClaim; try dsimp only
  repeat' split
  all_goals first | exact h | simp (maxDischargeDepth := 30) [h]
@[simp] theorem decideClaim_calls (s : State) (h : callsOk s.lnp.calls = true) :
    callsOk (decideClaim s).lnp.calls = true := by
  unfold decideClaim; try dsimp only
  repeat' split
  all_goals first | exact h | simp (maxDischargeDepth := 30) [h]
@[simp] theorem decideClaim_faults (s : State) (h : faultsOk s.ctx = true) :
    faultsOk (decideClaim s).ctx = true := by
  unfold decideClaim; try dsimp only
  repeat' split
  all_goals first | exact h | simp (maxDischargeDepth := 30) [h]

@[simp] theorem redecideClaim_memory (s : State) (h : s.cap.memory.wf = true) :
    (redecideClaim s).cap.memory.wf = true := by
  unfold redecideClaim; try dsimp only
  repeat' split
  all_goals first | exact h | simp (maxDischargeDepth := 30) [h]
@[simp] theorem redecideClaim_queue (s : State) (h : queueOk s.lnp.queue = true) :
    queueOk (redecideClaim s).lnp.queue = true := by
  unfold redecideClaim; try dsimp only
  repeat' split
  all_goals first | exact h | simp (maxDischargeDepth := 30) [h]
@[simp] theorem redecideClaim_calls (s : State) (h : callsOk s.lnp.calls = true) :
    callsOk (redecideClaim s).lnp.calls = true := by
  unfold redecideClaim; try dsimp only
  repeat' split
  all_goals first | exact h | simp (maxDischargeDepth := 30) [h]
@[simp] theorem redecideClaim_faults (s : State) (h : faultsOk s.ctx = true) :
    faultsOk (redecideClaim s).ctx = true := by
  unfold redecideClaim; try dsimp only
  repeat' split
  all_goals first | exact h | simp (maxDischargeDepth := 30) [h]

@[simp] theorem yieldToLower_memory (s : State) (h : s.cap.memory.wf = true) :
    (yieldToLower s).cap.memory.wf = true := by
  unfold yieldToLower; try dsimp only
  repeat' split
  all_goals first | exact h | simp (maxDischargeDepth := 30) [h]
@[simp] theorem yieldToLower_queue (s : State) (h : queueOk s.lnp.queue = true) :
    queueOk (yieldToLower s).lnp.queue = true := by
  unfold yieldToLower; try dsimp only
  repeat' split
  all_goals first | exact h | simp (maxDischargeDepth := 30) [h]
@[simp] theorem yieldToLower_calls (s : State) (h : callsOk s.lnp.calls = true) :
    callsOk (yieldToLower s).lnp.calls = true := by
  unfold yieldToLower; try dsimp only
  repeat' split
  all_goals first | exact h | simp (maxDischargeDepth := 30) [h]
@[simp] theorem yieldToLower_faults (s : State) (h : faultsOk s.ctx = true) :
    faultsOk (yieldToLower s).ctx = true := by
  unfold yieldToLower; try dsimp only
  repeat' split
  all_goals first | exact h | simp (maxDischargeDepth := 30) [h]

@[simp] theorem shrinkClaim_memory (a : Nat) (s : State) (h : s.cap.memory.wf = true) :
    (shrinkClaim a s).cap.memory.wf = true := by
  unfold shrinkClaim; try dsimp only
  repeat' split
  all_goals first | exact h | simp (maxDischargeDepth := 30) [h]
@[simp] theorem shrinkClaim_queue (a : Nat) (s : State) (h : queueOk s.lnp.queue = true) :
    queueOk (shrinkClaim a s).lnp.queue = true := by
  unfold shrinkClaim; try dsimp only
  repeat' split
  all_goals first | exact h | simp (maxDischargeDepth := 30) [h]
@[simp] theorem shrinkClaim_calls (a : Nat) (s : State) (h : callsOk s.lnp.calls = true) :
    callsOk (shrinkClaim a s).lnp.calls = true := by
  unfold shrinkClaim; try dsimp only
  repeat' split
  all_goals first | exact h | simp (maxDischargeDepth := 30) [h]
@[simp] theorem shrinkClaim_faults (a : Nat) (s : State) (h : faultsOk s.ctx = true) :
    faultsOk (shrinkClaim a s).ctx = true := by
  unfold shrinkClaim; try dsimp only
  repeat' split
  all_goals first | exact h | simp (maxDischargeDepth := 30) [h]

@[simp] theorem losePower_memory (i : Option Int) (s : State) (h : s.cap.memory.wf = true) :
    (losePower i s).cap.memory.wf = true := by
  unfold losePower; try dsimp only
  repeat' split
  all_goals first | exact h | simp (maxDischargeDepth := 30) [h]
@[simp] theorem losePower_queue (i : Option Int) (s : State) (h : queueOk s.lnp.queue = true) :
    queueOk (losePower i s).lnp.queue = true := by
  unfold losePower; try dsimp only
  repeat' split
  all_goals first | exact h | simp (maxDischargeDepth := 30) [h]
@[simp] theorem losePower_calls (i : Option Int) (s : State) (h : callsOk s.lnp.calls = true) :
    callsOk (losePower i s).lnp.calls = true := by
  unfold losePower; try dsimp only
  repeat' split
  all_goals first | exact h | simp (maxDischargeDepth := 30) [h]
@[simp] theorem losePower_faults (i : Option Int) (s : State) (h : faultsOk s.ctx = true) :
    faultsOk (losePower i s).ctx = true := by
  unfold losePower; try dsimp only
  repeat' split
  all_goals first | exact h | simp (maxDischargeDepth := 30) [h]

@[simp] theorem shortfall_memory (s : State) (h : s.cap.memory.wf = true) :
    (shortfall s).cap.memory.wf = true := by
  unfold shortfall; try dsimp only
  repeat' split
  all_goals first | exact h | simp (maxDischargeDepth := 30) [h]
@[simp] theorem shortfall_queue (s : State) (h : queueOk s.lnp.queue = true) :
    queueOk (shortfall s).lnp.queue = true := by
  unfold shortfall; try dsimp only
  repeat' split
  all_goals first | exact h | simp (maxDischargeDepth := 30) [h]
@[simp] theorem shortfall_calls (s : State) (h : callsOk s.lnp.calls = true) :
    callsOk (shortfall s).lnp.calls = true := by
  unfold shortfall; try dsimp only
  repeat' split
  all_goals first | exact h | simp (maxDischargeDepth := 30) [h]
@[simp] theorem shortfall_faults (s : State) (h : faultsOk s.ctx = true) :
    faultsOk (shortfall s).ctx = true := by
  unfold shortfall; try dsimp only
  repeat' split
  all_goals first | exact h | simp (maxDischargeDepth := 30) [h]

@[simp] theorem checkSpare_memory (s : State) (h : s.cap.memory.wf = true) :
    (checkSpare s).cap.memory.wf = true := by
  unfold checkSpare; try dsimp only
  repeat' split
  all_goals first | exact h | simp (maxDischargeDepth := 30) [h]
@[simp] theorem checkSpare_queue (s : State) (h : queueOk s.lnp.queue = true) :
    queueOk (checkSpare s).lnp.queue = true := by
  unfold checkSpare; try dsimp only
  repeat' split
  all_goals first | exact h | simp (maxDischargeDepth := 30) [h]
@[simp] theorem checkSpare_calls (s : State) (h : callsOk s.lnp.calls = true) :
    callsOk (checkSpare s).lnp.calls = true := by
  unfold checkSpare; try dsimp only
  repeat' split
  all_goals first | exact h | simp (maxDischargeDepth := 30) [h]
@[simp] theorem checkSpare_faults (s : State) (h : faultsOk s.ctx = true) :
    faultsOk (checkSpare s).ctx = true := by
  unfold checkSpare; try dsimp only
  repeat' split
  all_goals first | exact h | simp (maxDischargeDepth := 30) [h]

@[simp] theorem endShed_memory (s : State) (h : s.cap.memory.wf = true) :
    (endShed s).cap.memory.wf = true := by
  unfold endShed; try dsimp only
  repeat' split
  all_goals first | exact h | simp (maxDischargeDepth := 30) [h]
@[simp] theorem endShed_queue (s : State) (h : queueOk s.lnp.queue = true) :
    queueOk (endShed s).lnp.queue = true := by
  unfold endShed; try dsimp only
  repeat' split
  all_goals first | exact h | simp (maxDischargeDepth := 30) [h]
@[simp] theorem endShed_calls (s : State) (h : callsOk s.lnp.calls = true) :
    callsOk (endShed s).lnp.calls = true := by
  unfold endShed; try dsimp only
  repeat' split
  all_goals first | exact h | simp (maxDischargeDepth := 30) [h]
@[simp] theorem endShed_faults (s : State) (h : faultsOk s.ctx = true) :
    faultsOk (endShed s).ctx = true := by
  unfold endShed; try dsimp only
  repeat' split
  all_goals first | exact h | simp (maxDischargeDepth := 30) [h]

@[simp] theorem checkShed_memory (s : State) (h : s.cap.memory.wf = true) :
    (checkShed s).cap.memory.wf = true := by
  unfold checkShed; try dsimp only
  repeat' split
  all_goals first | exact h | simp (maxDischargeDepth := 30) [h]
@[simp] theorem checkShed_queue (s : State) (h : queueOk s.lnp.queue = true) :
    queueOk (checkShed s).lnp.queue = true := by
  unfold checkShed; try dsimp only
  repeat' split
  all_goals first | exact h | simp (maxDischargeDepth := 30) [h]
@[simp] theorem checkShed_calls (s : State) (h : callsOk s.lnp.calls = true) :
    callsOk (checkShed s).lnp.calls = true := by
  unfold checkShed; try dsimp only
  repeat' split
  all_goals first | exact h | simp (maxDischargeDepth := 30) [h]
@[simp] theorem checkShed_faults (s : State) (h : faultsOk s.ctx = true) :
    faultsOk (checkShed s).ctx = true := by
  unfold checkShed; try dsimp only
  repeat' split
  all_goals first | exact h | simp (maxDischargeDepth := 30) [h]

@[simp] theorem settleNotice_memory (n : Nat) (r f : Bool) (s : State) (h : s.cap.memory.wf = true) :
    (settleNotice n r f s).cap.memory.wf = true := by
  unfold settleNotice; try dsimp only
  repeat' split
  all_goals first | exact h | simp (maxDischargeDepth := 30) [h]
@[simp] theorem settleNotice_queue (n : Nat) (r f : Bool) (s : State) (h : queueOk s.lnp.queue = true) :
    queueOk (settleNotice n r f s).lnp.queue = true := by
  unfold settleNotice; try dsimp only
  repeat' split
  all_goals first | exact h | simp (maxDischargeDepth := 30) [h]
@[simp] theorem settleNotice_calls (n : Nat) (r f : Bool) (s : State) (h : callsOk s.lnp.calls = true) :
    callsOk (settleNotice n r f s).lnp.calls = true := by
  unfold settleNotice; try dsimp only
  repeat' split
  all_goals first | exact h | simp (maxDischargeDepth := 30) [h]
@[simp] theorem settleNotice_faults (n : Nat) (r f : Bool) (s : State) (h : faultsOk s.ctx = true) :
    faultsOk (settleNotice n r f s).ctx = true := by
  unfold settleNotice; try dsimp only
  repeat' split
  all_goals first | exact h | simp (maxDischargeDepth := 30) [h]

@[simp] theorem cluNotice_memory (b : State) (n : Nat) (s : State) (h : s.cap.memory.wf = true) :
    (cluNotice b n s).cap.memory.wf = true := by
  unfold cluNotice; try dsimp only
  repeat' split
  all_goals first | exact h | simp (maxDischargeDepth := 30) [h]
@[simp] theorem cluNotice_queue (b : State) (n : Nat) (s : State) (h : queueOk s.lnp.queue = true) :
    queueOk (cluNotice b n s).lnp.queue = true := by
  unfold cluNotice; try dsimp only
  repeat' split
  all_goals first | exact h | simp (maxDischargeDepth := 30) [h]
@[simp] theorem cluNotice_calls (b : State) (n : Nat) (s : State) (h : callsOk s.lnp.calls = true) :
    callsOk (cluNotice b n s).lnp.calls = true := by
  unfold cluNotice; try dsimp only
  repeat' split
  all_goals first | exact h | simp (maxDischargeDepth := 30) [h]
@[simp] theorem cluNotice_faults (b : State) (n : Nat) (s : State) (h : faultsOk s.ctx = true) :
    faultsOk (cluNotice b n s).ctx = true := by
  unfold cluNotice; try dsimp only
  repeat' split
  all_goals first | exact h | simp (maxDischargeDepth := 30) [h]

@[simp] theorem tellRoom_memory (s : State) (h : s.cap.memory.wf = true) :
    (tellRoom s).cap.memory.wf = true := by
  unfold tellRoom; try dsimp only
  repeat' split
  all_goals first | exact h | simp (maxDischargeDepth := 30) [h]
@[simp] theorem tellRoom_queue (s : State) (h : queueOk s.lnp.queue = true) :
    queueOk (tellRoom s).lnp.queue = true := by
  unfold tellRoom; try dsimp only
  repeat' split
  all_goals first | exact h | simp (maxDischargeDepth := 30) [h]
@[simp] theorem tellRoom_calls (s : State) (h : callsOk s.lnp.calls = true) :
    callsOk (tellRoom s).lnp.calls = true := by
  unfold tellRoom; try dsimp only
  repeat' split
  all_goals first | exact h | simp (maxDischargeDepth := 30) [h]
@[simp] theorem tellRoom_faults (s : State) (h : faultsOk s.ctx = true) :
    faultsOk (tellRoom s).ctx = true := by
  unfold tellRoom; try dsimp only
  repeat' split
  all_goals first | exact h | simp (maxDischargeDepth := 30) [h]

@[simp] theorem claimDiscarded_memory (n : Nat) (s : State) (h : s.cap.memory.wf = true) :
    (claimDiscarded n s).cap.memory.wf = true := by
  unfold claimDiscarded; try dsimp only
  repeat' split
  all_goals first | exact h | simp (maxDischargeDepth := 30) [h]
@[simp] theorem claimDiscarded_queue (n : Nat) (s : State) (h : queueOk s.lnp.queue = true) :
    queueOk (claimDiscarded n s).lnp.queue = true := by
  unfold claimDiscarded; try dsimp only
  repeat' split
  all_goals first | exact h | simp (maxDischargeDepth := 30) [h]
@[simp] theorem claimDiscarded_calls (n : Nat) (s : State) (h : callsOk s.lnp.calls = true) :
    callsOk (claimDiscarded n s).lnp.calls = true := by
  unfold claimDiscarded; try dsimp only
  repeat' split
  all_goals first | exact h | simp (maxDischargeDepth := 30) [h]
@[simp] theorem claimDiscarded_faults (n : Nat) (s : State) (h : faultsOk s.ctx = true) :
    faultsOk (claimDiscarded n s).ctx = true := by
  unfold claimDiscarded; try dsimp only
  repeat' split
  all_goals first | exact h | simp (maxDischargeDepth := 30) [h]

@[simp] theorem cluCleared_memory (s : State) (h : s.cap.memory.wf = true) :
    (cluCleared s).cap.memory.wf = true := by
  unfold cluCleared; try dsimp only
  repeat' split
  all_goals first | exact h | simp (maxDischargeDepth := 30) [h]
@[simp] theorem cluCleared_queue (s : State) (h : queueOk s.lnp.queue = true) :
    queueOk (cluCleared s).lnp.queue = true := by
  unfold cluCleared; try dsimp only
  repeat' split
  all_goals first | exact h | simp (maxDischargeDepth := 30) [h]
@[simp] theorem cluCleared_calls (s : State) (h : callsOk s.lnp.calls = true) :
    callsOk (cluCleared s).lnp.calls = true := by
  unfold cluCleared; try dsimp only
  repeat' split
  all_goals first | exact h | simp (maxDischargeDepth := 30) [h]
@[simp] theorem cluCleared_faults (s : State) (h : faultsOk s.ctx = true) :
    faultsOk (cluCleared s).ctx = true := by
  unfold cluCleared; try dsimp only
  repeat' split
  all_goals first | exact h | simp (maxDischargeDepth := 30) [h]

@[simp] theorem beginApproach_memory (s : State) (h : s.cap.memory.wf = true) :
    (beginApproach s).cap.memory.wf = true := by
  unfold beginApproach; try dsimp only
  repeat' split
  all_goals first | exact h | simp (maxDischargeDepth := 30) [h]
@[simp] theorem beginApproach_queue (s : State) (h : queueOk s.lnp.queue = true) :
    queueOk (beginApproach s).lnp.queue = true := by
  unfold beginApproach; try dsimp only
  repeat' split
  all_goals first | exact h | simp (maxDischargeDepth := 30) [h]
@[simp] theorem beginApproach_calls (s : State) (h : callsOk s.lnp.calls = true) :
    callsOk (beginApproach s).lnp.calls = true := by
  unfold beginApproach; try dsimp only
  repeat' split
  all_goals first | exact h | simp (maxDischargeDepth := 30) [h]
@[simp] theorem beginApproach_faults (s : State) (h : faultsOk s.ctx = true) :
    faultsOk (beginApproach s).ctx = true := by
  unfold beginApproach; try dsimp only
  repeat' split
  all_goals first | exact h | simp (maxDischargeDepth := 30) [h]

@[simp] theorem enterPreheat_memory (s : State) (h : s.cap.memory.wf = true) :
    (enterPreheat s).cap.memory.wf = true := by
  unfold enterPreheat; try dsimp only
  repeat' split
  all_goals first | exact h | simp (maxDischargeDepth := 30) [h]
@[simp] theorem enterPreheat_queue (s : State) (h : queueOk s.lnp.queue = true) :
    queueOk (enterPreheat s).lnp.queue = true := by
  unfold enterPreheat; try dsimp only
  repeat' split
  all_goals first | exact h | simp (maxDischargeDepth := 30) [h]
@[simp] theorem enterPreheat_calls (s : State) (h : callsOk s.lnp.calls = true) :
    callsOk (enterPreheat s).lnp.calls = true := by
  unfold enterPreheat; try dsimp only
  repeat' split
  all_goals first | exact h | simp (maxDischargeDepth := 30) [h]
@[simp] theorem enterPreheat_faults (s : State) (h : faultsOk s.ctx = true) :
    faultsOk (enterPreheat s).ctx = true := by
  unfold enterPreheat; try dsimp only
  repeat' split
  all_goals first | exact h | simp (maxDischargeDepth := 30) [h]

@[simp] theorem beginContact_memory (s : State) (h : s.cap.memory.wf = true) :
    (beginContact s).cap.memory.wf = true := by
  unfold beginContact; try dsimp only
  repeat' split
  all_goals first | exact h | simp (maxDischargeDepth := 30) [h]
@[simp] theorem beginContact_queue (s : State) (h : queueOk s.lnp.queue = true) :
    queueOk (beginContact s).lnp.queue = true := by
  unfold beginContact; try dsimp only
  repeat' split
  all_goals first | exact h | simp (maxDischargeDepth := 30) [h]
@[simp] theorem beginContact_calls (s : State) (h : callsOk s.lnp.calls = true) :
    callsOk (beginContact s).lnp.calls = true := by
  unfold beginContact; try dsimp only
  repeat' split
  all_goals first | exact h | simp (maxDischargeDepth := 30) [h]
@[simp] theorem beginContact_faults (s : State) (h : faultsOk s.ctx = true) :
    faultsOk (beginContact s).ctx = true := by
  unfold beginContact; try dsimp only
  repeat' split
  all_goals first | exact h | simp (maxDischargeDepth := 30) [h]

@[simp] theorem endContact_memory (s : State) (h : s.cap.memory.wf = true) :
    (endContact s).cap.memory.wf = true := by
  unfold endContact; try dsimp only
  repeat' split
  all_goals first | exact h | simp (maxDischargeDepth := 30) [h]
@[simp] theorem endContact_queue (s : State) (h : queueOk s.lnp.queue = true) :
    queueOk (endContact s).lnp.queue = true := by
  unfold endContact; try dsimp only
  repeat' split
  all_goals first | exact h | simp (maxDischargeDepth := 30) [h]
@[simp] theorem endContact_calls (s : State) (h : callsOk s.lnp.calls = true) :
    callsOk (endContact s).lnp.calls = true := by
  unfold endContact; try dsimp only
  repeat' split
  all_goals first | exact h | simp (maxDischargeDepth := 30) [h]
@[simp] theorem endContact_faults (s : State) (h : faultsOk s.ctx = true) :
    faultsOk (endContact s).ctx = true := by
  unfold endContact; try dsimp only
  repeat' split
  all_goals first | exact h | simp (maxDischargeDepth := 30) [h]

@[simp] theorem retreat_memory (s : State) (h : s.cap.memory.wf = true) :
    (retreat s).cap.memory.wf = true := by
  unfold retreat; try dsimp only
  repeat' split
  all_goals first | exact h | simp (maxDischargeDepth := 30) [h]
@[simp] theorem retreat_queue (s : State) (h : queueOk s.lnp.queue = true) :
    queueOk (retreat s).lnp.queue = true := by
  unfold retreat; try dsimp only
  repeat' split
  all_goals first | exact h | simp (maxDischargeDepth := 30) [h]
@[simp] theorem retreat_calls (s : State) (h : callsOk s.lnp.calls = true) :
    callsOk (retreat s).lnp.calls = true := by
  unfold retreat; try dsimp only
  repeat' split
  all_goals first | exact h | simp (maxDischargeDepth := 30) [h]
@[simp] theorem retreat_faults (s : State) (h : faultsOk s.ctx = true) :
    faultsOk (retreat s).ctx = true := by
  unfold retreat; try dsimp only
  repeat' split
  all_goals first | exact h | simp (maxDischargeDepth := 30) [h]

@[simp] theorem writePreheatBurn_memory (s : State) (h : s.cap.memory.wf = true) :
    (writePreheatBurn s).cap.memory.wf = true := by
  unfold writePreheatBurn; try dsimp only
  repeat' split
  all_goals first | exact h | simp (maxDischargeDepth := 30) [h]
@[simp] theorem writePreheatBurn_queue (s : State) (h : queueOk s.lnp.queue = true) :
    queueOk (writePreheatBurn s).lnp.queue = true := by
  unfold writePreheatBurn; try dsimp only
  repeat' split
  all_goals first | exact h | simp (maxDischargeDepth := 30) [h]
@[simp] theorem writePreheatBurn_calls (s : State) (h : callsOk s.lnp.calls = true) :
    callsOk (writePreheatBurn s).lnp.calls = true := by
  unfold writePreheatBurn; try dsimp only
  repeat' split
  all_goals first | exact h | simp (maxDischargeDepth := 30) [h]
@[simp] theorem writePreheatBurn_faults (s : State) (h : faultsOk s.ctx = true) :
    faultsOk (writePreheatBurn s).ctx = true := by
  unfold writePreheatBurn; try dsimp only
  repeat' split
  all_goals first | exact h | simp (maxDischargeDepth := 30) [h]

@[simp] theorem enterFlash_memory (s : State) (h : s.cap.memory.wf = true) :
    (enterFlash s).cap.memory.wf = true := by
  unfold enterFlash; try dsimp only
  repeat' split
  all_goals first | exact h | simp (maxDischargeDepth := 30) [h]
@[simp] theorem enterFlash_queue (s : State) (h : queueOk s.lnp.queue = true) :
    queueOk (enterFlash s).lnp.queue = true := by
  unfold enterFlash; try dsimp only
  repeat' split
  all_goals first | exact h | simp (maxDischargeDepth := 30) [h]
@[simp] theorem enterFlash_calls (s : State) (h : callsOk s.lnp.calls = true) :
    callsOk (enterFlash s).lnp.calls = true := by
  unfold enterFlash; try dsimp only
  repeat' split
  all_goals first | exact h | simp (maxDischargeDepth := 30) [h]
@[simp] theorem enterFlash_faults (s : State) (h : faultsOk s.ctx = true) :
    faultsOk (enterFlash s).ctx = true := by
  unfold enterFlash; try dsimp only
  repeat' split
  all_goals first | exact h | simp (maxDischargeDepth := 30) [h]

@[simp] theorem enterBoost_memory (s : State) (h : s.cap.memory.wf = true) :
    (enterBoost s).cap.memory.wf = true := by
  unfold enterBoost; try dsimp only
  repeat' split
  all_goals first | exact h | simp (maxDischargeDepth := 30) [h]
@[simp] theorem enterBoost_queue (s : State) (h : queueOk s.lnp.queue = true) :
    queueOk (enterBoost s).lnp.queue = true := by
  unfold enterBoost; try dsimp only
  repeat' split
  all_goals first | exact h | simp (maxDischargeDepth := 30) [h]
@[simp] theorem enterBoost_calls (s : State) (h : callsOk s.lnp.calls = true) :
    callsOk (enterBoost s).lnp.calls = true := by
  unfold enterBoost; try dsimp only
  repeat' split
  all_goals first | exact h | simp (maxDischargeDepth := 30) [h]
@[simp] theorem enterBoost_faults (s : State) (h : faultsOk s.ctx = true) :
    faultsOk (enterBoost s).ctx = true := by
  unfold enterBoost; try dsimp only
  repeat' split
  all_goals first | exact h | simp (maxDischargeDepth := 30) [h]

@[simp] theorem backoffSample_memory (x : Backoff) (s : State) (h : s.cap.memory.wf = true) :
    (backoffSample x s).cap.memory.wf = true := by
  unfold backoffSample; try dsimp only
  repeat' split
  all_goals first | exact h | simp (maxDischargeDepth := 30) [h]
@[simp] theorem backoffSample_queue (x : Backoff) (s : State) (h : queueOk s.lnp.queue = true) :
    queueOk (backoffSample x s).lnp.queue = true := by
  unfold backoffSample; try dsimp only
  repeat' split
  all_goals first | exact h | simp (maxDischargeDepth := 30) [h]
@[simp] theorem backoffSample_calls (x : Backoff) (s : State) (h : callsOk s.lnp.calls = true) :
    callsOk (backoffSample x s).lnp.calls = true := by
  unfold backoffSample; try dsimp only
  repeat' split
  all_goals first | exact h | simp (maxDischargeDepth := 30) [h]
@[simp] theorem backoffSample_faults (x : Backoff) (s : State) (h : faultsOk s.ctx = true) :
    faultsOk (backoffSample x s).ctx = true := by
  unfold backoffSample; try dsimp only
  repeat' split
  all_goals first | exact h | simp (maxDischargeDepth := 30) [h]

@[simp] theorem requestGate_memory (w : Watch) (s : State) (h : s.cap.memory.wf = true) :
    (requestGate w s).cap.memory.wf = true := by
  unfold requestGate; try dsimp only
  repeat' split
  all_goals first | exact h | simp (maxDischargeDepth := 30) [h]
@[simp] theorem requestGate_queue (w : Watch) (s : State) (h : queueOk s.lnp.queue = true) :
    queueOk (requestGate w s).lnp.queue = true := by
  unfold requestGate; try dsimp only
  repeat' split
  all_goals first | exact h | simp (maxDischargeDepth := 30) [h]
@[simp] theorem requestGate_calls (w : Watch) (s : State) (h : callsOk s.lnp.calls = true) :
    callsOk (requestGate w s).lnp.calls = true := by
  unfold requestGate; try dsimp only
  repeat' split
  all_goals first | exact h | simp (maxDischargeDepth := 30) [h]
@[simp] theorem requestGate_faults (w : Watch) (s : State) (h : faultsOk s.ctx = true) :
    faultsOk (requestGate w s).ctx = true := by
  unfold requestGate; try dsimp only
  repeat' split
  all_goals first | exact h | simp (maxDischargeDepth := 30) [h]

@[simp] theorem endWatch_memory (s : State) (h : s.cap.memory.wf = true) :
    (endWatch s).cap.memory.wf = true := by
  unfold endWatch; try dsimp only
  repeat' split
  all_goals first | exact h | simp (maxDischargeDepth := 30) [h]
@[simp] theorem endWatch_queue (s : State) (h : queueOk s.lnp.queue = true) :
    queueOk (endWatch s).lnp.queue = true := by
  unfold endWatch; try dsimp only
  repeat' split
  all_goals first | exact h | simp (maxDischargeDepth := 30) [h]
@[simp] theorem endWatch_calls (s : State) (h : callsOk s.lnp.calls = true) :
    callsOk (endWatch s).lnp.calls = true := by
  unfold endWatch; try dsimp only
  repeat' split
  all_goals first | exact h | simp (maxDischargeDepth := 30) [h]
@[simp] theorem endWatch_faults (s : State) (h : faultsOk s.ctx = true) :
    faultsOk (endWatch s).ctx = true := by
  unfold endWatch; try dsimp only
  repeat' split
  all_goals first | exact h | simp (maxDischargeDepth := 30) [h]

@[simp] theorem holdBroken_memory (s : State) (h : s.cap.memory.wf = true) :
    (holdBroken s).cap.memory.wf = true := by
  unfold holdBroken; try dsimp only
  repeat' split
  all_goals first | exact h | simp (maxDischargeDepth := 30) [h]
@[simp] theorem holdBroken_queue (s : State) (h : queueOk s.lnp.queue = true) :
    queueOk (holdBroken s).lnp.queue = true := by
  unfold holdBroken; try dsimp only
  repeat' split
  all_goals first | exact h | simp (maxDischargeDepth := 30) [h]
@[simp] theorem holdBroken_calls (s : State) (h : callsOk s.lnp.calls = true) :
    callsOk (holdBroken s).lnp.calls = true := by
  unfold holdBroken; try dsimp only
  repeat' split
  all_goals first | exact h | simp (maxDischargeDepth := 30) [h]
@[simp] theorem holdBroken_faults (s : State) (h : faultsOk s.ctx = true) :
    faultsOk (holdBroken s).ctx = true := by
  unfold holdBroken; try dsimp only
  repeat' split
  all_goals first | exact h | simp (maxDischargeDepth := 30) [h]

@[simp] theorem requestHeatGate_memory (s : State) (h : s.cap.memory.wf = true) :
    (requestHeatGate s).cap.memory.wf = true := by
  unfold requestHeatGate; try dsimp only
  repeat' split
  all_goals first | exact h | simp (maxDischargeDepth := 30) [h]
@[simp] theorem requestHeatGate_queue (s : State) (h : queueOk s.lnp.queue = true) :
    queueOk (requestHeatGate s).lnp.queue = true := by
  unfold requestHeatGate; try dsimp only
  repeat' split
  all_goals first | exact h | simp (maxDischargeDepth := 30) [h]
@[simp] theorem requestHeatGate_calls (s : State) (h : callsOk s.lnp.calls = true) :
    callsOk (requestHeatGate s).lnp.calls = true := by
  unfold requestHeatGate; try dsimp only
  repeat' split
  all_goals first | exact h | simp (maxDischargeDepth := 30) [h]
@[simp] theorem requestHeatGate_faults (s : State) (h : faultsOk s.ctx = true) :
    faultsOk (requestHeatGate s).ctx = true := by
  unfold requestHeatGate; try dsimp only
  repeat' split
  all_goals first | exact h | simp (maxDischargeDepth := 30) [h]

@[simp] theorem enterPower_memory (s : State) (h : s.cap.memory.wf = true) :
    (enterPower s).cap.memory.wf = true := by
  unfold enterPower; try dsimp only
  repeat' split
  all_goals first | exact h | simp (maxDischargeDepth := 30) [h]
@[simp] theorem enterPower_queue (s : State) (h : queueOk s.lnp.queue = true) :
    queueOk (enterPower s).lnp.queue = true := by
  unfold enterPower; try dsimp only
  repeat' split
  all_goals first | exact h | simp (maxDischargeDepth := 30) [h]
@[simp] theorem enterPower_calls (s : State) (h : callsOk s.lnp.calls = true) :
    callsOk (enterPower s).lnp.calls = true := by
  unfold enterPower; try dsimp only
  repeat' split
  all_goals first | exact h | simp (maxDischargeDepth := 30) [h]
@[simp] theorem enterPower_faults (s : State) (h : faultsOk s.ctx = true) :
    faultsOk (enterPower s).ctx = true := by
  unfold enterPower; try dsimp only
  repeat' split
  all_goals first | exact h | simp (maxDischargeDepth := 30) [h]

@[simp] theorem leavePower_memory (s : State) (h : s.cap.memory.wf = true) :
    (leavePower s).cap.memory.wf = true := by
  unfold leavePower; try dsimp only
  repeat' split
  all_goals first | exact h | simp (maxDischargeDepth := 30) [h]
@[simp] theorem leavePower_queue (s : State) (h : queueOk s.lnp.queue = true) :
    queueOk (leavePower s).lnp.queue = true := by
  unfold leavePower; try dsimp only
  repeat' split
  all_goals first | exact h | simp (maxDischargeDepth := 30) [h]
@[simp] theorem leavePower_calls (s : State) (h : callsOk s.lnp.calls = true) :
    callsOk (leavePower s).lnp.calls = true := by
  unfold leavePower; try dsimp only
  repeat' split
  all_goals first | exact h | simp (maxDischargeDepth := 30) [h]
@[simp] theorem leavePower_faults (s : State) (h : faultsOk s.ctx = true) :
    faultsOk (leavePower s).ctx = true := by
  unfold leavePower; try dsimp only
  repeat' split
  all_goals first | exact h | simp (maxDischargeDepth := 30) [h]

@[simp] theorem grantClaim_memory (s : State) (h : s.cap.memory.wf = true) :
    (grantClaim s).cap.memory.wf = true := by
  unfold grantClaim; try dsimp only
  repeat' split
  all_goals first | exact h | simp (maxDischargeDepth := 30) [h]
@[simp] theorem grantClaim_queue (s : State) (h : queueOk s.lnp.queue = true) :
    queueOk (grantClaim s).lnp.queue = true := by
  unfold grantClaim; try dsimp only
  repeat' split
  all_goals first | exact h | simp (maxDischargeDepth := 30) [h]
@[simp] theorem grantClaim_calls (s : State) (h : callsOk s.lnp.calls = true) :
    callsOk (grantClaim s).lnp.calls = true := by
  unfold grantClaim; try dsimp only
  repeat' split
  all_goals first | exact h | simp (maxDischargeDepth := 30) [h]
@[simp] theorem grantClaim_faults (s : State) (h : faultsOk s.ctx = true) :
    faultsOk (grantClaim s).ctx = true := by
  unfold grantClaim; try dsimp only
  repeat' split
  all_goals first | exact h | simp (maxDischargeDepth := 30) [h]

@[simp] theorem sendClosure_memory (s : State) (h : s.cap.memory.wf = true) :
    (sendClosure s).cap.memory.wf = true := by
  unfold sendClosure; try dsimp only
  repeat' split
  all_goals first | exact h | simp (maxDischargeDepth := 30) [h]
@[simp] theorem sendClosure_queue (s : State) (h : queueOk s.lnp.queue = true) :
    queueOk (sendClosure s).lnp.queue = true := by
  unfold sendClosure; try dsimp only
  repeat' split
  all_goals first | exact h | simp (maxDischargeDepth := 30) [h]
@[simp] theorem sendClosure_calls (s : State) (h : callsOk s.lnp.calls = true) :
    callsOk (sendClosure s).lnp.calls = true := by
  unfold sendClosure; try dsimp only
  repeat' split
  all_goals first | exact h | simp (maxDischargeDepth := 30) [h]
@[simp] theorem sendClosure_faults (s : State) (h : faultsOk s.ctx = true) :
    faultsOk (sendClosure s).ctx = true := by
  unfold sendClosure; try dsimp only
  repeat' split
  all_goals first | exact h | simp (maxDischargeDepth := 30) [h]

@[simp] theorem enterClose_memory (s : State) (h : s.cap.memory.wf = true) :
    (enterClose s).cap.memory.wf = true := by
  unfold enterClose; try dsimp only
  repeat' split
  all_goals first | exact h | simp (maxDischargeDepth := 30) [h]
@[simp] theorem enterClose_queue (s : State) (h : queueOk s.lnp.queue = true) :
    queueOk (enterClose s).lnp.queue = true := by
  unfold enterClose; try dsimp only
  repeat' split
  all_goals first | exact h | simp (maxDischargeDepth := 30) [h]
@[simp] theorem enterClose_calls (s : State) (h : callsOk s.lnp.calls = true) :
    callsOk (enterClose s).lnp.calls = true := by
  unfold enterClose; try dsimp only
  repeat' split
  all_goals first | exact h | simp (maxDischargeDepth := 30) [h]
@[simp] theorem enterClose_faults (s : State) (h : faultsOk s.ctx = true) :
    faultsOk (enterClose s).ctx = true := by
  unfold enterClose; try dsimp only
  repeat' split
  all_goals first | exact h | simp (maxDischargeDepth := 30) [h]

@[simp] theorem closureTaken_memory (s : State) (h : s.cap.memory.wf = true) :
    (closureTaken s).cap.memory.wf = true := by
  unfold closureTaken; try dsimp only
  repeat' split
  all_goals first | exact h | simp (maxDischargeDepth := 30) [h]
@[simp] theorem closureTaken_queue (s : State) (h : queueOk s.lnp.queue = true) :
    queueOk (closureTaken s).lnp.queue = true := by
  unfold closureTaken; try dsimp only
  repeat' split
  all_goals first | exact h | simp (maxDischargeDepth := 30) [h]
@[simp] theorem closureTaken_calls (s : State) (h : callsOk s.lnp.calls = true) :
    callsOk (closureTaken s).lnp.calls = true := by
  unfold closureTaken; try dsimp only
  repeat' split
  all_goals first | exact h | simp (maxDischargeDepth := 30) [h]
@[simp] theorem closureTaken_faults (s : State) (h : faultsOk s.ctx = true) :
    faultsOk (closureTaken s).ctx = true := by
  unfold closureTaken; try dsimp only
  repeat' split
  all_goals first | exact h | simp (maxDischargeDepth := 30) [h]

@[simp] theorem closureFreed_memory (r : CallResult) (s : State) (h : s.cap.memory.wf = true) :
    (closureFreed r s).cap.memory.wf = true := by
  unfold closureFreed; try dsimp only
  repeat' split
  all_goals first | exact h | simp (maxDischargeDepth := 30) [h]
@[simp] theorem closureFreed_queue (r : CallResult) (s : State) (h : queueOk s.lnp.queue = true) :
    queueOk (closureFreed r s).lnp.queue = true := by
  unfold closureFreed; try dsimp only
  repeat' split
  all_goals first | exact h | simp (maxDischargeDepth := 30) [h]
@[simp] theorem closureFreed_calls (r : CallResult) (s : State) (h : callsOk s.lnp.calls = true) :
    callsOk (closureFreed r s).lnp.calls = true := by
  unfold closureFreed; try dsimp only
  repeat' split
  all_goals first | exact h | simp (maxDischargeDepth := 30) [h]
@[simp] theorem closureFreed_faults (r : CallResult) (s : State) (h : faultsOk s.ctx = true) :
    faultsOk (closureFreed r s).ctx = true := by
  unfold closureFreed; try dsimp only
  repeat' split
  all_goals first | exact h | simp (maxDischargeDepth := 30) [h]

@[simp] theorem owedFreed_memory (o : Owed) (r : CallResult) (s : State) (h : s.cap.memory.wf = true) :
    (owedFreed o r s).cap.memory.wf = true := by
  unfold owedFreed; try dsimp only
  repeat' split
  all_goals first | exact h | simp (maxDischargeDepth := 30) [h]
@[simp] theorem owedFreed_queue (o : Owed) (r : CallResult) (s : State) (h : queueOk s.lnp.queue = true) :
    queueOk (owedFreed o r s).lnp.queue = true := by
  unfold owedFreed; try dsimp only
  repeat' split
  all_goals first | exact h | simp (maxDischargeDepth := 30) [h]
@[simp] theorem owedFreed_calls (o : Owed) (r : CallResult) (s : State) (h : callsOk s.lnp.calls = true) :
    callsOk (owedFreed o r s).lnp.calls = true := by
  unfold owedFreed; try dsimp only
  repeat' split
  all_goals first | exact h | simp (maxDischargeDepth := 30) [h]
@[simp] theorem owedFreed_faults (o : Owed) (r : CallResult) (s : State) (h : faultsOk s.ctx = true) :
    faultsOk (owedFreed o r s).ctx = true := by
  unfold owedFreed; try dsimp only
  repeat' split
  all_goals first | exact h | simp (maxDischargeDepth := 30) [h]

@[simp] theorem tensorFreed_memory (c : TensorCall) (r : CallResult) (s : State) (h : s.cap.memory.wf = true) :
    (tensorFreed c r s).cap.memory.wf = true := by
  unfold tensorFreed; try dsimp only
  repeat' split
  all_goals first | exact h | simp (maxDischargeDepth := 30) [h]
@[simp] theorem tensorFreed_queue (c : TensorCall) (r : CallResult) (s : State) (h : queueOk s.lnp.queue = true) :
    queueOk (tensorFreed c r s).lnp.queue = true := by
  unfold tensorFreed; try dsimp only
  repeat' split
  all_goals first | exact h | simp (maxDischargeDepth := 30) [h]
@[simp] theorem tensorFreed_calls (c : TensorCall) (r : CallResult) (s : State) (h : callsOk s.lnp.calls = true) :
    callsOk (tensorFreed c r s).lnp.calls = true := by
  unfold tensorFreed; try dsimp only
  repeat' split
  all_goals first | exact h | simp (maxDischargeDepth := 30) [h]
@[simp] theorem tensorFreed_faults (c : TensorCall) (r : CallResult) (s : State) (h : faultsOk s.ctx = true) :
    faultsOk (tensorFreed c r s).ctx = true := by
  unfold tensorFreed; try dsimp only
  repeat' split
  all_goals first | exact h | simp (maxDischargeDepth := 30) [h]

@[simp] theorem dropRecord_memory (d : Nat) (s : State) (h : s.cap.memory.wf = true) :
    (dropRecord d s).cap.memory.wf = true := by
  unfold dropRecord; try dsimp only
  repeat' split
  all_goals first | exact h | simp (maxDischargeDepth := 30) [h]
@[simp] theorem dropRecord_queue (d : Nat) (s : State) (h : queueOk s.lnp.queue = true) :
    queueOk (dropRecord d s).lnp.queue = true := by
  unfold dropRecord; try dsimp only
  repeat' split
  all_goals first | exact h | simp (maxDischargeDepth := 30) [h]
@[simp] theorem dropRecord_calls (d : Nat) (s : State) (h : callsOk s.lnp.calls = true) :
    callsOk (dropRecord d s).lnp.calls = true := by
  unfold dropRecord; try dsimp only
  repeat' split
  all_goals first | exact h | simp (maxDischargeDepth := 30) [h]
@[simp] theorem dropRecord_faults (d : Nat) (s : State) (h : faultsOk s.ctx = true) :
    faultsOk (dropRecord d s).ctx = true := by
  unfold dropRecord; try dsimp only
  repeat' split
  all_goals first | exact h | simp (maxDischargeDepth := 30) [h]

@[simp] theorem callFreed_memory (d : Nat) (r : CallResult) (s : State) (h : s.cap.memory.wf = true) :
    (callFreed d r s).cap.memory.wf = true := by
  unfold callFreed; try dsimp only
  repeat' split
  all_goals first | exact h | simp (maxDischargeDepth := 30) [h]
@[simp] theorem callFreed_queue (d : Nat) (r : CallResult) (s : State) (h : queueOk s.lnp.queue = true) :
    queueOk (callFreed d r s).lnp.queue = true := by
  unfold callFreed; try dsimp only
  repeat' split
  all_goals first | exact h | simp (maxDischargeDepth := 30) [h]
@[simp] theorem callFreed_calls (d : Nat) (r : CallResult) (s : State) (h : callsOk s.lnp.calls = true) :
    callsOk (callFreed d r s).lnp.calls = true := by
  unfold callFreed; try dsimp only
  repeat' split
  all_goals first | exact h | simp (maxDischargeDepth := 30) [h]
@[simp] theorem callFreed_faults (d : Nat) (r : CallResult) (s : State) (h : faultsOk s.ctx = true) :
    faultsOk (callFreed d r s).ctx = true := by
  unfold callFreed; try dsimp only
  repeat' split
  all_goals first | exact h | simp (maxDischargeDepth := 30) [h]

@[simp] theorem enterUnclamp_memory (s : State) (h : s.cap.memory.wf = true) :
    (enterUnclamp s).cap.memory.wf = true := by
  unfold enterUnclamp; try dsimp only
  repeat' split
  all_goals first | exact h | simp (maxDischargeDepth := 30) [h]
@[simp] theorem enterUnclamp_queue (s : State) (h : queueOk s.lnp.queue = true) :
    queueOk (enterUnclamp s).lnp.queue = true := by
  unfold enterUnclamp; try dsimp only
  repeat' split
  all_goals first | exact h | simp (maxDischargeDepth := 30) [h]
@[simp] theorem enterUnclamp_calls (s : State) (h : callsOk s.lnp.calls = true) :
    callsOk (enterUnclamp s).lnp.calls = true := by
  unfold enterUnclamp; try dsimp only
  repeat' split
  all_goals first | exact h | simp (maxDischargeDepth := 30) [h]
@[simp] theorem enterUnclamp_faults (s : State) (h : faultsOk s.ctx = true) :
    faultsOk (enterUnclamp s).ctx = true := by
  unfold enterUnclamp; try dsimp only
  repeat' split
  all_goals first | exact h | simp (maxDischargeDepth := 30) [h]

@[simp] theorem enterLetGo_memory (s : State) (h : s.cap.memory.wf = true) :
    (enterLetGo s).cap.memory.wf = true := by
  unfold enterLetGo; try dsimp only
  repeat' split
  all_goals first | exact h | simp (maxDischargeDepth := 30) [h]
@[simp] theorem enterLetGo_queue (s : State) (h : queueOk s.lnp.queue = true) :
    queueOk (enterLetGo s).lnp.queue = true := by
  unfold enterLetGo; try dsimp only
  repeat' split
  all_goals first | exact h | simp (maxDischargeDepth := 30) [h]
@[simp] theorem enterLetGo_calls (s : State) (h : callsOk s.lnp.calls = true) :
    callsOk (enterLetGo s).lnp.calls = true := by
  unfold enterLetGo; try dsimp only
  repeat' split
  all_goals first | exact h | simp (maxDischargeDepth := 30) [h]
@[simp] theorem enterLetGo_faults (s : State) (h : faultsOk s.ctx = true) :
    faultsOk (enterLetGo s).ctx = true := by
  unfold enterLetGo; try dsimp only
  repeat' split
  all_goals first | exact h | simp (maxDischargeDepth := 30) [h]

@[simp] theorem enterHold_memory (s : State) (h : s.cap.memory.wf = true) :
    (enterHold s).cap.memory.wf = true := by
  unfold enterHold; try dsimp only
  repeat' split
  all_goals first | exact h | simp (maxDischargeDepth := 30) [h]
@[simp] theorem enterHold_queue (s : State) (h : queueOk s.lnp.queue = true) :
    queueOk (enterHold s).lnp.queue = true := by
  unfold enterHold; try dsimp only
  repeat' split
  all_goals first | exact h | simp (maxDischargeDepth := 30) [h]
@[simp] theorem enterHold_calls (s : State) (h : callsOk s.lnp.calls = true) :
    callsOk (enterHold s).lnp.calls = true := by
  unfold enterHold; try dsimp only
  repeat' split
  all_goals first | exact h | simp (maxDischargeDepth := 30) [h]
@[simp] theorem enterHold_faults (s : State) (h : faultsOk s.ctx = true) :
    faultsOk (enterHold s).ctx = true := by
  unfold enterHold; try dsimp only
  repeat' split
  all_goals first | exact h | simp (maxDischargeDepth := 30) [h]

@[simp] theorem endHold_memory (s : State) (h : s.cap.memory.wf = true) :
    (endHold s).cap.memory.wf = true := by
  unfold endHold; try dsimp only
  repeat' split
  all_goals first | exact h | simp (maxDischargeDepth := 30) [h]
@[simp] theorem endHold_queue (s : State) (h : queueOk s.lnp.queue = true) :
    queueOk (endHold s).lnp.queue = true := by
  unfold endHold; try dsimp only
  repeat' split
  all_goals first | exact h | simp (maxDischargeDepth := 30) [h]
@[simp] theorem endHold_calls (s : State) (h : callsOk s.lnp.calls = true) :
    callsOk (endHold s).lnp.calls = true := by
  unfold endHold; try dsimp only
  repeat' split
  all_goals first | exact h | simp (maxDischargeDepth := 30) [h]
@[simp] theorem endHold_faults (s : State) (h : faultsOk s.ctx = true) :
    faultsOk (endHold s).ctx = true := by
  unfold endHold; try dsimp only
  repeat' split
  all_goals first | exact h | simp (maxDischargeDepth := 30) [h]

@[simp] theorem leaveUpset_memory (s : State) (h : s.cap.memory.wf = true) :
    (leaveUpset s).cap.memory.wf = true := by
  unfold leaveUpset; try dsimp only
  repeat' split
  all_goals first | exact h | simp (maxDischargeDepth := 30) [h]
@[simp] theorem leaveUpset_queue (s : State) (h : queueOk s.lnp.queue = true) :
    queueOk (leaveUpset s).lnp.queue = true := by
  unfold leaveUpset; try dsimp only
  repeat' split
  all_goals first | exact h | simp (maxDischargeDepth := 30) [h]
@[simp] theorem leaveUpset_calls (s : State) (h : callsOk s.lnp.calls = true) :
    callsOk (leaveUpset s).lnp.calls = true := by
  unfold leaveUpset; try dsimp only
  repeat' split
  all_goals first | exact h | simp (maxDischargeDepth := 30) [h]
@[simp] theorem leaveUpset_faults (s : State) (h : faultsOk s.ctx = true) :
    faultsOk (leaveUpset s).ctx = true := by
  unfold leaveUpset; try dsimp only
  repeat' split
  all_goals first | exact h | simp (maxDischargeDepth := 30) [h]

@[simp] theorem heatOver_memory (s : State) (h : s.cap.memory.wf = true) :
    (heatOver s).cap.memory.wf = true := by
  unfold heatOver; try dsimp only
  repeat' split
  all_goals first | exact h | simp (maxDischargeDepth := 30) [h]
@[simp] theorem heatOver_queue (s : State) (h : queueOk s.lnp.queue = true) :
    queueOk (heatOver s).lnp.queue = true := by
  unfold heatOver; try dsimp only
  repeat' split
  all_goals first | exact h | simp (maxDischargeDepth := 30) [h]
@[simp] theorem heatOver_calls (s : State) (h : callsOk s.lnp.calls = true) :
    callsOk (heatOver s).lnp.calls = true := by
  unfold heatOver; try dsimp only
  repeat' split
  all_goals first | exact h | simp (maxDischargeDepth := 30) [h]
@[simp] theorem heatOver_faults (s : State) (h : faultsOk s.ctx = true) :
    faultsOk (heatOver s).ctx = true := by
  unfold heatOver; try dsimp only
  repeat' split
  all_goals first | exact h | simp (maxDischargeDepth := 30) [h]

@[simp] theorem endStroke_memory (b : Bool) (s : State) (h : s.cap.memory.wf = true) :
    (endStroke b s).cap.memory.wf = true := by
  unfold endStroke; try dsimp only
  repeat' split
  all_goals first | exact h | simp (maxDischargeDepth := 30) [h]
@[simp] theorem endStroke_queue (b : Bool) (s : State) (h : queueOk s.lnp.queue = true) :
    queueOk (endStroke b s).lnp.queue = true := by
  unfold endStroke; try dsimp only
  repeat' split
  all_goals first | exact h | simp (maxDischargeDepth := 30) [h]
@[simp] theorem endStroke_calls (b : Bool) (s : State) (h : callsOk s.lnp.calls = true) :
    callsOk (endStroke b s).lnp.calls = true := by
  unfold endStroke; try dsimp only
  repeat' split
  all_goals first | exact h | simp (maxDischargeDepth := 30) [h]
@[simp] theorem endStroke_faults (b : Bool) (s : State) (h : faultsOk s.ctx = true) :
    faultsOk (endStroke b s).ctx = true := by
  unfold endStroke; try dsimp only
  repeat' split
  all_goals first | exact h | simp (maxDischargeDepth := 30) [h]

@[simp] theorem strokeSample_memory (s : State) (h : s.cap.memory.wf = true) :
    (strokeSample s).cap.memory.wf = true := by
  unfold strokeSample; try dsimp only
  repeat' split
  all_goals first | exact h | simp (maxDischargeDepth := 30) [h]
@[simp] theorem strokeSample_queue (s : State) (h : queueOk s.lnp.queue = true) :
    queueOk (strokeSample s).lnp.queue = true := by
  unfold strokeSample; try dsimp only
  repeat' split
  all_goals first | exact h | simp (maxDischargeDepth := 30) [h]
@[simp] theorem strokeSample_calls (s : State) (h : callsOk s.lnp.calls = true) :
    callsOk (strokeSample s).lnp.calls = true := by
  unfold strokeSample; try dsimp only
  repeat' split
  all_goals first | exact h | simp (maxDischargeDepth := 30) [h]
@[simp] theorem strokeSample_faults (s : State) (h : faultsOk s.ctx = true) :
    faultsOk (strokeSample s).ctx = true := by
  unfold strokeSample; try dsimp only
  repeat' split
  all_goals first | exact h | simp (maxDischargeDepth := 30) [h]

@[simp] theorem enterUpset_memory (s : State) (h : s.cap.memory.wf = true) :
    (enterUpset s).cap.memory.wf = true := by
  unfold enterUpset; try dsimp only
  repeat' split
  all_goals first | exact h | simp (maxDischargeDepth := 30) [h]
@[simp] theorem enterUpset_queue (s : State) (h : queueOk s.lnp.queue = true) :
    queueOk (enterUpset s).lnp.queue = true := by
  unfold enterUpset; try dsimp only
  repeat' split
  all_goals first | exact h | simp (maxDischargeDepth := 30) [h]
@[simp] theorem enterUpset_calls (s : State) (h : callsOk s.lnp.calls = true) :
    callsOk (enterUpset s).lnp.calls = true := by
  unfold enterUpset; try dsimp only
  repeat' split
  all_goals first | exact h | simp (maxDischargeDepth := 30) [h]
@[simp] theorem enterUpset_faults (s : State) (h : faultsOk s.ctx = true) :
    faultsOk (enterUpset s).ctx = true := by
  unfold enterUpset; try dsimp only
  repeat' split
  all_goals first | exact h | simp (maxDischargeDepth := 30) [h]

@[simp] theorem endFlash_memory (s : State) (h : s.cap.memory.wf = true) :
    (endFlash s).cap.memory.wf = true := by
  unfold endFlash; try dsimp only
  repeat' split
  all_goals first | exact h | simp (maxDischargeDepth := 30) [h]
@[simp] theorem endFlash_queue (s : State) (h : queueOk s.lnp.queue = true) :
    queueOk (endFlash s).lnp.queue = true := by
  unfold endFlash; try dsimp only
  repeat' split
  all_goals first | exact h | simp (maxDischargeDepth := 30) [h]
@[simp] theorem endFlash_calls (s : State) (h : callsOk s.lnp.calls = true) :
    callsOk (endFlash s).lnp.calls = true := by
  unfold endFlash; try dsimp only
  repeat' split
  all_goals first | exact h | simp (maxDischargeDepth := 30) [h]
@[simp] theorem endFlash_faults (s : State) (h : faultsOk s.ctx = true) :
    faultsOk (endFlash s).ctx = true := by
  unfold endFlash; try dsimp only
  repeat' split
  all_goals first | exact h | simp (maxDischargeDepth := 30) [h]

@[simp] theorem gateNotice_memory (s : State) (h : s.cap.memory.wf = true) :
    (gateNotice s).cap.memory.wf = true := by
  unfold gateNotice; try dsimp only
  repeat' split
  all_goals first | exact h | simp (maxDischargeDepth := 30) [h]
@[simp] theorem gateNotice_queue (s : State) (h : queueOk s.lnp.queue = true) :
    queueOk (gateNotice s).lnp.queue = true := by
  unfold gateNotice; try dsimp only
  repeat' split
  all_goals first | exact h | simp (maxDischargeDepth := 30) [h]
@[simp] theorem gateNotice_calls (s : State) (h : callsOk s.lnp.calls = true) :
    callsOk (gateNotice s).lnp.calls = true := by
  unfold gateNotice; try dsimp only
  repeat' split
  all_goals first | exact h | simp (maxDischargeDepth := 30) [h]
@[simp] theorem gateNotice_faults (s : State) (h : faultsOk s.ctx = true) :
    faultsOk (gateNotice s).ctx = true := by
  unfold gateNotice; try dsimp only
  repeat' split
  all_goals first | exact h | simp (maxDischargeDepth := 30) [h]

@[simp] theorem closeRowLost_memory (s : State) (h : s.cap.memory.wf = true) :
    (closeRowLost s).cap.memory.wf = true := by
  unfold closeRowLost; try dsimp only
  repeat' split
  all_goals first | exact h | simp (maxDischargeDepth := 30) [h]
@[simp] theorem closeRowLost_queue (s : State) (h : queueOk s.lnp.queue = true) :
    queueOk (closeRowLost s).lnp.queue = true := by
  unfold closeRowLost; try dsimp only
  repeat' split
  all_goals first | exact h | simp (maxDischargeDepth := 30) [h]
@[simp] theorem closeRowLost_calls (s : State) (h : callsOk s.lnp.calls = true) :
    callsOk (closeRowLost s).lnp.calls = true := by
  unfold closeRowLost; try dsimp only
  repeat' split
  all_goals first | exact h | simp (maxDischargeDepth := 30) [h]
@[simp] theorem closeRowLost_faults (s : State) (h : faultsOk s.ctx = true) :
    faultsOk (closeRowLost s).ctx = true := by
  unfold closeRowLost; try dsimp only
  repeat' split
  all_goals first | exact h | simp (maxDischargeDepth := 30) [h]

@[simp] theorem releaseNotice_memory (s : State) (h : s.cap.memory.wf = true) :
    (releaseNotice s).cap.memory.wf = true := by
  unfold releaseNotice; try dsimp only
  repeat' split
  all_goals first | exact h | simp (maxDischargeDepth := 30) [h]
@[simp] theorem releaseNotice_queue (s : State) (h : queueOk s.lnp.queue = true) :
    queueOk (releaseNotice s).lnp.queue = true := by
  unfold releaseNotice; try dsimp only
  repeat' split
  all_goals first | exact h | simp (maxDischargeDepth := 30) [h]
@[simp] theorem releaseNotice_calls (s : State) (h : callsOk s.lnp.calls = true) :
    callsOk (releaseNotice s).lnp.calls = true := by
  unfold releaseNotice; try dsimp only
  repeat' split
  all_goals first | exact h | simp (maxDischargeDepth := 30) [h]
@[simp] theorem releaseNotice_faults (s : State) (h : faultsOk s.ctx = true) :
    faultsOk (releaseNotice s).ctx = true := by
  unfold releaseNotice; try dsimp only
  repeat' split
  all_goals first | exact h | simp (maxDischargeDepth := 30) [h]

@[simp] theorem settleEnergy_memory (s : State) (h : s.cap.memory.wf = true) :
    (settleEnergy s).cap.memory.wf = true := by
  unfold settleEnergy; try dsimp only
  repeat' split
  all_goals first | exact h | simp (maxDischargeDepth := 30) [h]
@[simp] theorem settleEnergy_queue (s : State) (h : queueOk s.lnp.queue = true) :
    queueOk (settleEnergy s).lnp.queue = true := by
  unfold settleEnergy; try dsimp only
  repeat' split
  all_goals first | exact h | simp (maxDischargeDepth := 30) [h]
@[simp] theorem settleEnergy_calls (s : State) (h : callsOk s.lnp.calls = true) :
    callsOk (settleEnergy s).lnp.calls = true := by
  unfold settleEnergy; try dsimp only
  repeat' split
  all_goals first | exact h | simp (maxDischargeDepth := 30) [h]
@[simp] theorem settleEnergy_faults (s : State) (h : faultsOk s.ctx = true) :
    faultsOk (settleEnergy s).ctx = true := by
  unfold settleEnergy; try dsimp only
  repeat' split
  all_goals first | exact h | simp (maxDischargeDepth := 30) [h]

@[simp] theorem settleNeutral_memory (s : State) (h : s.cap.memory.wf = true) :
    (settleNeutral s).cap.memory.wf = true := by
  unfold settleNeutral; try dsimp only
  repeat' split
  all_goals first | exact h | simp (maxDischargeDepth := 30) [h]
@[simp] theorem settleNeutral_queue (s : State) (h : queueOk s.lnp.queue = true) :
    queueOk (settleNeutral s).lnp.queue = true := by
  unfold settleNeutral; try dsimp only
  repeat' split
  all_goals first | exact h | simp (maxDischargeDepth := 30) [h]
@[simp] theorem settleNeutral_calls (s : State) (h : callsOk s.lnp.calls = true) :
    callsOk (settleNeutral s).lnp.calls = true := by
  unfold settleNeutral; try dsimp only
  repeat' split
  all_goals first | exact h | simp (maxDischargeDepth := 30) [h]
@[simp] theorem settleNeutral_faults (s : State) (h : faultsOk s.ctx = true) :
    faultsOk (settleNeutral s).ctx = true := by
  unfold settleNeutral; try dsimp only
  repeat' split
  all_goals first | exact h | simp (maxDischargeDepth := 30) [h]

@[simp] theorem settleVerdict_memory (s : State) (h : s.cap.memory.wf = true) :
    (settleVerdict s).cap.memory.wf = true := by
  unfold settleVerdict; try dsimp only
  repeat' split
  all_goals first | exact h | simp (maxDischargeDepth := 30) [h]
@[simp] theorem settleVerdict_queue (s : State) (h : queueOk s.lnp.queue = true) :
    queueOk (settleVerdict s).lnp.queue = true := by
  unfold settleVerdict; try dsimp only
  repeat' split
  all_goals first | exact h | simp (maxDischargeDepth := 30) [h]
@[simp] theorem settleVerdict_calls (s : State) (h : callsOk s.lnp.calls = true) :
    callsOk (settleVerdict s).lnp.calls = true := by
  unfold settleVerdict; try dsimp only
  repeat' split
  all_goals first | exact h | simp (maxDischargeDepth := 30) [h]
@[simp] theorem settleVerdict_faults (s : State) (h : faultsOk s.ctx = true) :
    faultsOk (settleVerdict s).ctx = true := by
  unfold settleVerdict; try dsimp only
  repeat' split
  all_goals first | exact h | simp (maxDischargeDepth := 30) [h]

@[simp] theorem handRecord_memory (s : State) (h : s.cap.memory.wf = true) :
    (handRecord s).cap.memory.wf = true := by
  unfold handRecord; try dsimp only
  repeat' split
  all_goals first | exact h | simp (maxDischargeDepth := 30) [h]
@[simp] theorem handRecord_queue (s : State) (h : queueOk s.lnp.queue = true) :
    queueOk (handRecord s).lnp.queue = true := by
  unfold handRecord; try dsimp only
  repeat' split
  all_goals first | exact h | simp (maxDischargeDepth := 30) [h]
@[simp] theorem handRecord_calls (s : State) (h : callsOk s.lnp.calls = true) :
    callsOk (handRecord s).lnp.calls = true := by
  unfold handRecord; try dsimp only
  repeat' split
  all_goals first | exact h | simp (maxDischargeDepth := 30) [h]
@[simp] theorem handRecord_faults (s : State) (h : faultsOk s.ctx = true) :
    faultsOk (handRecord s).ctx = true := by
  unfold handRecord; try dsimp only
  repeat' split
  all_goals first | exact h | simp (maxDischargeDepth := 30) [h]

@[simp] theorem endContext_memory (s : State) (h : s.cap.memory.wf = true) :
    (endContext s).cap.memory.wf = true := by
  unfold endContext; try dsimp only
  repeat' split
  all_goals first | exact h | simp (maxDischargeDepth := 30) [h]
@[simp] theorem endContext_queue (s : State) (h : queueOk s.lnp.queue = true) :
    queueOk (endContext s).lnp.queue = true := by
  unfold endContext; try dsimp only
  repeat' split
  all_goals first | exact h | simp (maxDischargeDepth := 30) [h]
@[simp] theorem endContext_calls (s : State) (h : callsOk s.lnp.calls = true) :
    callsOk (endContext s).lnp.calls = true := by
  unfold endContext; try dsimp only
  repeat' split
  all_goals first | exact h | simp (maxDischargeDepth := 30) [h]
@[simp] theorem endContext_faults (s : State) (h : faultsOk s.ctx = true) :
    faultsOk (endContext s).ctx = true := by
  unfold endContext; try dsimp only
  repeat' split
  all_goals first | exact h | simp (maxDischargeDepth := 30) [h]

@[simp] theorem buildOutcome_memory (s : State) (h : s.cap.memory.wf = true) :
    (buildOutcome s).cap.memory.wf = true := by
  unfold buildOutcome; try dsimp only
  repeat' split
  all_goals first | exact h | simp (maxDischargeDepth := 30) [h]
@[simp] theorem buildOutcome_queue (s : State) (h : queueOk s.lnp.queue = true) :
    queueOk (buildOutcome s).lnp.queue = true := by
  unfold buildOutcome; try dsimp only
  repeat' split
  all_goals first | exact h | simp (maxDischargeDepth := 30) [h]
@[simp] theorem buildOutcome_calls (s : State) (h : callsOk s.lnp.calls = true) :
    callsOk (buildOutcome s).lnp.calls = true := by
  unfold buildOutcome; try dsimp only
  repeat' split
  all_goals first | exact h | simp (maxDischargeDepth := 30) [h]
@[simp] theorem buildOutcome_faults (s : State) (h : faultsOk s.ctx = true) :
    faultsOk (buildOutcome s).ctx = true := by
  unfold buildOutcome; try dsimp only
  repeat' split
  all_goals first | exact h | simp (maxDischargeDepth := 30) [h]

@[simp] theorem pairedNotice_memory (b : Bool) (s : State) (h : s.cap.memory.wf = true) :
    (pairedNotice b s).cap.memory.wf = true := by
  unfold pairedNotice; try dsimp only
  repeat' split
  all_goals first | exact h | simp (maxDischargeDepth := 30) [h]
@[simp] theorem pairedNotice_queue (b : Bool) (s : State) (h : queueOk s.lnp.queue = true) :
    queueOk (pairedNotice b s).lnp.queue = true := by
  unfold pairedNotice; try dsimp only
  repeat' split
  all_goals first | exact h | simp (maxDischargeDepth := 30) [h]
@[simp] theorem pairedNotice_calls (b : Bool) (s : State) (h : callsOk s.lnp.calls = true) :
    callsOk (pairedNotice b s).lnp.calls = true := by
  unfold pairedNotice; try dsimp only
  repeat' split
  all_goals first | exact h | simp (maxDischargeDepth := 30) [h]
@[simp] theorem pairedNotice_faults (b : Bool) (s : State) (h : faultsOk s.ctx = true) :
    faultsOk (pairedNotice b s).ctx = true := by
  unfold pairedNotice; try dsimp only
  repeat' split
  all_goals first | exact h | simp (maxDischargeDepth := 30) [h]

@[simp] theorem changeRow_memory (n : Nat) (b : Bool) (r : PeerRow) (s : State) (h : s.cap.memory.wf = true) :
    (changeRow n b r s).cap.memory.wf = true := by
  unfold changeRow; try dsimp only
  repeat' split
  all_goals first | exact h | simp (maxDischargeDepth := 30) [h]
@[simp] theorem changeRow_queue (n : Nat) (b : Bool) (r : PeerRow) (s : State) (h : queueOk s.lnp.queue = true) :
    queueOk (changeRow n b r s).lnp.queue = true := by
  unfold changeRow; try dsimp only
  repeat' split
  all_goals first | exact h | simp (maxDischargeDepth := 30) [h]
@[simp] theorem changeRow_calls (n : Nat) (b : Bool) (r : PeerRow) (s : State) (h : callsOk s.lnp.calls = true) :
    callsOk (changeRow n b r s).lnp.calls = true := by
  unfold changeRow; try dsimp only
  repeat' split
  all_goals first | exact h | simp (maxDischargeDepth := 30) [h]
@[simp] theorem changeRow_faults (n : Nat) (b : Bool) (r : PeerRow) (s : State) (h : faultsOk s.ctx = true) :
    faultsOk (changeRow n b r s).ctx = true := by
  unfold changeRow; try dsimp only
  repeat' split
  all_goals first | exact h | simp (maxDischargeDepth := 30) [h]

@[simp] theorem takeClaim_memory (n a : Nat) (s : State) (h : s.cap.memory.wf = true) :
    (takeClaim n a s).cap.memory.wf = true := by
  unfold takeClaim; try dsimp only
  repeat' split
  all_goals first | exact h | simp (maxDischargeDepth := 30) [h]
@[simp] theorem takeClaim_queue (n a : Nat) (s : State) (h : queueOk s.lnp.queue = true) :
    queueOk (takeClaim n a s).lnp.queue = true := by
  unfold takeClaim; try dsimp only
  repeat' split
  all_goals first | exact h | simp (maxDischargeDepth := 30) [h]
@[simp] theorem takeClaim_calls (n a : Nat) (s : State) (h : callsOk s.lnp.calls = true) :
    callsOk (takeClaim n a s).lnp.calls = true := by
  unfold takeClaim; try dsimp only
  repeat' split
  all_goals first | exact h | simp (maxDischargeDepth := 30) [h]
@[simp] theorem takeClaim_faults (n a : Nat) (s : State) (h : faultsOk s.ctx = true) :
    faultsOk (takeClaim n a s).ctx = true := by
  unfold takeClaim; try dsimp only
  repeat' split
  all_goals first | exact h | simp (maxDischargeDepth := 30) [h]

@[simp] theorem takeAnnounce_memory (n : Nat) (d : Option Side) (r : RoleData) (s : State) (h : s.cap.memory.wf = true) :
    (takeAnnounce n d r s).cap.memory.wf = true := by
  unfold takeAnnounce; try dsimp only
  repeat' split
  all_goals first | exact h | simp (maxDischargeDepth := 30) [h]
@[simp] theorem takeAnnounce_queue (n : Nat) (d : Option Side) (r : RoleData) (s : State) (h : queueOk s.lnp.queue = true) :
    queueOk (takeAnnounce n d r s).lnp.queue = true := by
  unfold takeAnnounce; try dsimp only
  repeat' split
  all_goals first | exact h | simp (maxDischargeDepth := 30) [h]
@[simp] theorem takeAnnounce_calls (n : Nat) (d : Option Side) (r : RoleData) (s : State) (h : callsOk s.lnp.calls = true) :
    callsOk (takeAnnounce n d r s).lnp.calls = true := by
  unfold takeAnnounce; try dsimp only
  repeat' split
  all_goals first | exact h | simp (maxDischargeDepth := 30) [h]
@[simp] theorem takeAnnounce_faults (n : Nat) (d : Option Side) (r : RoleData) (s : State) (h : faultsOk s.ctx = true) :
    faultsOk (takeAnnounce n d r s).ctx = true := by
  unfold takeAnnounce; try dsimp only
  repeat' split
  all_goals first | exact h | simp (maxDischargeDepth := 30) [h]

@[simp] theorem staleRow_memory (n : Nat) (s : State) (h : s.cap.memory.wf = true) :
    (staleRow n s).cap.memory.wf = true := by
  unfold staleRow; try dsimp only
  repeat' split
  all_goals first | exact h | simp (maxDischargeDepth := 30) [h]
@[simp] theorem staleRow_queue (n : Nat) (s : State) (h : queueOk s.lnp.queue = true) :
    queueOk (staleRow n s).lnp.queue = true := by
  unfold staleRow; try dsimp only
  repeat' split
  all_goals first | exact h | simp (maxDischargeDepth := 30) [h]
@[simp] theorem staleRow_calls (n : Nat) (s : State) (h : callsOk s.lnp.calls = true) :
    callsOk (staleRow n s).lnp.calls = true := by
  unfold staleRow; try dsimp only
  repeat' split
  all_goals first | exact h | simp (maxDischargeDepth := 30) [h]
@[simp] theorem staleRow_faults (n : Nat) (s : State) (h : faultsOk s.ctx = true) :
    faultsOk (staleRow n s).ctx = true := by
  unfold staleRow; try dsimp only
  repeat' split
  all_goals first | exact h | simp (maxDischargeDepth := 30) [h]

@[simp] theorem emptyRow_memory (n : Nat) (s : State) (h : s.cap.memory.wf = true) :
    (emptyRow n s).cap.memory.wf = true := by
  unfold emptyRow; try dsimp only
  repeat' split
  all_goals first | exact h | simp (maxDischargeDepth := 30) [h]
@[simp] theorem emptyRow_queue (n : Nat) (s : State) (h : queueOk s.lnp.queue = true) :
    queueOk (emptyRow n s).lnp.queue = true := by
  unfold emptyRow; try dsimp only
  repeat' split
  all_goals first | exact h | simp (maxDischargeDepth := 30) [h]
@[simp] theorem emptyRow_calls (n : Nat) (s : State) (h : callsOk s.lnp.calls = true) :
    callsOk (emptyRow n s).lnp.calls = true := by
  unfold emptyRow; try dsimp only
  repeat' split
  all_goals first | exact h | simp (maxDischargeDepth := 30) [h]
@[simp] theorem emptyRow_faults (n : Nat) (s : State) (h : faultsOk s.ctx = true) :
    faultsOk (emptyRow n s).ctx = true := by
  unfold emptyRow; try dsimp only
  repeat' split
  all_goals first | exact h | simp (maxDischargeDepth := 30) [h]

/-! ### Frames received and sent -/

@[simp] theorem freeCalls_memory (r : CallResult) (ds : List Nat) (s : State) (h : s.cap.memory.wf = true) :
    (freeCalls r ds s).cap.memory.wf = true := by
  unfold freeCalls
  induction ds generalizing s with
  | nil => exact h
  | cons d ds ih => exact ih _ (by simp [h])
@[simp] theorem freeCalls_queue (r : CallResult) (ds : List Nat) (s : State) (h : queueOk s.lnp.queue = true) :
    queueOk (freeCalls r ds s).lnp.queue = true := by
  unfold freeCalls
  induction ds generalizing s with
  | nil => exact h
  | cons d ds ih => exact ih _ (by simp [h])
@[simp] theorem freeCalls_calls (r : CallResult) (ds : List Nat) (s : State) (h : callsOk s.lnp.calls = true) :
    callsOk (freeCalls r ds s).lnp.calls = true := by
  unfold freeCalls
  induction ds generalizing s with
  | nil => exact h
  | cons d ds ih => exact ih _ (by simp [h])
@[simp] theorem freeCalls_faults (r : CallResult) (ds : List Nat) (s : State) (h : faultsOk s.ctx = true) :
    faultsOk (freeCalls r ds s).ctx = true := by
  unfold freeCalls
  induction ds generalizing s with
  | nil => exact h
  | cons d ds ih => exact ih _ (by simp [h])

@[simp] theorem freeHeld_memory (r : CallResult) (s : State) (h : s.cap.memory.wf = true) :
    (freeHeld r s).cap.memory.wf = true := by
  unfold freeHeld; try dsimp only
  repeat' split
  all_goals first | exact h | simp (maxDischargeDepth := 30) [h]
@[simp] theorem freeHeld_queue (r : CallResult) (s : State) (h : queueOk s.lnp.queue = true) :
    queueOk (freeHeld r s).lnp.queue = true := by
  unfold freeHeld; try dsimp only
  repeat' split
  all_goals first | exact h | simp (maxDischargeDepth := 30) [h]
@[simp] theorem freeHeld_calls (r : CallResult) (s : State) (h : callsOk s.lnp.calls = true) :
    callsOk (freeHeld r s).lnp.calls = true := by
  unfold freeHeld; try dsimp only
  repeat' split
  all_goals first | exact h | simp (maxDischargeDepth := 30) [h]
@[simp] theorem freeHeld_faults (r : CallResult) (s : State) (h : faultsOk s.ctx = true) :
    faultsOk (freeHeld r s).ctx = true := by
  unfold freeHeld; try dsimp only
  repeat' split
  all_goals first | exact h | simp (maxDischargeDepth := 30) [h]

@[simp] theorem silenceLine_memory (s : State) (h : s.cap.memory.wf = true) :
    (silenceLine s).cap.memory.wf = true := by
  unfold silenceLine; try dsimp only
  repeat' split
  all_goals first | exact h | simp (maxDischargeDepth := 30) [h]
@[simp] theorem silenceLine_queue (s : State) (h : queueOk s.lnp.queue = true) :
    queueOk (silenceLine s).lnp.queue = true := freeCalls_queue _ _ _ (freeHeld_queue _ _ rfl)
@[simp] theorem silenceLine_calls (s : State) (h : callsOk s.lnp.calls = true) :
    callsOk (silenceLine s).lnp.calls = true := by
  unfold silenceLine; try dsimp only
  repeat' split
  all_goals first | exact h | simp (maxDischargeDepth := 30) [h]
@[simp] theorem silenceLine_faults (s : State) (h : faultsOk s.ctx = true) :
    faultsOk (silenceLine s).ctx = true := by
  unfold silenceLine; try dsimp only
  repeat' split
  all_goals first | exact h | simp (maxDischargeDepth := 30) [h]

@[simp] theorem duplicateFound_memory (s : State) (h : s.cap.memory.wf = true) :
    (duplicateFound s).cap.memory.wf = true := by
  unfold duplicateFound; try dsimp only
  repeat' split
  all_goals first | exact h | simp (maxDischargeDepth := 30) [h]
@[simp] theorem duplicateFound_queue (s : State) (h : queueOk s.lnp.queue = true) :
    queueOk (duplicateFound s).lnp.queue = true := by
  unfold duplicateFound; try dsimp only
  repeat' split
  all_goals first | exact h | simp (maxDischargeDepth := 30) [h]
@[simp] theorem duplicateFound_calls (s : State) (h : callsOk s.lnp.calls = true) :
    callsOk (duplicateFound s).lnp.calls = true := by
  unfold duplicateFound; try dsimp only
  repeat' split
  all_goals first | exact h | simp (maxDischargeDepth := 30) [h]
@[simp] theorem duplicateFound_faults (s : State) (h : faultsOk s.ctx = true) :
    faultsOk (duplicateFound s).ctx = true := by
  unfold duplicateFound; try dsimp only
  repeat' split
  all_goals first | exact h | simp (maxDischargeDepth := 30) [h]

@[simp] theorem answerCall_memory (d n : Nat) (c : AnswerCode) (r : Nat) (s : State) (h : s.cap.memory.wf = true) :
    (answerCall d n c r s).cap.memory.wf = true := by
  unfold answerCall; try dsimp only
  repeat' split
  all_goals first | exact h | simp (maxDischargeDepth := 30) [h]
@[simp] theorem answerCall_queue (d n : Nat) (c : AnswerCode) (r : Nat) (s : State) (h : queueOk s.lnp.queue = true) :
    queueOk (answerCall d n c r s).lnp.queue = true := by
  unfold answerCall; try dsimp only
  repeat' split
  all_goals first | exact h | simp (maxDischargeDepth := 30) [h]
@[simp] theorem answerCall_calls (d n : Nat) (c : AnswerCode) (r : Nat) (s : State) (h : callsOk s.lnp.calls = true) :
    callsOk (answerCall d n c r s).lnp.calls = true := by
  unfold answerCall; try dsimp only
  repeat' split
  all_goals first | exact h | simp (maxDischargeDepth := 30) [h]
@[simp] theorem answerCall_faults (d n : Nat) (c : AnswerCode) (r : Nat) (s : State) (h : faultsOk s.ctx = true) :
    faultsOk (answerCall d n c r s).ctx = true := by
  unfold answerCall; try dsimp only
  repeat' split
  all_goals first | exact h | simp (maxDischargeDepth := 30) [h]

@[simp] theorem createWeld_memory (b : BankName) (m : Mode) (a : StartArgs) (s : State) :
    (createWeld b m a s).cap.memory.wf = true := by
  simp [createWeld]
@[simp] theorem createWeld_queue (b : BankName) (m : Mode) (a : StartArgs) (s : State) (h : queueOk s.lnp.queue = true) :
    queueOk (createWeld b m a s).lnp.queue = true := by
  unfold createWeld; try dsimp only
  repeat' split
  all_goals first | exact h | simp (maxDischargeDepth := 30) [h]
@[simp] theorem createWeld_calls (b : BankName) (m : Mode) (a : StartArgs) (s : State) (h : callsOk s.lnp.calls = true) :
    callsOk (createWeld b m a s).lnp.calls = true := by
  unfold createWeld; try dsimp only
  repeat' split
  all_goals first | exact h | simp (maxDischargeDepth := 30) [h]
@[simp] theorem createWeld_faults (b : BankName) (m : Mode) (a : StartArgs) (s : State) :
    faultsOk (createWeld b m a s).ctx = true := by
  simp [createWeld, newContext, faultsOk]

@[simp] theorem enterClamp_memory (s : State) (h : s.cap.memory.wf = true) :
    (enterClamp s).cap.memory.wf = true := by
  unfold enterClamp; try dsimp only
  repeat' split
  all_goals first | exact h | simp (maxDischargeDepth := 30) [h]
@[simp] theorem enterClamp_queue (s : State) (h : queueOk s.lnp.queue = true) :
    queueOk (enterClamp s).lnp.queue = true := by
  unfold enterClamp; try dsimp only
  repeat' split
  all_goals first | exact h | simp (maxDischargeDepth := 30) [h]
@[simp] theorem enterClamp_calls (s : State) (h : callsOk s.lnp.calls = true) :
    callsOk (enterClamp s).lnp.calls = true := by
  unfold enterClamp; try dsimp only
  repeat' split
  all_goals first | exact h | simp (maxDischargeDepth := 30) [h]
@[simp] theorem enterClamp_faults (s : State) (h : faultsOk s.ctx = true) :
    faultsOk (enterClamp s).ctx = true := by
  unfold enterClamp; try dsimp only
  repeat' split
  all_goals first | exact h | simp (maxDischargeDepth := 30) [h]

@[simp] theorem acceptWeld_memory (d n : Nat) (b : BankName) (m : Mode) (a : StartArgs) (s : State) (h : s.cap.memory.wf = true) :
    (acceptWeld d n b m a s).cap.memory.wf = true := by
  unfold acceptWeld; try dsimp only
  repeat' split
  all_goals first | exact h | simp (maxDischargeDepth := 30) [h]
@[simp] theorem acceptWeld_queue (d n : Nat) (b : BankName) (m : Mode) (a : StartArgs) (s : State) (h : queueOk s.lnp.queue = true) :
    queueOk (acceptWeld d n b m a s).lnp.queue = true := by
  unfold acceptWeld; try dsimp only
  repeat' split
  all_goals first | exact h | simp (maxDischargeDepth := 30) [h]
@[simp] theorem acceptWeld_calls (d n : Nat) (b : BankName) (m : Mode) (a : StartArgs) (s : State) (h : callsOk s.lnp.calls = true) :
    callsOk (acceptWeld d n b m a s).lnp.calls = true := by
  unfold acceptWeld; try dsimp only
  repeat' split
  all_goals first | exact h | simp (maxDischargeDepth := 30) [h]
@[simp] theorem acceptWeld_faults (d n : Nat) (b : BankName) (m : Mode) (a : StartArgs) (s : State) (h : faultsOk s.ctx = true) :
    faultsOk (acceptWeld d n b m a s).ctx = true := by
  unfold acceptWeld; try dsimp only
  repeat' split
  all_goals first | exact h | simp (maxDischargeDepth := 30) [h]

@[simp] theorem takeWeldStart_memory (d n : Nat) (a : StartArgs) (s : State) (h : s.cap.memory.wf = true) :
    (takeWeldStart d n a s).cap.memory.wf = true := by
  unfold takeWeldStart; try dsimp only
  repeat' split
  all_goals first | exact h | simp (maxDischargeDepth := 30) [h]
@[simp] theorem takeWeldStart_queue (d n : Nat) (a : StartArgs) (s : State) (h : queueOk s.lnp.queue = true) :
    queueOk (takeWeldStart d n a s).lnp.queue = true := by
  unfold takeWeldStart; try dsimp only
  repeat' split
  all_goals first | exact h | simp (maxDischargeDepth := 30) [h]
@[simp] theorem takeWeldStart_calls (d n : Nat) (a : StartArgs) (s : State) (h : callsOk s.lnp.calls = true) :
    callsOk (takeWeldStart d n a s).lnp.calls = true := by
  unfold takeWeldStart; try dsimp only
  repeat' split
  all_goals first | exact h | simp (maxDischargeDepth := 30) [h]
@[simp] theorem takeWeldStart_faults (d n : Nat) (a : StartArgs) (s : State) (h : faultsOk s.ctx = true) :
    faultsOk (takeWeldStart d n a s).ctx = true := by
  unfold takeWeldStart; try dsimp only
  repeat' split
  all_goals first | exact h | simp (maxDischargeDepth := 30) [h]

@[simp] theorem takeWeldStop_memory (d n : Nat) (s : State) (h : s.cap.memory.wf = true) :
    (takeWeldStop d n s).cap.memory.wf = true := by
  unfold takeWeldStop; try dsimp only
  repeat' split
  all_goals first | exact h | simp (maxDischargeDepth := 30) [h]
@[simp] theorem takeWeldStop_queue (d n : Nat) (s : State) (h : queueOk s.lnp.queue = true) :
    queueOk (takeWeldStop d n s).lnp.queue = true := by
  unfold takeWeldStop; try dsimp only
  repeat' split
  all_goals first | exact h | simp (maxDischargeDepth := 30) [h]
@[simp] theorem takeWeldStop_calls (d n : Nat) (s : State) (h : callsOk s.lnp.calls = true) :
    callsOk (takeWeldStop d n s).lnp.calls = true := by
  unfold takeWeldStop; try dsimp only
  repeat' split
  all_goals first | exact h | simp (maxDischargeDepth := 30) [h]
@[simp] theorem takeWeldStop_faults (d n : Nat) (s : State) (h : faultsOk s.ctx = true) :
    faultsOk (takeWeldStop d n s).ctx = true := by
  unfold takeWeldStop; try dsimp only
  repeat' split
  all_goals first | exact h | simp (maxDischargeDepth := 30) [h]

@[simp] theorem takeAnswer_memory (d n o r : Nat) (s : State) (h : s.cap.memory.wf = true) :
    (takeAnswer d n o r s).cap.memory.wf = true := by
  unfold takeAnswer; try dsimp only
  repeat' split
  all_goals first | exact h | simp (maxDischargeDepth := 30) [h]
@[simp] theorem takeAnswer_queue (d n o r : Nat) (s : State) (h : queueOk s.lnp.queue = true) :
    queueOk (takeAnswer d n o r s).lnp.queue = true := by
  unfold takeAnswer; try dsimp only
  repeat' split
  all_goals first | exact h | simp (maxDischargeDepth := 30) [h]
@[simp] theorem takeAnswer_calls (d n o r : Nat) (s : State) (h : callsOk s.lnp.calls = true) :
    callsOk (takeAnswer d n o r s).lnp.calls = true := by
  unfold takeAnswer; try dsimp only
  repeat' split
  all_goals first | exact h | simp (maxDischargeDepth := 30) [h]
@[simp] theorem takeAnswer_faults (d n o r : Nat) (s : State) (h : faultsOk s.ctx = true) :
    faultsOk (takeAnswer d n o r s).ctx = true := by
  unfold takeAnswer; try dsimp only
  repeat' split
  all_goals first | exact h | simp (maxDischargeDepth := 30) [h]

@[simp] theorem setHaltLatch_memory (s : State) (h : s.cap.memory.wf = true) :
    (setHaltLatch s).cap.memory.wf = true := by
  unfold setHaltLatch; try dsimp only
  repeat' split
  all_goals first | exact h | simp (maxDischargeDepth := 30) [h]
@[simp] theorem setHaltLatch_queue (s : State) (h : queueOk s.lnp.queue = true) :
    queueOk (setHaltLatch s).lnp.queue = true := by
  unfold setHaltLatch; try dsimp only
  repeat' split
  all_goals first | exact h | simp (maxDischargeDepth := 30) [h]
@[simp] theorem setHaltLatch_calls (s : State) (h : callsOk s.lnp.calls = true) :
    callsOk (setHaltLatch s).lnp.calls = true := by
  unfold setHaltLatch; try dsimp only
  repeat' split
  all_goals first | exact h | simp (maxDischargeDepth := 30) [h]
@[simp] theorem setHaltLatch_faults (s : State) (h : faultsOk s.ctx = true) :
    faultsOk (setHaltLatch s).ctx = true := by
  unfold setHaltLatch; try dsimp only
  repeat' split
  all_goals first | exact h | simp (maxDischargeDepth := 30) [h]

@[simp] theorem takeHalt_memory (s : State) (h : s.cap.memory.wf = true) :
    (takeHalt s).cap.memory.wf = true := by
  unfold takeHalt; try dsimp only
  repeat' split
  all_goals first | exact h | simp (maxDischargeDepth := 30) [h]
@[simp] theorem takeHalt_queue (s : State) (h : queueOk s.lnp.queue = true) :
    queueOk (takeHalt s).lnp.queue = true := by
  unfold takeHalt; try dsimp only
  repeat' split
  all_goals first | exact h | simp (maxDischargeDepth := 30) [h]
@[simp] theorem takeHalt_calls (s : State) (h : callsOk s.lnp.calls = true) :
    callsOk (takeHalt s).lnp.calls = true := by
  unfold takeHalt; try dsimp only
  repeat' split
  all_goals first | exact h | simp (maxDischargeDepth := 30) [h]
@[simp] theorem takeHalt_faults (s : State) (h : faultsOk s.ctx = true) :
    faultsOk (takeHalt s).ctx = true := by
  unfold takeHalt; try dsimp only
  repeat' split
  all_goals first | exact h | simp (maxDischargeDepth := 30) [h]

@[simp] theorem clearQueue_memory (s : State) (h : s.cap.memory.wf = true) :
    (clearQueue s).cap.memory.wf = true := by
  unfold clearQueue; try dsimp only
  repeat' split
  all_goals first | exact h | simp (maxDischargeDepth := 30) [h]
@[simp] theorem clearQueue_queue (s : State) (h : queueOk s.lnp.queue = true) :
    queueOk (clearQueue s).lnp.queue = true := cluCleared_queue _ rfl
@[simp] theorem clearQueue_calls (s : State) (h : callsOk s.lnp.calls = true) :
    callsOk (clearQueue s).lnp.calls = true := by
  unfold clearQueue; try dsimp only
  repeat' split
  all_goals first | exact h | simp (maxDischargeDepth := 30) [h]
@[simp] theorem clearQueue_faults (s : State) (h : faultsOk s.ctx = true) :
    faultsOk (clearQueue s).ctx = true := by
  unfold clearQueue; try dsimp only
  repeat' split
  all_goals first | exact h | simp (maxDischargeDepth := 30) [h]

@[simp] theorem clearCalls_memory (s : State) (h : s.cap.memory.wf = true) :
    (clearCalls s).cap.memory.wf = true := by
  unfold clearCalls; try dsimp only
  repeat' split
  all_goals first | exact h | simp (maxDischargeDepth := 30) [h]
@[simp] theorem clearCalls_queue (s : State) (h : queueOk s.lnp.queue = true) :
    queueOk (clearCalls s).lnp.queue = true := by
  unfold clearCalls; try dsimp only
  repeat' split
  all_goals first | exact h | simp (maxDischargeDepth := 30) [h]
@[simp] theorem clearCalls_calls (s : State) (h : callsOk s.lnp.calls = true) :
    callsOk (clearCalls s).lnp.calls = true := by
  unfold clearCalls; try dsimp only
  repeat' split
  all_goals first | exact h | simp (maxDischargeDepth := 30) [h]
@[simp] theorem clearCalls_faults (s : State) (h : faultsOk s.ctx = true) :
    faultsOk (clearCalls s).ctx = true := by
  unfold clearCalls; try dsimp only
  repeat' split
  all_goals first | exact h | simp (maxDischargeDepth := 30) [h]

@[simp] theorem takeClear_memory (d : Nat) (s : State) (h : s.cap.memory.wf = true) :
    (takeClear d s).cap.memory.wf = true := by
  unfold takeClear; try dsimp only
  repeat' split
  all_goals first | exact h | simp (maxDischargeDepth := 30) [h]
@[simp] theorem takeClear_queue (d : Nat) (s : State) (h : queueOk s.lnp.queue = true) :
    queueOk (takeClear d s).lnp.queue = true := by
  unfold takeClear; try dsimp only
  repeat' split
  all_goals first | exact h | simp (maxDischargeDepth := 30) [h]
@[simp] theorem takeClear_calls (d : Nat) (s : State) (h : callsOk s.lnp.calls = true) :
    callsOk (takeClear d s).lnp.calls = true := by
  unfold takeClear; try dsimp only
  repeat' split
  all_goals first | exact h | simp (maxDischargeDepth := 30) [h]
@[simp] theorem takeClear_faults (d : Nat) (s : State) (h : faultsOk s.ctx = true) :
    faultsOk (takeClear d s).ctx = true := by
  unfold takeClear; try dsimp only
  repeat' split
  all_goals first | exact h | simp (maxDischargeDepth := 30) [h]

@[simp] theorem takeUnsupported_memory (d n : Nat) (s : State) (h : s.cap.memory.wf = true) :
    (takeUnsupported d n s).cap.memory.wf = true := by
  unfold takeUnsupported; try dsimp only
  repeat' split
  all_goals first | exact h | simp (maxDischargeDepth := 30) [h]
@[simp] theorem takeUnsupported_queue (d n : Nat) (s : State) (h : queueOk s.lnp.queue = true) :
    queueOk (takeUnsupported d n s).lnp.queue = true := by
  unfold takeUnsupported; try dsimp only
  repeat' split
  all_goals first | exact h | simp (maxDischargeDepth := 30) [h]
@[simp] theorem takeUnsupported_calls (d n : Nat) (s : State) (h : callsOk s.lnp.calls = true) :
    callsOk (takeUnsupported d n s).lnp.calls = true := by
  unfold takeUnsupported; try dsimp only
  repeat' split
  all_goals first | exact h | simp (maxDischargeDepth := 30) [h]
@[simp] theorem takeUnsupported_faults (d n : Nat) (s : State) (h : faultsOk s.ctx = true) :
    faultsOk (takeUnsupported d n s).ctx = true := by
  unfold takeUnsupported; try dsimp only
  repeat' split
  all_goals first | exact h | simp (maxDischargeDepth := 30) [h]

@[simp] theorem takeBody_memory (d : Nat) (b : RxBody) (s : State) (h : s.cap.memory.wf = true) :
    (takeBody d b s).cap.memory.wf = true := by
  cases b <;> simp [takeBody, h]
@[simp] theorem takeBody_queue (d : Nat) (b : RxBody) (s : State) (h : queueOk s.lnp.queue = true) :
    queueOk (takeBody d b s).lnp.queue = true := by
  cases b <;> simp [takeBody, h]
@[simp] theorem takeBody_calls (d : Nat) (b : RxBody) (s : State) (h : callsOk s.lnp.calls = true) :
    callsOk (takeBody d b s).lnp.calls = true := by
  cases b <;> simp [takeBody, h]
@[simp] theorem takeBody_faults (d : Nat) (b : RxBody) (s : State) (h : faultsOk s.ctx = true) :
    faultsOk (takeBody d b s).ctx = true := by
  cases b <;> simp [takeBody, h]

@[simp] theorem receive_memory (w : RxBody → Bool) (bs : List Byte) (s : State) (h : s.cap.memory.wf = true) :
    (receive w bs s).cap.memory.wf = true := by
  unfold receive; try dsimp only
  repeat' split
  all_goals first | exact h | simp (maxDischargeDepth := 30) [h]
@[simp] theorem receive_queue (w : RxBody → Bool) (bs : List Byte) (s : State) (h : queueOk s.lnp.queue = true) :
    queueOk (receive w bs s).lnp.queue = true := by
  unfold receive; try dsimp only
  repeat' split
  all_goals first | exact h | simp (maxDischargeDepth := 30) [h]
@[simp] theorem receive_calls (w : RxBody → Bool) (bs : List Byte) (s : State) (h : callsOk s.lnp.calls = true) :
    callsOk (receive w bs s).lnp.calls = true := by
  unfold receive; try dsimp only
  repeat' split
  all_goals first | exact h | simp (maxDischargeDepth := 30) [h]
@[simp] theorem receive_faults (w : RxBody → Bool) (bs : List Byte) (s : State) (h : faultsOk s.ctx = true) :
    faultsOk (receive w bs s).ctx = true := by
  unfold receive; try dsimp only
  repeat' split
  all_goals first | exact h | simp (maxDischargeDepth := 30) [h]

@[simp] theorem beginAttempt_memory (n : Nat) (s : State) (h : s.cap.memory.wf = true) :
    (beginAttempt n s).cap.memory.wf = true := by
  unfold beginAttempt; try dsimp only
  repeat' split
  all_goals first | exact h | simp (maxDischargeDepth := 30) [h]
@[simp] theorem beginAttempt_queue (n : Nat) (s : State) (h : queueOk s.lnp.queue = true) :
    queueOk (beginAttempt n s).lnp.queue = true := by
  unfold beginAttempt; try dsimp only
  repeat' split
  all_goals first | exact h | simp (maxDischargeDepth := 30) [h]
@[simp] theorem beginAttempt_calls (n : Nat) (s : State) (h : callsOk s.lnp.calls = true) :
    callsOk (beginAttempt n s).lnp.calls = true := by
  unfold beginAttempt; try dsimp only
  repeat' split
  all_goals first | exact h | simp (maxDischargeDepth := 30) [h]
@[simp] theorem beginAttempt_faults (n : Nat) (s : State) (h : faultsOk s.ctx = true) :
    faultsOk (beginAttempt n s).ctx = true := by
  unfold beginAttempt; try dsimp only
  repeat' split
  all_goals first | exact h | simp (maxDischargeDepth := 30) [h]

@[simp] theorem frameWon_memory (f : OutFrame) (s : State) (h : s.cap.memory.wf = true) :
    (frameWon f s).cap.memory.wf = true := by
  unfold frameWon; try dsimp only
  repeat' split
  all_goals first | exact h | simp (maxDischargeDepth := 30) [h]
@[simp] theorem frameWon_queue (f : OutFrame) (s : State) (h : queueOk s.lnp.queue = true) :
    queueOk (frameWon f s).lnp.queue = true := by
  unfold frameWon; try dsimp only
  repeat' split
  all_goals first | exact h | simp (maxDischargeDepth := 30) [h]
@[simp] theorem frameWon_calls (f : OutFrame) (s : State) (h : callsOk s.lnp.calls = true) :
    callsOk (frameWon f s).lnp.calls = true := by
  unfold frameWon
  repeat' split
  all_goals first | exact h | (simp [h]; done) | exact callsOk_map _ (by intro r; unfold startDeadline; split <;> rfl) _ h
@[simp] theorem frameWon_faults (f : OutFrame) (s : State) (h : faultsOk s.ctx = true) :
    faultsOk (frameWon f s).ctx = true := by
  unfold frameWon; try dsimp only
  repeat' split
  all_goals first | exact h | simp (maxDischargeDepth := 30) [h]

@[simp] theorem winAttempt_memory (s : State) (h : s.cap.memory.wf = true) :
    (winAttempt s).cap.memory.wf = true := by
  unfold winAttempt; try dsimp only
  repeat' split
  all_goals first | exact h | simp (maxDischargeDepth := 30) [h]
@[simp] theorem winAttempt_queue (s : State) (h : queueOk s.lnp.queue = true) :
    queueOk (winAttempt s).lnp.queue = true := by
  unfold winAttempt
  split
  · rename_i x y f rest _ hq
    have h1 := queueOk_tail f rest (by rw [← hq]; exact h)
    simp [h1]
  · exact h
@[simp] theorem winAttempt_calls (s : State) (h : callsOk s.lnp.calls = true) :
    callsOk (winAttempt s).lnp.calls = true := by
  unfold winAttempt; try dsimp only
  repeat' split
  all_goals first | exact h | simp (maxDischargeDepth := 30) [h]
@[simp] theorem winAttempt_faults (s : State) (h : faultsOk s.ctx = true) :
    faultsOk (winAttempt s).ctx = true := by
  unfold winAttempt; try dsimp only
  repeat' split
  all_goals first | exact h | simp (maxDischargeDepth := 30) [h]

@[simp] theorem frameDiscarded_memory (f : OutFrame) (s : State) (h : s.cap.memory.wf = true) :
    (frameDiscarded f s).cap.memory.wf = true := by
  unfold frameDiscarded; try dsimp only
  repeat' split
  all_goals first | exact h | simp (maxDischargeDepth := 30) [h]
@[simp] theorem frameDiscarded_queue (f : OutFrame) (s : State) (h : queueOk s.lnp.queue = true) :
    queueOk (frameDiscarded f s).lnp.queue = true := by
  unfold frameDiscarded; try dsimp only
  repeat' split
  all_goals first | exact h | simp (maxDischargeDepth := 30) [h]
@[simp] theorem frameDiscarded_calls (f : OutFrame) (s : State) (h : callsOk s.lnp.calls = true) :
    callsOk (frameDiscarded f s).lnp.calls = true := by
  unfold frameDiscarded; try dsimp only
  repeat' split
  all_goals first | exact h | simp (maxDischargeDepth := 30) [h]
@[simp] theorem frameDiscarded_faults (f : OutFrame) (s : State) (h : faultsOk s.ctx = true) :
    faultsOk (frameDiscarded f s).ctx = true := by
  unfold frameDiscarded; try dsimp only
  repeat' split
  all_goals first | exact h | simp (maxDischargeDepth := 30) [h]

@[simp] theorem discardHead_memory (f : OutFrame) (q : List OutFrame) (s : State) (h : s.cap.memory.wf = true) :
    (discardHead f q s).cap.memory.wf = true := by
  unfold discardHead; try dsimp only
  repeat' split
  all_goals first | exact h | simp (maxDischargeDepth := 30) [h]
@[simp] theorem discardHead_queue (f : OutFrame) (q : List OutFrame) (s : State) (h : queueOk q = true) :
    queueOk (discardHead f q s).lnp.queue = true := by
  unfold discardHead
  simp (maxDischargeDepth := 30) [h]
@[simp] theorem discardHead_calls (f : OutFrame) (q : List OutFrame) (s : State) (h : callsOk s.lnp.calls = true) :
    callsOk (discardHead f q s).lnp.calls = true := by
  unfold discardHead; try dsimp only
  repeat' split
  all_goals first | exact h | simp (maxDischargeDepth := 30) [h]
@[simp] theorem discardHead_faults (f : OutFrame) (q : List OutFrame) (s : State) (h : faultsOk s.ctx = true) :
    faultsOk (discardHead f q s).ctx = true := by
  unfold discardHead; try dsimp only
  repeat' split
  all_goals first | exact h | simp (maxDischargeDepth := 30) [h]

@[simp] theorem loseAttempt_memory (s : State) (h : s.cap.memory.wf = true) :
    (loseAttempt s).cap.memory.wf = true := by
  unfold loseAttempt; try dsimp only
  repeat' split
  all_goals first | exact h | simp (maxDischargeDepth := 30) [h]
@[simp] theorem loseAttempt_queue (s : State) (h : queueOk s.lnp.queue = true) :
    queueOk (loseAttempt s).lnp.queue = true := by
  unfold loseAttempt; try dsimp only
  split
  · rename_i x y f rest _ hq
    have h1 := queueOk_tail f rest (by rw [← hq]; exact h)
    split
    · exact discardHead_queue _ _ _ h1
    · simpa [hq] using h
  · exact h
@[simp] theorem loseAttempt_calls (s : State) (h : callsOk s.lnp.calls = true) :
    callsOk (loseAttempt s).lnp.calls = true := by
  unfold loseAttempt; try dsimp only
  repeat' split
  all_goals first | exact h | simp (maxDischargeDepth := 30) [h]
@[simp] theorem loseAttempt_faults (s : State) (h : faultsOk s.ctx = true) :
    faultsOk (loseAttempt s).ctx = true := by
  unfold loseAttempt; try dsimp only
  repeat' split
  all_goals first | exact h | simp (maxDischargeDepth := 30) [h]

@[simp] theorem expireCall_memory (d : Nat) (s : State) (h : s.cap.memory.wf = true) :
    (expireCall d s).cap.memory.wf = true := by
  unfold expireCall; try dsimp only
  repeat' split
  all_goals first | exact h | simp (maxDischargeDepth := 30) [h]
@[simp] theorem expireCall_queue (d : Nat) (s : State) (h : queueOk s.lnp.queue = true) :
    queueOk (expireCall d s).lnp.queue = true := by
  unfold expireCall; try dsimp only
  repeat' split
  all_goals first | exact h | simp (maxDischargeDepth := 30) [h]
@[simp] theorem expireCall_calls (d : Nat) (s : State) (h : callsOk s.lnp.calls = true) :
    callsOk (expireCall d s).lnp.calls = true := by
  unfold expireCall; try dsimp only
  repeat' split
  all_goals first | exact h | simp (maxDischargeDepth := 30) [h]
@[simp] theorem expireCall_faults (d : Nat) (s : State) (h : faultsOk s.ctx = true) :
    faultsOk (expireCall d s).ctx = true := by
  unfold expireCall; try dsimp only
  repeat' split
  all_goals first | exact h | simp (maxDischargeDepth := 30) [h]

@[simp] theorem announceTick_memory (s : State) (h : s.cap.memory.wf = true) :
    (announceTick s).cap.memory.wf = true := by
  unfold announceTick; try dsimp only
  repeat' split
  all_goals first | exact h | simp (maxDischargeDepth := 30) [h]
@[simp] theorem announceTick_queue (s : State) (h : queueOk s.lnp.queue = true) :
    queueOk (announceTick s).lnp.queue = true := by
  unfold announceTick; try dsimp only
  repeat' split
  all_goals first | exact h | simp (maxDischargeDepth := 30) [h]
@[simp] theorem announceTick_calls (s : State) (h : callsOk s.lnp.calls = true) :
    callsOk (announceTick s).lnp.calls = true := by
  unfold announceTick; try dsimp only
  repeat' split
  all_goals first | exact h | simp (maxDischargeDepth := 30) [h]
@[simp] theorem announceTick_faults (s : State) (h : faultsOk s.ctx = true) :
    faultsOk (announceTick s).ctx = true := by
  unfold announceTick; try dsimp only
  repeat' split
  all_goals first | exact h | simp (maxDischargeDepth := 30) [h]

end Sys2Proof.Machine
end

