-- ==== Sys2Proof/Laws/Spec.lean ====
section
/-! SUPPORT. What the shared operations do, said once: entering a fault, working the outcome, an abort, a frame taken, a transfer taken. -/
namespace Sys2Proof.Machine

/-! ### The weld context and the fault log -/

/-- An activation changes the weld context in its trace-truncated mark alone. -/
theorem activate_some (src : Source) (s : State) (c : WeldCtx) (h : s.ctx = some c) :
    ∃ c', (activate src s).ctx = some c' ∧ SameTruncated c c' := by
  obtain ⟨b, hb⟩ := activate_ctx src s
  rw [hb, h]
  exact ⟨_, rfl, rfl⟩

theorem activate_none (src : Source) (s : State) (h : s.ctx = none) : (activate src s).ctx = none := by
  obtain ⟨b, hb⟩ := activate_ctx src s
  rw [hb, h]; rfl

theorem SameTruncated.refl (c : WeldCtx) : SameTruncated c c := rfl

theorem SameTruncated.trans {a b c : WeldCtx} (h : SameTruncated a b) (k : SameTruncated b c) : SameTruncated a c := by
  unfold SameTruncated at *
  rw [k, h]

/-- R183: a fault filed leaves a first-fault record that is present. -/
theorem file_first_some (f g : FirstFault) (log : FaultLog) (h : log.first = some g) : (log.file f).first = some g := by
  simp [FaultLog.file, h]

/-- R183: a fault filed in an empty log becomes the first-fault record. -/
theorem file_first_none (f : FirstFault) (log : FaultLog) (h : log.first = none) : (log.file f).first = some f := by
  simp [FaultLog.file, h]

/-- What an operation on the line does to the store: the log may take faults, and a first-fault record stays. -/
structure LogOnly (s t : State) : Prop where
  store : t.rst = { s.rst with log := t.rst.log }
  kept  : ∀ f, s.rst.log.first = some f → t.rst.log.first = some f

theorem LogOnly.refl (s : State) : LogOnly s s := ⟨rfl, fun _ h => h⟩

theorem LogOnly.of_eq {s t : State} (h : t.rst = s.rst) : LogOnly s t :=
  ⟨by rw [h], fun _ hf => by rw [h]; exact hf⟩

theorem LogOnly.trans {s t u : State} (h : LogOnly s t) (k : LogOnly t u) : LogOnly s u :=
  ⟨by rw [k.store, h.store], fun f hf => k.kept f (h.kept f hf)⟩

theorem logFault_logOnly (k : FaultKind) (w : Option Nat) (i : Option Int) (s : State) : LogOnly s (logFault k w i s) :=
  ⟨by simp, fun f hf => by simp [file_first_some _ _ _ hf]⟩

theorem offer_logOnly (f : OutFrame) (s : State) : LogOnly s (offer f s) := by
  unfold offer
  split
  · exact .refl s
  · split
    · exact .of_eq rfl
    · exact logFault_logOnly _ _ _ _

theorem offer_logOnly_of (f : OutFrame) {s x : State} (h : x.rst = s.rst) : LogOnly s (offer f x) :=
  (LogOnly.of_eq h).trans (offer_logOnly f x)

theorem yieldOwnClaim_logOnly (s : State) : LogOnly s (yieldOwnClaim s) := by
  unfold yieldOwnClaim; dsimp only
  split
  · exact .refl s
  · exact .of_eq rfl
  · exact .of_eq rfl
  · exact LogOnly.trans (offer_logOnly_of _ (by simp)) (.of_eq rfl)

theorem requestCall_logOnly (d : Nat) (b : CallBody) (s : State) : LogOnly s (requestCall d b s) := by
  unfold requestCall; dsimp only
  split
  · split
    · exact offer_logOnly_of _ rfl
    · exact offer_logOnly_of _ rfl
  · split <;> exact .of_eq rfl

theorem sendLetGo_logOnly (s : State) : LogOnly s (sendLetGo s) := by
  unfold sendLetGo
  split
  · exact .refl s
  · split
    · exact .refl s
    · exact requestCall_logOnly _ _ _

/-! ### A fault entered -/

/-- R71, R72: what entering a fault does to the context and the log. -/
theorem enterFaultAs_ctx (p : SeqState) (k : FaultKind) (i : Option Int) (s : State) (c : WeldCtx) (h : s.ctx = some c) :
    (∃ c', (enterFaultAs p k i s).ctx = some c' ∧ SameTruncated (c.addFault k p).1 c')
    ∧ (enterFaultAs p k i s).rst = { s.rst with
        log := s.rst.log.file { kind := k, state := s.wsq.seq, weldNumber := some c.weldNumber, input := i } } := by
  unfold enterFaultAs
  rw [h]; dsimp only
  split
  · refine ⟨?_, by simp⟩
    simp only [logFault_ctx]
    exact activate_some _ _ _ rfl
  · exact ⟨⟨_, by simp, .refl _⟩, by simp⟩

theorem enterFault_entered (k : FaultKind) (i : Option Int) (s : State) (c : WeldCtx) (h : s.ctx = some c) :
    Entered k i s (enterFault k i s) := by
  obtain ⟨⟨c', h1, h2⟩, h3⟩ := enterFaultAs_ctx s.wsq.seq k i s c h
  constructor
  · exact ⟨c, c', h, h1, h2, h3⟩
  all_goals first
    | simp
    | constructor <;> simp

/-- R72, R183: what handing a fault to the device fault log does. -/
theorem logFault_eq (k : FaultKind) (w : Option Nat) (i : Option Int) (s : State) :
    logFault k w i s = { s with
      rst := { s.rst with log := s.rst.log.file { kind := k, state := s.wsq.seq, weldNumber := w, input := i } }
      lnp := (logFault k w i s).lnp } := by
  unfold logFault announceChange requestAnnounce
  dsimp only
  split
  · rfl
  · split <;> rfl

/-- R71, R72: all that entering a fault with a given phase does. -/
theorem enterFaultAs_kindEntered (p : SeqState) (k : FaultKind) (i : Option Int) (s : State) (c : WeldCtx) (h : s.ctx = some c) :
    KindEntered k p i s (enterFaultAs p k i s) := by
  refine ⟨c, h, ?_, by simp⟩
  unfold enterFaultAs
  rw [h]; dsimp only
  rw [logFault_eq]
  split <;> simp

/-- R73, step 1: the two cases of the energy figure. -/
theorem settleEnergy_cases (s : State) (c : WeldCtx) (h : s.ctx = some c) :
    let e := s.mfe.energyFigure
    let w : State := { s with ctx := some { c with progress := { c.progress with energy := e } } }
    (c.heatBegan = true → e < (s.bank c.bank).image.eMin ∨ (s.bank c.bank).image.eMax < e →
      KindEntered .energyRange c.phaseReached none w (settleEnergy s))
    ∧ (c.heatBegan = false ∨ ((s.bank c.bank).image.eMin ≤ e ∧ e ≤ (s.bank c.bank).image.eMax) → settleEnergy s = w) := by
  have hw : s.mapProgress (fun p => { p with energy := s.mfe.energyFigure })
      = { s with ctx := some { c with progress := { c.progress with energy := s.mfe.energyFigure } } } := by
    simp [State.mapProgress, State.mapCtx, h]
  have hs : s.sched = (s.bank c.bank).image := by simp [State.sched, h]
  unfold settleEnergy
  rw [hw, hs]
  dsimp only
  constructor
  · intro h1 h2
    rw [if_pos (by simpa [h1] using h2)]
    exact enterFaultAs_kindEntered _ _ _ _ _ rfl
  · intro h1
    rw [if_neg]
    simp only [Bool.and_eq_true, Bool.or_eq_true, decide_eq_true_eq]
    rintro ⟨h2, h3⟩
    rcases h1 with h1 | h1
    · simp [h1] at h2
    · omega

/-- R73, step 2: the two cases of the achieved neutral temperature. -/
theorem settleNeutral_cases (s : State) (c : WeldCtx) (h : s.ctx = some c) :
    let tA := achievedNeutral (s.bank c.bank).image c
    let w : State := { s with ctx := some { c with plan := { c.plan with tA := tA } } }
    let off : Prop := ∃ x, tA = some x ∧ (s.bank c.bank).image.tauN < (x - c.tN).natAbs
    (off → KindEntered .neutralOff c.phaseReached tA w (settleNeutral s)) ∧ (¬off → settleNeutral s = w) := by
  have hs : s.sched = (s.bank c.bank).image := by simp [State.sched, h]
  have hw (x : Option Int) : s.mapCtx (fun c => { c with plan := { c.plan with tA := x } })
      = { s with ctx := some { c with plan := { c.plan with tA := x } } } := by simp [State.mapCtx, h]
  unfold settleNeutral
  rw [h]; dsimp only
  rw [hs, hw]
  cases hx : achievedNeutral (s.bank c.bank).image c with
  | none => simp
  | some x =>
    simp only [neutralOff, Option.some.injEq, exists_eq_left', decide_eq_true_eq]
    constructor
    · intro h1; rw [if_pos h1]; exact enterFaultAs_kindEntered _ _ _ _ _ rfl
    · intro h1; rw [if_neg h1]

/-! ### The end of every meaning -/

theorem gateCurrent_closed (s : State) (h : s.gateOpen = false) :
    (gateCurrent s).mfe = { s.mfe with driven := { s.mfe.driven with current := 0 } } := by
  simp [gateCurrent, h]

theorem gateCurrent_open (s : State) (h : s.gateOpen = true) : gateCurrent s = s := by
  simp [gateCurrent, h]

/-! ### The outgoing queue -/

/-- R146: an ANNOUNCE that is asked for is in the queue, if there was room or one waited. -/
theorem requestAnnounce_mem (s : State) (hs : s.wsq.silence = false)
    (h : s.lnp.queue.length < queueLimit ∨ .announce ∈ s.lnp.queue) : .announce ∈ (requestAnnounce s).lnp.queue := by
  simp only [requestAnnounce, Lnp.wantAnnounce, hs]
  by_cases hc : s.lnp.queue.contains .announce = true
  · have : OutFrame.announce ∈ s.lnp.queue := by simpa using hc
    rw [if_pos hc]
    split <;> exact this
  · rw [if_neg hc]
    rcases h with h | h
    · rw [if_neg (by simp), if_pos h]; simp
    · exact absurd (by simpa using h) hc

/-- R146: asking for an ANNOUNCE keeps every frame in its place. -/
theorem requestAnnounce_prefix (s : State) : s.lnp.queue <+: (requestAnnounce s).lnp.queue := by
  simp only [requestAnnounce, Lnp.wantAnnounce]
  repeat' split
  all_goals first | exact List.prefix_refl _ | exact List.prefix_append _ _

theorem announceChange_prefix (s : State) : s.lnp.queue <+: (announceChange s).lnp.queue := by
  unfold announceChange
  split
  · exact requestAnnounce_prefix s
  · exact List.prefix_refl _

/-- R148: a frame offered to a queue that is not full joins it at the end, unless the head is silenced. -/
theorem offer_queue_room (f : OutFrame) (s : State) (hs : s.wsq.silence = false) (h : s.lnp.queue.length < queueLimit) :
    offer f s = { s with lnp := { s.lnp with queue := s.lnp.queue ++ [f] } } := by
  simp [offer, hs, Lnp.hasRoom, h, Lnp.join]

/-- R148: a silenced head offers nothing. -/
theorem offer_silenced (f : OutFrame) (s : State) (hs : s.wsq.silence = true) : offer f s = s := by
  simp [offer, hs]

/-! ### The line through an announced change -/

/-- What asking for ANNOUNCEs does to the line: the queue stands, or one ANNOUNCE has joined a queue without one; the calls
and the tensor's state stand. -/
structure Announced (s t : State) : Prop where
  queue : t.lnp.queue = s.lnp.queue ∨ (.announce ∉ s.lnp.queue ∧ t.lnp.queue = s.lnp.queue ++ [.announce])
  calls : t.lnp.calls = s.lnp.calls ∧ t.lnp.held = s.lnp.held ∧ t.lnp.nextCall = s.lnp.nextCall
  quiet : t.wsq.silence = s.wsq.silence
  tnl   : t.tnl = s.tnl

theorem Announced.refl (s : State) : Announced s s := ⟨.inl rfl, ⟨rfl, rfl, rfl⟩, rfl, rfl⟩

theorem Announced.trans {s t u : State} (h : Announced s t) (k : Announced t u) : Announced s u where
  queue := by
    rcases h.queue with e | ⟨n, e⟩ <;> rcases k.queue with e' | ⟨n', e'⟩
    · exact .inl (e'.trans e)
    · exact .inr ⟨e ▸ n', by rw [e', e]⟩
    · exact .inr ⟨n, e'.trans e⟩
    · exact absurd (by rw [e]; simp) n'
  calls := ⟨k.calls.1.trans h.calls.1, k.calls.2.1.trans h.calls.2.1, k.calls.2.2.trans h.calls.2.2⟩
  quiet := k.quiet.trans h.quiet
  tnl := k.tnl.trans h.tnl

theorem Announced.of_eq {s t : State} (hl : t.lnp = s.lnp) (hq : t.wsq.silence = s.wsq.silence) (ht : t.tnl = s.tnl) :
    Announced s t := ⟨.inl (by rw [hl]), ⟨by rw [hl], by rw [hl], by rw [hl]⟩, hq, ht⟩

theorem Announced.after {s x t : State} (h : Announced x t) (hl : x.lnp = s.lnp) (hq : x.wsq.silence = s.wsq.silence)
    (ht : x.tnl = s.tnl) : Announced s t := (Announced.of_eq hl hq ht).trans h

theorem Announced.length {s t : State} (h : Announced s t) : t.lnp.queue.length ≤ s.lnp.queue.length + 1 := by
  rcases h.queue with e | ⟨_, e⟩ <;> simp [e]

theorem requestAnnounce_announced (s : State) : Announced s (requestAnnounce s) := by
  simp only [requestAnnounce, Lnp.wantAnnounce]
  split
  · split <;> exact ⟨.inl rfl, ⟨rfl, rfl, rfl⟩, rfl, rfl⟩
  · rename_i hc
    repeat' split
    · exact .refl s
    · exact ⟨.inr ⟨by simpa using hc, rfl⟩, ⟨rfl, rfl, rfl⟩, rfl, rfl⟩
    · exact .refl s

theorem announceChange_announced (s : State) : Announced s (announceChange s) := by
  unfold announceChange
  split
  · exact requestAnnounce_announced s
  · exact .refl s

theorem logFault_announced (k : FaultKind) (w : Option Nat) (i : Option Int) (s : State) :
    Announced s (logFault k w i s) := by
  unfold logFault; dsimp only
  split
  · exact .of_eq rfl rfl rfl
  · exact (announceChange_announced _).after rfl rfl rfl

theorem activate_announced (src : Source) (s : State) : Announced s (activate src s) := .of_eq (by simp) (by simp) (by simp)

theorem enterFaultAs_announced (p : SeqState) (k : FaultKind) (i : Option Int) (s : State) :
    Announced s (enterFaultAs p k i s) := by
  unfold enterFaultAs
  split
  · exact logFault_announced _ _ _ _
  · dsimp only
    refine Announced.trans ?_ (logFault_announced _ _ _ _)
    split
    · exact (activate_announced _ _).after rfl rfl rfl
    · exact .of_eq rfl rfl rfl

theorem enterState_announced (st : SeqState) (s : State) : Announced s (enterState st s) := by
  unfold enterState
  exact (announceChange_announced _).after (by simp) (by simp) (by simp)

theorem setOwnClaim_announced (v : Nat) (s : State) : Announced s (setOwnClaim v s) := by
  unfold setOwnClaim
  split
  · exact .refl s
  · exact (announceChange_announced _).after (by simp) (by simp) (by simp)

/-- R148: an offer keeps every frame of the queue but a waiting ANNOUNCE. -/
theorem offer_keeps (f g : OutFrame) (s : State) (hg : g ≠ .announce) (h : g ∈ s.lnp.queue) : g ∈ (offer f s).lnp.queue := by
  unfold offer
  split
  · exact h
  · split
    · simp only [Lnp.join]
      split
      · simp [h]
      · simp [(List.mem_erase_of_ne hg).mpr h]
    · rcases (logFault_announced .lineFault s.weldNumber? (some f.kindCode) s).queue with e | ⟨_, e⟩ <;>
        simp [lineFault, e, h]

theorem lineFault_callsKept (f : OutFrame) (s : State) : (lineFault f s).lnp.calls = s.lnp.calls
    ∧ (lineFault f s).lnp.held = s.lnp.held ∧ (lineFault f s).lnp.nextCall = s.lnp.nextCall :=
  (logFault_announced _ _ _ _).calls

theorem offer_callsKept (f : OutFrame) (s : State) : (offer f s).lnp.calls = s.lnp.calls
    ∧ (offer f s).lnp.held = s.lnp.held ∧ (offer f s).lnp.nextCall = s.lnp.nextCall := by
  unfold offer
  split
  · exact ⟨rfl, rfl, rfl⟩
  · split
    · simp only [Lnp.join]
      split <;> exact ⟨rfl, rfl, rfl⟩
    · exact lineFault_callsKept f s

/-- R127: what giving the claim back does to the line after announced changes from `s0`: a YIELD joins a queue with room
and nothing else changes. -/
theorem yieldOwnClaim_line {s0 s : State} (h : Announced s0 s) :
    ((yieldOwnClaim s).lnp.calls = s0.lnp.calls ∧ (yieldOwnClaim s).lnp.held = s0.lnp.held
      ∧ (yieldOwnClaim s).lnp.nextCall = s0.lnp.nextCall)
    ∧ (s0.lnp.queue.length < 6 → (yieldOwnClaim s).lnp.queue.length < 8)
    ∧ (s.clu.step ≠ .idle → s.clu.step ≠ .waiting → s.clu.step ≠ .backoff → s0.wsq.silence = false →
        s0.lnp.queue.length < 7 → .yieldClaim s.weldNumber ∈ (yieldOwnClaim s).lnp.queue) := by
  have hl := h.length
  unfold yieldOwnClaim; dsimp only
  split <;> rename_i hs
  · exact ⟨h.calls, fun _ => by omega, fun n => absurd hs n⟩
  · exact ⟨h.calls, fun _ => by simp; omega, fun _ n => absurd hs n⟩
  · exact ⟨h.calls, fun _ => by simp; omega, fun _ _ n => absurd hs n⟩
  · have k := h.trans ((setOwnClaim_announced 0 { s with clu := { s.clu with
      settleTimer := none, backoffTimer := none, shedTimer := none, claimWait := none } }).after rfl rfl rfl)
    have hk := k.length
    generalize setOwnClaim 0 _ = x at k hk ⊢
    refine ⟨?_, fun hq => ?_, fun _ _ _ hv hq => ?_⟩
    · obtain ⟨a, b, c⟩ := offer_callsKept (.yieldClaim s.weldNumber) x
      exact ⟨a.trans k.calls.1, b.trans k.calls.2.1, c.trans k.calls.2.2⟩
    · by_cases hv : s0.wsq.silence = true
      · rw [offer_silenced _ _ (k.quiet.trans hv)]
        dsimp only; omega
      · rw [offer_queue_room _ _ (k.quiet.trans (by simpa using hv)) (by unfold queueLimit; omega)]
        simp; omega
    · rw [offer_queue_room _ _ (k.quiet.trans hv) (by unfold queueLimit; omega)]
      simp

/-- R140, R150: what the LET_GO call does to the line: it joins a queue with room when no call is out, and a YIELD in the
queue stays there. -/
theorem sendLetGo_line (s : State) (w : Nat) (h : .yieldClaim w ∈ s.lnp.queue) :
    .yieldClaim w ∈ (sendLetGo s).lnp.queue := by
  unfold sendLetGo
  split
  · exact h
  · split
    · exact h
    · unfold requestCall; dsimp only
      repeat' split
      · exact offer_keeps _ _ _ (by simp) h
      · exact offer_keeps _ _ _ (by simp) h
      · exact h
      · exact h

theorem sendLetGo_call (s : State) (p : Nat) (hp : s.pair = some p) (hv : s.wsq.silence = false) (hc : s.lnp.calls = [])
    (hq : s.lnp.queue.length < 8) : sendLetGo s = { s with
      lnp := { s.lnp with
        queue := s.lnp.queue ++ [.call p s.lnp.nextCall (.letGo s.weldNumber)]
        nextCall := (s.lnp.nextCall + 1) % 256
        calls := [{ dest := p, number := s.lnp.nextCall, closure := false, deadline := none }] }
      tnl := { s.tnl with
        call := some { closure := false, dest := p, weldNumber := s.weldNumber, number := some s.lnp.nextCall } } } := by
  simp [sendLetGo, hp, hv, requestCall, Lnp.callAllowed, hc, offerTaken, Lnp.hasRoom, queueLimit, hq, offer, Lnp.join,
    CallBody.isClosure, CallBody.weldNumber]

theorem sendLetGo_silenced (s : State) (hv : s.wsq.silence = true) : sendLetGo s = s := by
  unfold sendLetGo
  split
  · rfl
  · rw [if_pos hv]

/-! ### An abort -/

theorem LogOnly.then_eq {s t u : State} (h : LogOnly s t) (k : u.rst = t.rst) : LogOnly s u := h.trans (.of_eq k)

theorem makeSafe_logOnly (s : State) : LogOnly s (makeSafe s) := by
  have tail : ∀ y : State, LogOnly s y → LogOnly s
      (let s2 := stopTensor y
       let s3 := if s2.tnl.closureAccepted then sendLetGo s2 else s2
       { s3 with wsq := { s3.wsq with clampTimer := startTimer 5000 } }) := by
    intro y hy
    have h2 : LogOnly s (stopTensor y) := hy.then_eq (by simp)
    dsimp only
    split
    · exact (h2.trans (sendLetGo_logOnly _)).then_eq (by rfl)
    · exact h2.then_eq (by rfl)
  exact tail _ ((LogOnly.of_eq (by rfl)).trans (yieldOwnClaim_logOnly _))

theorem setOwnClaim_some (v : Nat) (s : State) (c : WeldCtx) (h : s.ctx = some c) :
    ∃ c', (setOwnClaim v s).ctx = some c' ∧ SameTruncated c c' := by
  unfold setOwnClaim
  split
  · exact ⟨c, h, .refl c⟩
  · simp only [announceChange_ctx]
    exact activate_some _ _ _ h

theorem yieldOwnClaim_some (s : State) (c : WeldCtx) (h : s.ctx = some c) :
    ∃ c', (yieldOwnClaim s).ctx = some c' ∧ SameTruncated c c' := by
  unfold yieldOwnClaim; dsimp only
  split
  · exact ⟨c, h, .refl c⟩
  · exact ⟨c, h, .refl c⟩
  · exact ⟨c, h, .refl c⟩
  · simp only [offer_ctx]
    exact setOwnClaim_some _ _ _ h

theorem makeSafe_some (s : State) (c : WeldCtx) (h : s.ctx = some c) :
    ∃ c', (makeSafe s).ctx = some c' ∧ SameTruncated c c' := by
  unfold makeSafe; dsimp only
  split
  · simp only [sendLetGo_ctx, stopTensor_ctx]
    exact yieldOwnClaim_some _ _ h
  · simp only [stopTensor_ctx]
    exact yieldOwnClaim_some _ _ h

/-- R127: the claim after it is given back. -/
theorem yieldOwnClaim_clu (s : State) :
    (yieldOwnClaim s).clu.step = .idle
    ∧ (s.clu.step ≠ .idle → s.clu.step ≠ .waiting → s.clu.step ≠ .backoff → (yieldOwnClaim s).clu.ownClaim = 0)
    ∧ (s.clu.step = .idle → (yieldOwnClaim s).clu = s.clu) := by
  unfold yieldOwnClaim; dsimp only
  split <;> rename_i h
  · simp [h]
  · simp [h]
  · simp [h]
  · refine ⟨rfl, fun _ _ _ => ?_, fun hi => absurd hi (by assumption)⟩
    simp only [offer_clu]
    unfold setOwnClaim
    split
    · assumption
    · simp

theorem requestCall_tnl (d : Nat) (b : CallBody) (s : State) :
    (requestCall d b s).tnl = { s.tnl with call := (requestCall d b s).tnl.call } := by
  unfold requestCall; dsimp only
  repeat' split
  all_goals simp

theorem sendLetGo_tnl (s : State) : (sendLetGo s).tnl = { s.tnl with call := (sendLetGo s).tnl.call } := by
  unfold sendLetGo
  repeat' split
  · rfl
  · rfl
  · exact requestCall_tnl _ _ _

theorem makeSafe_wsq (s : State) : (makeSafe s).wsq =
    { s.wsq with stroke := .none, upsetTimer := none, clampTimer := some { length := 5000, elapsed := 0 } } := by
  unfold makeSafe; dsimp only
  split <;> simp [startTimer]

theorem makeSafe_mfe (s : State) : (makeSafe s).mfe =
    { s.mfe with set := { current := 0, velocity := 0, force := 0, clamp := .opn } } := by
  unfold makeSafe; dsimp only
  split <;> simp

theorem makeSafe_clu (s : State) : (makeSafe s).clu.step = .idle
    ∧ (s.clu.step ≠ .idle → s.clu.step ≠ .waiting → s.clu.step ≠ .backoff → (makeSafe s).clu.ownClaim = 0)
    ∧ (s.clu.step = .idle → (makeSafe s).clu = s.clu) := by
  have key : ∀ x : State, x.clu = s.clu → (yieldOwnClaim x).clu.step = .idle
      ∧ (s.clu.step ≠ .idle → s.clu.step ≠ .waiting → s.clu.step ≠ .backoff → (yieldOwnClaim x).clu.ownClaim = 0)
      ∧ (s.clu.step = .idle → (yieldOwnClaim x).clu = s.clu) := by
    intro x hx
    rw [← hx]
    exact yieldOwnClaim_clu x
  unfold makeSafe; dsimp only
  split
  · simp only [sendLetGo_clu, stopTensor_clu]
    exact key _ rfl
  · simp only [stopTensor_clu]
    exact key _ rfl

theorem makeSafe_tnl (s : State) : (makeSafe s).tnl.watch = .none ∧ (makeSafe s).tnl.tensorWait = none
    ∧ (makeSafe s).tnl.closureWaiting = false ∧ (makeSafe s).tnl.closureAccepted = s.tnl.closureAccepted := by
  unfold makeSafe; dsimp only
  split
  · rw [sendLetGo_tnl]
    simp [stopTensor]
  · simp [stopTensor]

/-- R68, R127, R140, R141: what entry to STOPPING does to the line and to the tensor call, after announced changes from
`s0`. -/
theorem makeSafe_line {s0 s : State} (h : Announced s0 s) (c : WeldCtx) (hc : s.ctx = some c) :
    (s.clu.step ≠ .idle → s.clu.step ≠ .waiting → s.clu.step ≠ .backoff → s0.wsq.silence = false →
      s0.lnp.queue.length < 7 → .yieldClaim c.weldNumber ∈ (makeSafe s).lnp.queue)
    ∧ (∀ p, c.pair = some p → s0.tnl.closureAccepted = true → s0.wsq.silence = false → s0.lnp.calls = [] →
      s0.lnp.queue.length < 6 →
      .call p s0.lnp.nextCall (.letGo c.weldNumber) ∈ (makeSafe s).lnp.queue
      ∧ (makeSafe s).lnp.calls = [{ dest := p, number := s0.lnp.nextCall, closure := false, deadline := none }]
      ∧ (makeSafe s).tnl.call =
        some { closure := false, dest := p, weldNumber := c.weldNumber, number := some s0.lnp.nextCall })
    ∧ (s0.tnl.closureAccepted = false ∨ s0.wsq.silence = true → (makeSafe s).tnl.call = s0.tnl.call
      ∧ (makeSafe s).lnp.calls = s0.lnp.calls ∧ (makeSafe s).lnp.held = s0.lnp.held)
    ∧ (makeSafe s).tnl.owed = (stopTensor s0).tnl.owed := by
  let x : State := { s with
    mfe := { s.mfe with set := { current := 0, velocity := 0, force := 0, clamp := .opn } }
    wsq := { s.wsq with stroke := .none, upsetTimer := none } }
  have hx : Announced s0 x := h.trans (.of_eq rfl rfl rfl)
  obtain ⟨⟨k1, k2, k3⟩, room, yields⟩ := yieldOwnClaim_line hx
  obtain ⟨c', hy, hcc⟩ := yieldOwnClaim_some x c hc
  have hpair : (yieldOwnClaim x).pair = c.pair := by simp only [State.pair, hy]; rw [hcc]; rfl
  have hnum : (yieldOwnClaim x).weldNumber = c.weldNumber := by simp only [State.weldNumber, State.weldNumber?, hy]; rw [hcc]; rfl
  have hnum' : x.weldNumber = c.weldNumber := by simp only [State.weldNumber, State.weldNumber?]; exact congrArg (fun o : Option WeldCtx => (o.map (·.weldNumber)).getD 0) hc
  have ht : (yieldOwnClaim x).tnl = s0.tnl := (yieldOwnClaim_tnl x).trans hx.tnl
  have hv : (yieldOwnClaim x).wsq.silence = s0.wsq.silence := by
    rw [yieldOwnClaim_wsq]; exact hx.quiet
  rw [hnum'] at yields
  have hmk : makeSafe s = (fun z : State => { z with wsq := { z.wsq with clampTimer := startTimer 5000 } })
      (if (stopTensor (yieldOwnClaim x)).tnl.closureAccepted then sendLetGo (stopTensor (yieldOwnClaim x))
        else stopTensor (yieldOwnClaim x)) := rfl
  rw [hmk]
  generalize yieldOwnClaim x = y at *
  have hacc : (stopTensor y).tnl.closureAccepted = s0.tnl.closureAccepted := by simp [stopTensor, ht]
  rw [hacc]
  refine ⟨fun a b d hq hl => ?_, fun p hp ha hq hn hl => ?_, fun hn => ?_, ?_⟩
  · have := yields a b d hq hl
    dsimp only
    split
    · exact sendLetGo_line _ _ (by simpa using this)
    · simpa using this
  · rw [if_pos ha, sendLetGo_call (stopTensor y) p]
    · have e : (stopTensor y).weldNumber = c.weldNumber := by simpa [State.weldNumber, State.weldNumber?] using hnum
      simp [e, k3]
    · simpa [State.pair, hp] using hpair
    · simpa [hq] using hv
    · simpa [hn] using k1
    · simpa using room hl
  · have : (if s0.tnl.closureAccepted = true then sendLetGo (stopTensor y) else stopTensor y) = stopTensor y := by
      split
      · rename_i hh
        rcases hn with hn | hn
        · simp [hn] at hh
        · exact sendLetGo_silenced _ (by simpa [hn] using hv)
      · rfl
    rw [this]
    exact ⟨by simp [stopTensor, ht], by simpa using k1, by simpa using k2⟩
  · have e : (stopTensor y).tnl.owed = (stopTensor s0).tnl.owed := by simp [stopTensor, ht]
    dsimp only
    split
    · rw [sendLetGo_tnl]; exact e
    · exact e

/-- R49, R50: what entering a state does to the weld context. -/
theorem enterState_some (st : SeqState) (s : State) (c : WeldCtx) (h : s.ctx = some c) :
    ∃ c', (enterState st s).ctx = some c' ∧ SameTruncated (if st.forward then { c with phaseReached := st } else c) c' := by
  unfold enterState
  simp only [announceChange_ctx]
  exact activate_some _ _ _ (by simp [h])

theorem stopRegulation_ctx (s : State) : (stopRegulation s).ctx = s.ctx.map (fun c =>
    { c with progress := if s.wsq.seq = .preheat then
        { c.progress with preheatBurn := (s.position - s.frg.preheatEntry).toNat } else c.progress }) := by
  unfold stopRegulation; dsimp only
  split
  · rfl
  · cases s.ctx <;> rfl

/-- R66, R68: what an abort leaves. -/
theorem abortWeld_aborted (k : FaultKind) (i : Option Int) (s : State) (c : WeldCtx) (h : s.ctx = some c) :
    Aborted k i s (gateCurrent (abortWeld k i s)) := by
  obtain ⟨⟨c1, h1, h2⟩, h3⟩ := enterFaultAs_ctx s.wsq.seq k i s c h
  have hm : (gateCurrent (abortWeld k i s)).mfe = { (abortWeld k i s).mfe with
      driven := { (abortWeld k i s).mfe.driven with current := 0 } } :=
    gateCurrent_closed _ (by simp [State.gateOpen])
  have grown : Announced s (enterState .stopping (stopRegulation
      ((enterFault k i s).mapCtx (fun c => { c with abortKind := some k })))) :=
    ((enterFaultAs_announced s.wsq.seq k i s).trans (.of_eq (by simp [enterFault]) (by simp) (by simp))).trans
      (enterState_announced .stopping _)
  have hp : ∀ c0, SameTruncated (c.addFault k s.wsq.seq).1 c0 → c0.progress = c.progress := by
    intro c0 h0
    rw [h0]
    unfold WeldCtx.addFault
    repeat' split
    all_goals rfl
  have e1 : ((enterFault k i s).mapCtx (fun c => { c with abortKind := some k })).ctx
      = some { c1 with abortKind := some k } := by simp [enterFault, h1]
  have e2 : (stopRegulation ((enterFault k i s).mapCtx (fun c => { c with abortKind := some k }))).ctx
      = some { c1 with
          abortKind := some k
          progress := if s.wsq.seq = .preheat then
            { c.progress with preheatBurn := (s.position - s.frg.preheatEntry).toNat } else c.progress } := by
    rw [stopRegulation_ctx, e1]
    simp [hp c1 h2, State.position, State.input]
  have reached : ∃ c', (enterState .stopping (stopRegulation
      ((enterFault k i s).mapCtx (fun c => { c with abortKind := some k })))).ctx = some c'
      ∧ c'.weldNumber = c.weldNumber ∧ c'.pair = c.pair := by
    obtain ⟨c2, h4, h5⟩ := enterState_some .stopping _ _ e2
    have hf : (c.addFault k s.wsq.seq).1.weldNumber = c.weldNumber ∧ (c.addFault k s.wsq.seq).1.pair = c.pair := by
      unfold WeldCtx.addFault
      repeat' split
      all_goals exact ⟨rfl, rfl⟩
    refine ⟨c2, h4, ?_, ?_⟩
    · rw [h5]; simp only [SeqState.forward, Bool.false_eq_true, if_false]; rw [h2]; exact hf.1
    · rw [h5]; simp only [SeqState.forward, Bool.false_eq_true, if_false]; rw [h2]; exact hf.2
  refine
    { context := ?_, logged := ?_, store := ?_, wsq := ?_, mfe := ?_, frg := ?_, step := ?_, claim := ?_, claimed := ?_
      watch := ?_, wait := ?_, waiting := ?_, taken := ?_, yielded := ?_, letGo := ?_, noLetGo := ?_, owed := ?_
      view := ?_, program := ?_, outside := ?_ }
  · obtain ⟨c2, h4, h5⟩ := enterState_some .stopping _ _ e2
    obtain ⟨c3, h6, h7⟩ := makeSafe_some _ _ h4
    refine ⟨c, c3, h, by simpa [abortWeld] using h6, ?_, ?_⟩
    · simp only [SeqState.forward] at h5
      have h8 := h5.trans h7
      unfold SameTruncated at h2 h8 ⊢
      rw [h8]
      simp only [Bool.false_eq_true, if_false]
      rw [h2]
    · intro hn
      have := makeSafe_logOnly (enterState .stopping (stopRegulation ((enterFault k i s).mapCtx (fun c => { c with abortKind := some k }))))
      simp only [gateCurrent_rst, abortWeld]
      apply this.kept
      simp [enterFault, h3, file_first_none _ _ hn]
  · intro f hf
    have := makeSafe_logOnly (enterState .stopping (stopRegulation ((enterFault k i s).mapCtx (fun c => { c with abortKind := some k }))))
    simp only [gateCurrent_rst, abortWeld]
    apply this.kept
    simp [enterFault, h3, file_first_some _ _ _ hf]
  · have := (makeSafe_logOnly (enterState .stopping (stopRegulation ((enterFault k i s).mapCtx (fun c => { c with abortKind := some k }))))).store
    simp only [gateCurrent_rst, abortWeld]
    rw [this]
    simp [enterFault, h3]
  · simp [abortWeld, makeSafe_wsq]
  · rw [hm]
    simp [abortWeld, makeSafe_mfe, SeqState.regulated, SeqState.slipChecked]
  · simp [abortWeld, stopRegulation]
    split <;> simp
  · simp only [gateCurrent_clu, abortWeld]
    exact (makeSafe_clu _).1
  · intro a b c
    simp only [gateCurrent_clu, abortWeld]
    exact (makeSafe_clu _).2.1 (by simpa using a) (by simpa using b) (by simpa using c)
  · intro a
    simp only [gateCurrent_clu, abortWeld]
    rw [(makeSafe_clu _).2.2 (by simpa using a)]
    simp
  · simp only [gateCurrent_tnl, abortWeld]; exact (makeSafe_tnl _).1
  · simp only [gateCurrent_tnl, abortWeld]; exact (makeSafe_tnl _).2.1
  · simp only [gateCurrent_tnl, abortWeld]; exact (makeSafe_tnl _).2.2.1
  · simp only [gateCurrent_tnl, abortWeld]; rw [(makeSafe_tnl _).2.2.2]; simp
  · intro c0 h0 a b d
    obtain ⟨c2, hc2, e1, e2⟩ := reached
    have := (makeSafe_line grown c2 hc2).1 (by simpa using a) (by simpa using b) (by simpa using d)
    rw [h] at h0
    simpa [abortWeld, e1, Option.some.inj h0] using this
  · intro c0 p h0 hp
    obtain ⟨c2, hc2, e1, e2⟩ := reached
    rw [h] at h0
    have := (makeSafe_line grown c2 hc2).2.1 p (by rw [e2, Option.some.inj h0]; exact hp)
    simpa [abortWeld, e1, Option.some.inj h0] using this
  · obtain ⟨c2, hc2, -, -⟩ := reached
    simpa [abortWeld] using (makeSafe_line grown c2 hc2).2.2.1
  · obtain ⟨c2, hc2, -, -⟩ := reached
    have := (makeSafe_line grown c2 hc2).2.2.2
    simp only [gateCurrent_tnl, abortWeld, this, stopTensor]
    cases s.tnl.owed <;> cases s.tnl.call <;> simp
  all_goals constructor <;> simp

/-! ### The order of a sample -/

/-- R66, R93: the findings of a sample are each taken once. -/
theorem findingsOf_nodup (order : SampleOrder) : (findingsOf order).Nodup := by
  unfold findingsOf
  generalize order ++ _ = l
  induction h : l.length using Nat.strongRecOn generalizing l with
  | ind n ih =>
    cases l with
    | nil => simp
    | cons a l =>
      rw [List.eraseDups_cons]
      refine List.nodup_cons.mpr ⟨by simp, ih _ ?_ _ rfl⟩
      have := List.length_filter_le (fun b => !b == a) l
      simp only [List.length_cons] at h
      omega

theorem findingsOf_mem (order : SampleOrder) (f : Finding) :
    f ∈ findingsOf order ↔ f ∈ order ∨ f = .stall ∨ f = .limit ∨ f = .phase := by
  simp [findingsOf]

/-- A sample whose order names no notice takes the stall, the limit and the phase in one of their orders. -/
theorem findingsOf_perm (order : SampleOrder) (h : NoNotices order) : (findingsOf order).Perm [.stall, .limit, .phase] := by
  refine (List.perm_ext_iff_of_nodup (findingsOf_nodup order) (by decide)).mpr fun f => ?_
  rw [findingsOf_mem]
  simp only [List.mem_cons, List.not_mem_nil, or_false]
  exact ⟨fun k => k.elim (h f) id, .inr⟩

/-! ### What an activation writes -/

/-- R164: the merge test. -/
theorem mergeTarget_some (w : TraceWork) (d : Nat) (ch : Channel) (v : Int) (loc : Nat) (e : TraceEntry) :
    w.mergeTarget d ch v = some (loc, e) ↔ MergesInto d w.run w.memory ch v loc e := by
  unfold TraceWork.mergeTarget MergesInto
  cases h : w.run.last.lookup ch with
  | none => simp
  | some l =>
    dsimp only
    cases hm : w.memory.read l with
    | none =>
      simp only [reduceCtorEq, false_iff]
      rintro ⟨hl, hr, _⟩
      obtain rfl := Option.some.inj hl
      rw [hm] at hr; cases hr
    | some x =>
      dsimp only
      constructor
      · intro hx
        split at hx
        · obtain ⟨rfl, rfl⟩ := Prod.mk.inj (Option.some.inj hx); exact ⟨rfl, hm, ‹_›⟩
        · cases hx
      · rintro ⟨hl, hr, hp⟩
        obtain rfl := Option.some.inj hl
        rw [hm] at hr; obtain rfl := Option.some.inj hr
        rw [if_pos hp]

/-- A location that is not empty lies in trace memory. -/
theorem read_below (m : Memory) (h : m.wf = true) (l : Nat) (e : TraceEntry) (hr : m.read l = some e) : l < memorySize := by
  have ha : m.all (fun x => decide (x.1 < memorySize)) = true := by
    unfold Memory.wf at h; exact (Bool.and_eq_true _ _ ▸ h).2
  clear h
  induction m with
  | nil => cases hr
  | cons x m ih =>
    simp only [List.all_cons, Bool.and_eq_true, decide_eq_true_eq] at ha
    simp only [Memory.read] at hr
    split at hr
    · omega
    · exact ih hr ha.2

/-- R165: the step of the write position, with the new entry noted as the last of its channel. -/
theorem advance_eq (desc : Descriptor) (ch : Channel) (r : RunState) :
    RunState.advance desc { r with last := (ch, r.pos) :: r.last.filter (fun x => x.1 != ch) } = steppedRun desc ch r := by
  unfold RunState.advance steppedRun
  by_cases h : r.pos + 1 < desc.start + desc.length <;> cases desc.ring <;> simp [h]

/-- R164, R165: what writing one value does. -/
theorem put_written (desc : Descriptor) (d : Nat) (w : TraceWork) (ch : Channel) (v : Int) (h : w.memory.wf = true) :
    ∃ l, (w.put desc d (ch, v)).lost = (w.lost || l)
      ∧ ValueWritten desc d w.run w.memory ch v (w.put desc d (ch, v)).run (w.put desc d (ch, v)).memory l := by
  unfold TraceWork.put
  cases hm : w.mergeTarget d ch v with
  | some p =>
    obtain ⟨loc, e⟩ := p
    have hi := (mergeTarget_some ..).1 hm
    exact ⟨false, by simp, .merged loc e _ hi (read_write_same _ _ _ (read_below _ h _ _ hi.2.1))
      (fun l hl => read_write_other _ _ _ _ hl) (write_wf _ _ _ h)⟩
  | none =>
    have test : ∀ loc e, ¬MergesInto d w.run w.memory ch v loc e := fun loc e hi => by
      rw [(mergeTarget_some ..).2 hi] at hm; cases hm
    dsimp only
    split
    · rename_i hf
      obtain ⟨ho, hf⟩ := (Bool.and_eq_true _ _ ▸ hf)
      exact ⟨true, by simp, .lost test (by simpa using ho) hf⟩
    · rename_i hf
      refine ⟨false, by simp, ?_⟩
      rw [advance_eq]
      exact .entered _ test (by cases hr : desc.ring <;> simp_all)
        (fun hl => read_write_same _ _ _ hl) (fun l hl => read_write_other _ _ _ _ hl) (write_wf _ _ _ h)

/-- R164: what writing a list of values does. -/
theorem foldl_put_written (desc : Descriptor) (d : Nat) (xs : List (Channel × Int)) (w : TraceWork) (h : w.memory.wf = true) :
    ∃ l, (xs.foldl (TraceWork.put desc d) w).lost = (w.lost || l)
      ∧ ValuesWritten desc d w.run w.memory xs (xs.foldl (TraceWork.put desc d) w).run
          (xs.foldl (TraceWork.put desc d) w).memory l := by
  induction xs generalizing w with
  | nil => exact ⟨false, by simp, .done _ _⟩
  | cons x xs ih =>
    obtain ⟨ch, v⟩ := x
    obtain ⟨l1, e1, h1⟩ := put_written desc d w ch v h
    obtain ⟨l2, e2, h2⟩ := ih _ (put_wf desc d w (ch, v) h)
    exact ⟨l1 || l2, by rw [List.foldl_cons, e2, e1, Bool.or_assoc], .next _ _ _ _ _ _ _ _ _ _ _ h1 h2⟩

theorem put_spent (desc : Descriptor) (d : Nat) (w : TraceWork) (x : Channel × Int) : (w.put desc d x).run.spent = w.run.spent := by
  unfold TraceWork.put RunState.advance
  repeat' split
  all_goals rfl

theorem foldl_put_spent (desc : Descriptor) (d : Nat) (xs : List (Channel × Int)) (w : TraceWork) :
    (xs.foldl (TraceWork.put desc d) w).run.spent = w.run.spent := by
  induction xs generalizing w with
  | nil => rfl
  | cons x xs ih => rw [List.foldl_cons, ih, put_spent]

/-- R165: what the count of an activation does to a run state that is not spent. -/
theorem finish_counted (desc : Descriptor) (w : TraceWork) (h : w.run.spent = false) :
    Counted desc w.run w.lost (w.finish desc).run (w.finish desc).lost := by
  unfold TraceWork.finish
  cases hr : desc.ring
  · have e : ∀ (r : RunState) (b : Bool), r = { w.run with
        remaining := w.run.remaining - 1, spent := decide (w.run.remaining - 1 = 0) || w.run.full } →
        b = (w.lost || (w.run.full && decide (w.run.remaining - 1 ≠ 0))) → Counted desc w.run w.lost r b :=
      fun r b h1 h2 => h1 ▸ h2 ▸ .once hr
    by_cases h0 : w.run.remaining - 1 = 0 <;> cases hf : w.run.full <;>
      refine e _ _ ?_ ?_ <;> simp [h0, hf, h]
  · by_cases h0 : w.run.remaining - 1 = 0
    · simpa [h0] using Counted.ring (run := w.run) (lost := w.lost) hr
    · simpa [h0] using Counted.ring (run := w.run) (lost := w.lost) hr

/-- R164 to R166: what running a descriptor does, over a trace memory in its canonical form. -/
theorem runDescriptor_run (d : Nat) (desc : Descriptor) (s : State) (h : s.cap.memory.wf = true) :
    DescriptorRun d desc s (runDescriptor d desc s) := by
  unfold runDescriptor; dsimp only
  split
  · exact .spent ‹_›
  · rename_i hs
    have hs : (s.cap.runs.getD d {}).spent = false := by simpa using hs
    obtain ⟨l, hl, hw⟩ := foldl_put_written desc d (desc.channels.map (fun ch => (ch, s.channelValue ch)))
      { run := s.cap.runs.getD d {}, memory := s.cap.memory, lost := false } h
    have hc := finish_counted desc _ ((foldl_put_spent desc d (desc.channels.map (fun ch => (ch, s.channelValue ch)))
      { run := s.cap.runs.getD d {}, memory := s.cap.memory, lost := false }).trans hs)
    rw [finish_memory]
    rw [hl, Bool.false_or] at hc
    exact .ran _ _ _ _ _ hs hw hc

/-! ### Frames and transfers -/

/-- R145: a frame that passes every test is acted on as its body says. -/
theorem receive_taken (want : RxBody → Bool) (bytes : List Byte) (source : Nat) (body : RxBody) (s : State)
    (h : FrameTaken bytes source body s) (hw : want body = true) : receive want bytes s = takeBody source body s := by
  obtain ⟨f, hf, hs, hb, hd⟩ := h.frame
  have ht : s.takesFrames = true := by simp [State.takesFrames, h.lineOk, h.notReset, h.notOffline]
  have hsrc := h.other
  have htest : testFrame f s = .take source body := by
    unfold testFrame
    rw [if_neg (by simp [h.notSending]), if_neg (by omega), if_neg (by rw [hs]; exact hsrc.2.2),
      if_neg (by rcases hd with hd | hd <;> simp [hd]), hb]
    dsimp only
    rw [if_neg (by rcases hd with hd | hd <;> [exact fun x => hd.1 x.2; simp [hd]]), hs]
  simp [receive, ht, hf, htest, hw]

/-- R145: a frame from the own station number raises the duplicate-station fault, whatever else it is. -/
theorem receive_duplicate (want : RxBody → Bool) (bytes : List Byte) (f : RxFrame) (s : State)
    (h : s.takesFrames = true) (ha : s.lnp.attempt = none) (hf : parseFrame bytes = some f)
    (hs : f.source = s.lnp.station) (hv : s.lnp.strapValid = true) : receive want bytes s = duplicateFound s := by
  simp [Lnp.strapValid] at hv
  have htest : testFrame f s = .duplicate := by
    unfold testFrame
    rw [if_neg (by simp [ha]), if_neg (by omega), if_pos hs]
  simp [receive, h, hf, htest]

/-- R185 to R187: a write transfer the port takes is carried out. -/
theorem writeTransfer_taken (want : Byte → Bool) (t : WriteTransfer) (c : SvpCommand) (s : State)
    (h : TransferTaken t c s) (hw : (commandByte? t.bytes).any want = true) :
    writeTransfer want t s = carryOut c (s.portTaken t.clockLow) := by
  have hc := h.inTime
  simp [writeTransfer, h.notReset, h.addressed, hw, clockLowLimit, Svp.isBusy, h.notBusy, takeCommand, h.command, h.passes]
  rw [if_neg (by omega)]
  rfl

/-- The command byte of a transfer that carries a command (R185). -/
theorem parseCommand_byte (bytes : List Byte) (c : SvpCommand) (h : parseCommand bytes = some c) :
    ∃ b, commandByte? bytes = some b ∧ c.kind = commandKind b ∧ c.beginBit = commandBegins b ∧ c.endBit = commandEnds b := by
  unfold parseCommand at h
  split at h
  · simp at h
    subst h
    exact ⟨_, rfl, rfl, rfl, rfl⟩
  · cases h

end Sys2Proof.Machine
end

