-- ==== Sys2Proof/Tests/Slice0.lean ====
section
/-! SUPPORT. Tests of the model: the well-formedness smoke, bytes written out from the layouts of the spec, the spec's worked
figures, and for every statement with hypotheses a state and operands that meet them. The bytes' checks were worked
apart from the model, bit by bit from R144 and R186. -/
set_option Elab.async false
namespace Sys2Proof.Tests
open Sys2Proof Sys2Proof.Machine

/-! ### A small controller -/

/-- The bank of the worked closure case (section 3.7), with the values of the examples of ch. 1, 5 and 6. -/
def sched : Schedule :=
  { fields := [7600, 1150, 50, 30, 900, 50, 200, 100, 30] ++ [2, 0, 300, 300, 2, 100, 400, 100, 300, 50, 300]
      ++ [80, 2, 3, 4, 10, 40, 120, 800, 1200, 1600, 500, 150, 800, 20, 50, 1, 15000]
      ++ [300, 60, 600, 2500, 1200, 800, 900, 600, 400, 600, 60] ++ [800, 400, 10, 30, 2500, 400000] }

/-- A ready bank with that schedule. -/
def bank : Bank := { image := sched, valid := true, installing := false }

/-- The weld of the worked closure case, planned, paired with station 5 and granted in full. -/
def order : WeldCtx :=
  { weldNumber := 1071, workRef := 0#32, bank := .a, mode := .tensioned, pulled := 150, tN := 270, demand := 800, dMin := 400
    pair := some 5, granted := 800, share := 1000
    plan := { tR := -30, g0 := 2250, p := 5175, fReq := 551, cPlan := 3000, gT := 2175, e := 75, bAdj := 1125 } }

/-- A tensor row at station 5. -/
def tensorRow (st : TensorState) (force : Nat) : PeerRow := .heard true (some .left) 0 (.tensor st force)

/-- The peer view: head 4, tensor 5 holding 551 kN, power unit 10 with 1200 kVA, console 14. -/
def peers : List PeerRow :=
  (((List.replicate 14 PeerRow.empty).set 3 (.heard true (some .right) 0 (.head 5 0))).set 4 (tensorRow .holding 551)).set 9
    (.heard true none 0 (.power .running 1200)) |>.set 13 (.heard true none 0 .console)

/-- A state of the sequencer with the weld in flight, at station 3. -/
def inState (st : SeqState) : State :=
  { pins := { lineOk := true }
    wsq := { seq := st }
    ctx := some order
    clu := { qInForce := 1200 }
    lnp := { station := 3, announceTimer := some { length := 50, elapsed := 0 }, peers := peers }
    rst := { bankA := bank, nextWeld := 1072 } }

/-- READY, with no weld. -/
def idle : State := { inState .ready with ctx := none }

/-- The weld in FREE mode. -/
def freeIn (st : SeqState) : State := { inState st with ctx := some { order with mode := .free, pair := none } }

/-- The paired row as given. -/
def withTensor (row : PeerRow) (s : State) : State := { s with lnp := { s.lnp with peers := s.lnp.peers.set 4 row } }

/-- Eight frames in the queue, with no ANNOUNCE among them. -/
def full (s : State) : State := { s with lnp := { s.lnp with queue := List.replicate 8 (.yieldClaim 1) } }

/-- The head silenced. -/
def silenced (s : State) : State := { s with wsq := { s.wsq with silence := true } }

/-- The order of a sample that names no notice. -/
def usual : SampleOrder := [.stall, .limit, .phase]

theorem usual_noNotices : NoNotices usual := by unfold NoNotices usual; decide

/-- A timer that is due. -/
def due : Option Timer := some { length := 10, elapsed := 9 }
/-- A timer one sample short of due. -/
def early : Option Timer := some { length := 10, elapsed := 8 }

/-- The state after a command. -/
def after (c : Instr) (s : State) : State :=
  match exec c s with
  | .next t => t
  | _ => s

/-- Seven good samples with these figures. -/
def samples (current voltage position force pressure temperature gap : Int) : Samples :=
  { current := ⟨current, false⟩, voltage := ⟨voltage, false⟩, position := ⟨position, false⟩, force := ⟨force, false⟩
    clampPressure := ⟨pressure, false⟩, railTemperature := ⟨temperature, false⟩, gapGauge := ⟨gap, false⟩ }

/-- A sample with the clamps at 150 bar. -/
def plain : Samples := samples 0 0 4000 5 150 (-30) 2250

/-! ### Bytes written out from the layout of R144 -/

/-- An ANNOUNCE of tensor 5, side L, HOLDING, 551 kN. -/
def announceTensor : List Byte :=
  [0x96#8, 0x50#8, 0x01#8, 0x07#8, 0x02#8, 0x00#8, 0x02#8, 0x02#8, 0x27#8, 0x00#8, 0x00#8, 0xE1#8, 0xD0#8]

/-- An ANNOUNCE of power unit 10, RUNNING, 1200 kVA. -/
def announcePower : List Byte :=
  [0x96#8, 0xA0#8, 0x01#8, 0x05#8, 0x03#8, 0x00#8, 0x00#8, 0x04#8, 0xB0#8, 0xC9#8, 0x7A#8]

/-- A CLAIM of head 4: 800 kVA for weld 1071. -/
def claimBytes : List Byte :=
  [0x96#8, 0x40#8, 0x02#8, 0x06#8, 0x03#8, 0x20#8, 0x00#8, 0x00#8, 0x04#8, 0x2F#8, 0xB6#8, 0x35#8]

/-- A YIELD of head 4. -/
def yieldBytes : List Byte :=
  [0x96#8, 0x40#8, 0x03#8, 0x04#8, 0x00#8, 0x00#8, 0x04#8, 0x2F#8, 0x72#8, 0x8D#8]

/-- A WELD_START of console 14 to head 3: bank A, TENSIONED, 150 m, 27.0 °C. -/
def startBytes : List Byte :=
  [0x96#8, 0xE3#8, 0x04#8, 0x0C#8, 0x07#8, 0x01#8, 0x00#8, 0x00#8, 0x00#8, 0x96#8, 0x01#8, 0x0E#8, 0xDE#8, 0xAD#8, 0xBE#8, 0xEF#8, 0x1E#8, 0x41#8]

/-- A WELD_STOP of console 14 to head 3. -/
def stopBytes : List Byte :=
  [0x96#8, 0xE3#8, 0x04#8, 0x02#8, 0x08#8, 0x02#8, 0xC9#8, 0xA8#8]

/-- A SET_CLOSURE to head 3. -/
def setClosureBytes : List Byte :=
  [0x96#8, 0xE3#8, 0x04#8, 0x0A#8, 0x09#8, 0x03#8, 0x02#8, 0x27#8, 0x07#8, 0xFA#8, 0x00#8, 0x00#8, 0x04#8, 0x2F#8, 0x72#8, 0xF6#8]

/-- A LET_GO to head 3. -/
def letGoBytes : List Byte :=
  [0x96#8, 0xE3#8, 0x04#8, 0x06#8, 0x09#8, 0x04#8, 0x00#8, 0x00#8, 0x04#8, 0x2F#8, 0x04#8, 0x44#8]

/-- A call of kind 9 to head 3. -/
def unknownBytes : List Byte :=
  [0x96#8, 0xE3#8, 0x04#8, 0x02#8, 0x09#8, 0x09#8, 0x4B#8, 0xF2#8]

/-- An ANSWER of tensor 5 to call 0: ACCEPTED. -/
def acceptedBytes : List Byte :=
  [0x96#8, 0x53#8, 0x05#8, 0x06#8, 0x00#8, 0x00#8, 0x00#8, 0x00#8, 0x00#8, 0x00#8, 0xD0#8, 0x8A#8]

/-- An ANSWER of tensor 5 to call 0: REFUSED, result 7. -/
def refusedBytes : List Byte :=
  [0x96#8, 0x53#8, 0x05#8, 0x06#8, 0x00#8, 0x01#8, 0x00#8, 0x00#8, 0x00#8, 0x07#8, 0x0A#8, 0x3C#8]

/-- A HALT of console 14. -/
def haltBytes : List Byte :=
  [0x96#8, 0xE0#8, 0x06#8, 0x00#8, 0xC6#8, 0x0B#8]

/-- A CLEAR of console 14. -/
def clearBytes : List Byte :=
  [0x96#8, 0xE0#8, 0x07#8, 0x00#8, 0xF5#8, 0x3A#8]

/-- A HALT from station 3, the own number. -/
def ownBytes : List Byte :=
  [0x96#8, 0x30#8, 0x06#8, 0x00#8, 0xA3#8, 0x9F#8]

/-- The start arguments of `startBytes`. -/
def startArgs : StartArgs := { bank := 0, mode := 0, pulled := 150, tN := 270, workRef := 0xDEADBEEF#32 }

/-- What a frame reads as, whatever station takes it. -/
def bodyOf (bytes : List Byte) : Option RxBody := (parseFrame bytes).bind rxBody

theorem test_announce_reads : bodyOf announceTensor = some (.announce (some .left) (.tensor .holding 551))
    ∧ bodyOf announcePower = some (.announce (some .left) (.power .running 1200)) := by decide +kernel
theorem test_claim_and_yield_read : bodyOf claimBytes = some (.claim 800) ∧ bodyOf yieldBytes = some .yieldClaim := by
  decide +kernel
theorem test_calls_read : bodyOf startBytes = some (.weldStart 7 startArgs) ∧ bodyOf stopBytes = some (.weldStop 8)
    ∧ bodyOf setClosureBytes = some (.setClosure 9) ∧ bodyOf letGoBytes = some (.letGo 9)
    ∧ bodyOf unknownBytes = some (.unknownCall 9) := by decide +kernel
theorem test_answer_reads : bodyOf acceptedBytes = some (.answer 0 0 0) ∧ bodyOf refusedBytes = some (.answer 0 1 7) := by
  decide +kernel
theorem test_halt_and_clear_read : bodyOf haltBytes = some .halt ∧ bodyOf clearBytes = some .clearAll := by decide +kernel

/-- R144: the bytes the controller drives for a YIELD of weld 1071 from station 4. -/
theorem test_yield_is_driven :
    frameBytes (.yieldClaim 1071) { idle with lnp := { idle.lnp with station := 4 } } = yieldBytes := by decide +kernel

/-- R144: a frame with one bit of its payload turned is discarded, and so is one cut short by a byte. -/
theorem test_bad_frame_is_dropped : parseFrame (claimBytes.set 5 0x21#8) = none ∧ parseFrame (claimBytes.take 11) = none := by
  decide +kernel

/-! ### Transfers written out from the layout of R185 -/

/-- A transfer, with no time of the clock held low. -/
def transfer (bytes : List Byte) : WriteTransfer := { bytes := bytes, clockLow := 0 }

/-- SELECT_RECORD of block 0, with CHECK. -/
def selectBytes : List Byte := [0x74#8, 0x24#8, 0x01#8, 0x00#8, 0xFD#8]

/-- SELECT_RECORD of the newest. -/
def selectNewest : List Byte := [0x74#8, 0x24#8, 0x01#8, 0xFF#8, 0x0E#8]

/-- READ_DATA from offset 2. -/
def readDataBytes : List Byte := [0x74#8, 0x25#8, 0x02#8, 0x00#8, 0x02#8, 0x58#8]

/-- READ_STATUS. -/
def readStatusBytes : List Byte := [0x74#8, 0x26#8, 0x00#8, 0xD0#8]

/-- READ_FAULTS. -/
def readFaultsBytes : List Byte := [0x74#8, 0x27#8, 0x00#8, 0xC5#8]

/-- CLEAR_FAULTS. -/
def clearFaultsBytes : List Byte := [0x74#8, 0x28#8, 0x00#8, 0x06#8]

/-- A transfer of kind 9. -/
def unknownKindBytes : List Byte := [0x74#8, 0x29#8, 0x00#8, 0x13#8]

/-- LOAD_BANK_A with BEGIN and two data bytes. -/
def beginBytes : List Byte := [0x74#8, 0xA1#8, 0x02#8, 0x01#8, 0x02#8, 0x24#8]

/-- LOAD_BANK_A going on with one data byte. -/
def goOnBytes : List Byte := [0x74#8, 0x21#8, 0x01#8, 0x03#8, 0x34#8]

/-- LOAD_CAPTURE with BEGIN and END and no data. -/
def endBytes : List Byte := [0x74#8, 0xE3#8, 0x00#8, 0x7C#8]

/-- A transfer reads as a command that passes its checks. -/
def passes (bytes : List Byte) (kind : Nat) : Bool :=
  writeAddressed bytes && (parseCommand bytes).any (fun c => c.kind == kind && commandPasses c)

theorem test_transfers_pass : passes selectBytes 4 ∧ passes readDataBytes 5 ∧ passes readStatusBytes 6
    ∧ passes readFaultsBytes 7 ∧ passes clearFaultsBytes 8 ∧ passes beginBytes 1 ∧ passes endBytes 3 := by decide +kernel

/-- R186: a kind that is none of the eight, a turned check bit, and a count that does not fit its kind. -/
theorem test_transfers_fail : passes unknownKindBytes 9 = false ∧ passes (readStatusBytes.set 3 0xD1#8) 6 = false
    ∧ passes [0x74#8, 0x06#8, 0x01#8, 0x00#8] 6 = false := by decide +kernel

/-! ### Ill-formed commands -/

theorem test_ill_row_stale : WellFormed (.rowStale 0#4) = false := by decide +kernel
theorem test_ill_row_empty : WellFormed (.rowEmpty 15#4) = false := by decide +kernel
theorem test_ill_call_deadline : WellFormed (.callDeadline 0#4) = false := by decide +kernel
theorem test_ill_announce : WellFormed (.announceFrame claimBytes) = false := by decide +kernel
theorem test_ill_claim : WellFormed (.claimFrame yieldBytes) = false := by decide +kernel
theorem test_ill_yield : WellFormed (.yieldFrame claimBytes) = false := by decide +kernel
theorem test_ill_weld_start : WellFormed (.weldStart stopBytes) = false := by decide +kernel
theorem test_ill_weld_stop : WellFormed (.weldStop startBytes) = false := by decide +kernel
theorem test_ill_set_closure : WellFormed (.setClosureCall letGoBytes) = false := by decide +kernel
theorem test_ill_let_go : WellFormed (.letGoCall setClosureBytes) = false := by decide +kernel
theorem test_ill_unknown_call : WellFormed (.unknownCallKind stopBytes) = false := by decide +kernel
theorem test_ill_answer : WellFormed (.answerFrame haltBytes) = false := by decide +kernel
theorem test_ill_halt : WellFormed (.haltFrame clearBytes) = false := by decide +kernel
theorem test_ill_clear : WellFormed (.clearFrame haltBytes) = false := by decide +kernel
theorem test_ill_duplicate : WellFormed (.duplicateStation [0x00#8]) = false := by decide +kernel
theorem test_ill_load_a : WellFormed (.loadBankA (transfer endBytes)) = false := by decide +kernel
theorem test_ill_load_b : WellFormed (.loadBankB (transfer beginBytes)) = false := by decide +kernel
theorem test_ill_load_capture : WellFormed (.loadCapture (transfer beginBytes)) = false := by decide +kernel
theorem test_ill_begin_staging : WellFormed (.beginStaging (transfer goOnBytes)) = false := by decide +kernel
theorem test_ill_end_staging : WellFormed (.endStaging (transfer beginBytes)) = false := by decide +kernel
theorem test_ill_select : WellFormed (.selectRecord (transfer readDataBytes)) = false := by decide +kernel
theorem test_ill_read_data : WellFormed (.readData (transfer selectBytes)) = false := by decide +kernel
theorem test_ill_read_status : WellFormed (.readStatus (transfer readFaultsBytes)) = false := by decide +kernel
theorem test_ill_read_faults : WellFormed (.readFaults (transfer clearFaultsBytes)) = false := by decide +kernel
theorem test_ill_clear_faults : WellFormed (.clearFaults (transfer readFaultsBytes)) = false := by decide +kernel
theorem test_ill_read_transfer : WellFormed (.readTransfer { address := 0x74#8, count := 1, clockLow := 0 }) = false := by decide +kernel
theorem test_ill_read_transfer_held : WellFormed (.readTransfer { address := 0x75#8, count := 1, clockLow := 25 }) = false := by decide +kernel
theorem test_ill_unknown_kind : WellFormed (.unknownCommandKind (transfer readStatusBytes)) = false := by decide +kernel
theorem test_ill_clock_held : WellFormed (.readStatus { bytes := readStatusBytes, clockLow := 25 }) = false := by decide +kernel
theorem test_ill_other_address : WellFormed (.readStatus (transfer (readStatusBytes.set 0 0x76#8))) = false := by decide +kernel
theorem test_ill_no_command : WellFormed (.readStatus (transfer [0x74#8])) = false := by decide +kernel

theorem test_well_formed : WellFormed (.announceFrame announceTensor) ∧ WellFormed (.weldStart startBytes)
    ∧ WellFormed (.unknownCallKind unknownBytes) ∧ WellFormed (.duplicateStation ownBytes) ∧ WellFormed (.rowStale 14#4)
    ∧ WellFormed (.beginStaging (transfer beginBytes)) ∧ WellFormed (.unknownCommandKind (transfer unknownKindBytes)) := by
  decide +kernel

/-! ### The worked figures of the spec -/

/-- Section 1.2, "Example: planning measurement": the sum -488 gives -30, with the gap at the sixteenth sample. -/
theorem test_planning_mean :
    (after (.sample (samples 0 0 4000 5 150 (-31) 2250) usual)
      { inState .plan with mfe := { planning := .sampling 15 (-457) } }).mfe.planning = .answered (-30) 2250 := by
  decide +kernel

/-- Section 1.3, "Example: a short and a freeze": sample 2 is an onset, sample 21 gives the notice, sample 22 none. -/
theorem test_short_and_freeze :
    let short := Instr.sample (samples 5100 120 4000 5 150 (-30) 2250) usual
    let m (shorted : Bool) (n : Nat) : Mfe := (after short
      { inState .hold with mfe := { shorted := shorted, onsets := 3, shortDuration := n } }).mfe
    ((m false 0).onsets, (m false 0).shortDuration, (m true 19).onsets, (m true 19).freezeNotices, (m true 20).freezeNotices)
      = (4, 1, 3, 1, 0) := by decide +kernel

/-- Section 1.4, "Example: energy figure". -/
theorem test_energy_figure : Mfe.energyFigure { energy := 2925000000 } = 2925 := by decide +kernel

/-- Section 1.5, "Example: stall check": 0.03 mm made good is a stall, 0.04 mm is not. -/
theorem test_stall :
    let w (advance : Int) := (65, 5000) :: List.replicate 198 (65, 5000) ++ [(65, 5000 + advance)]
    stallOf (w 3) = some 3 ∧ stallOf (w 4) = none := by decide +kernel

/-- Section 2.7, "Example: refusals at install". -/
theorem test_install_refusals :
    let b (bMax fH : Nat) : Option Nat :=
      firstBadField { fields := ((sched.fields.set 29 bMax).set 46 fH).set 43 1200 }
    (b 1100 1600, b 1600 1600, b 1600 1100, b 1600 1300) = (some 30, some 47, none, some 47) := by decide +kernel


/-- Sections 3.7 and 3.8: the worked closure case, and the gaps across and beyond its window. -/
theorem test_worked_plans :
    (workPlan sched order (-30) 2250).plan
      = { tR := -30, g0 := 2250, p := 5175, fReq := 551, cPlan := 3000, gT := 2175, e := 75, bAdj := 1125, tA := none }
    ∧ (workPlan sched order (-30) 1500).refusal = some (.gapOutOfRange, -675)
    ∧ [1725, 2125, 2250, 2625].map (fun g => (workPlan sched order (-30) g).plan.bAdj) = [1600, 1200, 1125, 800]
    ∧ [1725, 2125, 2250, 2625].map (fun g => (workPlan sched order (-30) g).refusal) = [none, none, none, none]
    ∧ (workPlan sched order (-30) 2700).refusal = some (.gapOutOfRange, 525) := by decide +kernel

/-- Section 3.8, the further orders: too warm, at target, and FREE. -/
theorem test_other_refusals :
    let free : WeldCtx := { order with mode := .free, plan := {} }
    (workPlan sched order 305 2250).refusal = some (.tempAboveNeutral, -35)
    ∧ (workPlan sched order 290 2250).refusal = some (.gapOutOfRange, 5250)
    ∧ workPlan sched free 290 2250 = { plan := { tR := 290, g0 := 2250, cPlan := 3000, bAdj := 1200 }, refusal := none } := by
  decide +kernel

/-- Section 3.7: the achieved neutral temperature of the worked weld. -/
theorem test_achieved_neutral :
    achievedNeutral sched { order with
      heatBegan := true
      progress := { preheatBurn := 285, flashBurn := 1128, boostBurn := 302, upsetDistance := 1195 } } = some 269 := by
  decide +kernel

/-- Section 5.3, "Example: the velocity law". -/
theorem test_velocity_law :
    let k (a b : Nat) : Schedule := { fields := (sched.fields.set 25 a).set 26 b }
    (flashVelocity (k 40 120) 1200 850 450 6, flashVelocity (k 120 40) 1200 1000 455 0,
      flashVelocity (k 40 120) 1200 100 0 0, flashVelocity (k 300 300) 1200 1000 800 10) = (65, 90, 5, 300) := by
  decide +kernel

/-- R86: the bounds of R_c = 80 with b = 2 and with b = 3. -/
theorem test_rate_bounds :
    let k (b : Nat) : Schedule := { fields := sched.fields.set 21 b }
    (rateMin (k 2), rateMax (k 2), rateMin (k 3), rateMax (k 3)) = (64, 100, 58, 110) := by decide +kernel

/-- Section 5.3, "Example: a sequence of flash windows": windows 2, 6, 8 and 9. -/
theorem test_flash_windows :
    let s (onsets : Nat) (corrK : Int) (unstable : Nat) : State := after .windowEnd { inState .flash with
      mfe := { onsets := onsets }
      frg := { windowTimer := due, rMin := 64, rMax := 100, corrK := corrK, unstable := unstable } }
    ((s 5 0 0).frg.corrK, (s 5 0 0).frg.unstable) = (4, 1) ∧ ((s 10 4 1).frg.corrK, (s 10 4 1).frg.unstable) = (4, 0)
    ∧ ((s 3 8 1).frg.corrK, (s 3 8 1).frg.unstable) = (10, 2) ∧ (s 5 10 2).wsq.seq = .stopping
    ∧ (s 5 10 2).rst.log.first.bind (·.input) = some 50 := by decide +kernel

/-- R135: with F_req = 551 and 50 ‰ the gate is met from 523 kN on. R108: the release test needs 27 kN or less. -/
theorem test_gate_and_release :
    (withTensor (tensorRow .holding 523) (inState .hold)).gateHolds = true
    ∧ (withTensor (tensorRow .holding 522) (inState .hold)).gateHolds = false
    ∧ (withTensor (tensorRow .releasing 27) (inState .letGo)).releaseHolds = true
    ∧ (withTensor (tensorRow .releasing 28) (inState .letGo)).releaseHolds = false := by decide +kernel

/-- Section 6.6: the stroke of weld 1071 ends on force at 1195, and t_uc at 600 ms ends heat and enters HOLD. -/
theorem test_upset_of_1071 :
    let s : State := { inState .upset with
      wsq := { seq := .upset, stroke := .stroke, upsetEntry := 6050, upsetTimer := some { length := 2000, elapsed := 469 } }
      clu := { step := .granted, ownClaim := 800, qInForce := 1200 } }
    let t := after (.sample (samples 4000 300 7245 904 150 (-30) 2250) usual) s
    let u := after .tUcExpiry { t with wsq := { t.wsq with upsetTimer := some { length := 2000, elapsed := 599 } } }
    t.wsq.stroke = .ended ∧ t.ctx.map (fun c => (c.progress.upsetDistance, c.progress.peakForce, c.faults.length)) = some (1195, 904, 0)
    ∧ u.wsq.seq = .hold ∧ u.mfe.set.force = 600 ∧ u.clu.step = .idle ∧ u.clu.ownClaim = 0 := by decide +kernel

/-- Section 7.5: station 4's second decision finds a room of 400 and claims it; the derating sheds station 3 to 400. -/
theorem test_claims_share_the_unit :
    let rows (q other : Nat) := (peers.set 9 (.heard true none 0 (.power .running q))).set 3
      (.heard true (some .right) 0 (.head 5 other))
    let s : State := { inState .power with
      clu := { step := .backoff, qInForce := 1200, backoffTimer := due }
      lnp := { station := 4, peers := rows 1200 800 } }
    let t : State := { inState .flash with
      clu := { step := .granted, ownClaim := 800, qInForce := 1200 }
      lnp := { station := 3, peers := rows 1200 400 } }
    let u := cluNotice t 10 { t with lnp := { t.lnp with peers := rows 700 400 } }
    (after .backoffTimerExpiry s).clu.ownClaim = 400
    ∧ (u.clu.step, u.clu.ownClaim, u.ctx.map (·.share)) = (.shed, 400, some 500) := by decide +kernel

/-- Section 10.6: windows 1, 4 and 5 of the capture run. -/
theorem test_capture_run :
    let two : Descriptor :=
      { channels := [.rate, .corrK], ring := true, start := 100, length := 16, reload := 1000, chain := some 3, keep := true }
    let three : Descriptor :=
      { channels := [.claim, .share], ring := false, start := 200, length := 16, reload := 5, chain := some 2, keep := true }
    let p : Program :=
      { vectors := (List.replicate 12 none).set 1 (some 2)
        descriptors := ((List.replicate 24 none).set 2 (some two)).set 3 (some three) }
    let s0 : State := { inState .flash with cap := Cap.accept { program := p }, clu := { step := .granted, ownClaim := 800 } }
    let w (r : Nat) (k : Int) (s : State) : State := activate .windowEnd { s with frg := { lastRate := r, corrK := k } }
    let s1 := w 70 0 s0
    let s4 := w 80 8 (w 60 8 (w 50 4 s1))
    let s5 := w 110 4 s4
    let at2 (s : State) := s.cap.runs[2]?.map (fun r => (r.pos, r.remaining))
    let at3 (s : State) := s.cap.runs[3]?.map (fun r => (r.pos, r.remaining, r.spent))
    at2 s1 = some (102, 999) ∧ at3 s1 = some (202, 4, false) ∧ at2 s4 = some (107, 996) ∧ at3 s4 = some (202, 1, false)
    ∧ at2 s5 = some (109, 995) ∧ at3 s5 = some (202, 0, true)
    ∧ s4.cap.memory.map (fun x => (x.1, x.2.value, x.2.run)) =
      [(100, 70, 1), (101, 0, 1), (102, 50, 1), (103, 4, 1), (104, 60, 1), (105, 8, 2), (106, 80, 1), (200, 800, 4),
        (201, 1000, 4)] := by decide +kernel

/-- Section 11.6: the erase of block 8 fails, that of block 9 ends and the commit begins, and the commit ends. -/
theorem test_record_waits_in_the_slot :
    let weld (n : Nat) : WeldRecord := composeRecord .left [] { order with weldNumber := n }
    let ring : List Block := (List.range 32).map (fun n => .held (some (weld (if n < 8 then 1064 + n else 1032 + n))))
    let s : State := { idle with rst := { idle.rst with
      blocks := ring, writePos := 8, nextWeld := 1073, erase := some 8
      slot := some { record := weld 1072, programming := false } } }
    let t := after (.eraseEnd false) s
    let u := after (.eraseEnd true) t
    let v := after (.commitEnd true) u
    t.rst.block 8 = .bad ∧ t.rst.erase = some 9 ∧ t.rst.log.first.bind (·.input) = some 108
    ∧ u.rst.slot.map (·.programming) = some true ∧ v.rst.block 9 = .held (some (weld 1072)) ∧ v.rst.writePos = 10
    ∧ v.rst.erase = some 10 ∧ v.rst.slot = none := by decide +kernel

/-- Section 12.5, steps 1 to 3: a transfer with a failed check abandons the staging, and the next finds none. -/
theorem test_lost_byte :
    let s1 := after (.loadBankA (transfer beginBytes)) idle
    let s2 := after (.loadBankA (transfer (goOnBytes.set 4 0x00#8))) s1
    let s3 := after (.loadBankA (transfer goOnBytes)) s2
    (s1.svp.staging.map (·.buffer), s1.svp.status) = (some [1#8, 2#8], .ok) ∧ (s2.svp.staging, s2.svp.status) = (none, .checkFailed)
    ∧ (s3.svp.staging, s3.svp.status) = (none, .abandoned)
    ∧ (after (.loadBankA (transfer goOnBytes)) s1).svp.staging.map (·.buffer) = some [1#8, 2#8, 3#8] := by decide +kernel

/-- R31, section 11: a module that has never been given its settings resets to three SETTINGS_BAD, the first on bank A. -/
theorem test_reset_log : State.reset.rst.log.first.bind (·.input) = some 1 ∧ State.reset.rst.log.counts.sum = 2 := by
  decide +kernel


/-! ### Witnesses: a state and operands that meet the hypotheses of each statement -/

/-- What a frame's bytes are taken apart to. -/
def frameOf (bytes : List Byte) : RxFrame :=
  (parseFrame bytes).getD { source := 0, dest := 0, kind := 0, payload := [] }

theorem taken (bytes : List Byte) (source : Nat) (body : RxBody) (s : State)
    (h : (s.pins.lineOk = true ∧ s.pins.lineReset = false ∧ s.wsq.seq ≠ .offline ∧ s.lnp.attempt = none)
      ∧ (1 ≤ source ∧ source ≤ 14 ∧ source ≠ s.lnp.station) ∧ parseFrame bytes = some (frameOf bytes)
      ∧ (frameOf bytes).source = source ∧ rxBody (frameOf bytes) = some body
      ∧ ((frameOf bytes).dest ≠ 0 ∧ (frameOf bytes).dest = s.lnp.station
        ∨ (frameOf bytes).dest = 0 ∧ body.needsOwnDest = false)) : FrameTaken bytes source body s :=
  ⟨h.1.1, h.1.2.1, h.1.2.2.1, h.1.2.2.2, h.2.1, _, h.2.2⟩

/-- What a transfer's bytes are taken apart to. -/
def commandOf (bytes : List Byte) : SvpCommand :=
  (parseCommand bytes).getD
    { beginBit := false, endBit := false, checkBit := false, kind := 0, count := 0, rest := [], bytes := [] }

theorem transferTaken (bytes : List Byte) (s : State)
    (h : s.pins.lineReset = false ∧ s.svp.busy = .none ∧ writeAddressed bytes = true
      ∧ parseCommand bytes = some (commandOf bytes) ∧ commandPasses (commandOf bytes) = true) :
    TransferTaken (transfer bytes) (commandOf bytes) s :=
  ⟨h.1, h.2.2.1, by simp [transfer], h.2.1, h.2.2.2.1, h.2.2.2.2⟩

/-! #### Resets and wires -/

/-- A half with the worked bank and its check, and one whose check is wrong. -/
theorem witness_SupplyResetChecksTheSettings :
    (StoredImage.fresh (imageOfSchedule sched)).checks = true
    ∧ firstBadField (scheduleOfImage (imageOfSchedule sched)) = none ∧ (blankImage 16).checks = false :=
  ⟨by simp [StoredImage.checks, StoredImage.fresh], by decide +kernel, by decide +kernel⟩

/-- A record in the slot while its program runs into block 0. -/
def programming : State := { idle with rst := { idle.rst with
  slot := some { record := composeRecord .left [] order, programming := true } } }

theorem witness_LineResetKeepsTheStore :
    programming.rst.slot.any (·.programming) = true ∧ programming.rst.targetBlock = some 0
    ∧ idle.rst.slot.any (·.programming) = false := by decide +kernel

theorem witness_TrainWiresAct :
    ({ idle with pins := { lineReset := true } } : State).pins.lineReset = true ∧ idle.pins.lineReset = false
    ∧ ({ idle with lnp := { idle.lnp with attempt := some [] } } : State).lnp.attempt.isSome = true
    ∧ idle.lnp.attempt = none := by decide +kernel

/-- OFFLINE with LINE_OK risen, at a station number. -/
def offlineAt (station : Nat) : State :=
  { idle with wsq := { seq := .offline }, lnp := { station := station, lineOkRisen := true } }

theorem witness_OfflineIsLeft :
    (∀ n, n = 1 ∨ n = 14 → 1 ≤ (offlineAt n).lnp.station ∧ (offlineAt n).lnp.station ≤ 14)
    ∧ (offlineAt 14).wsq.seq = .offline ∧ (offlineAt 14).ctx = none ∧ (offlineAt 14).lnp.lineOkRisen = true
    ∧ (offlineAt 14).wsq.silence = false ∧ (offlineAt 14).pins.lineReset = false
    ∧ 15 ≤ (offlineAt 15).lnp.station ∧ (offlineAt 0).lnp.station = 0 := by
  refine ⟨?_, by decide +kernel⟩
  rintro n (rfl | rfl) <;> decide +kernel

theorem witness_HeadStopActsByState :
    ((inState .clamp).pins.headStop = false ∧ (inState .clamp).ctx = some order ∧ (inState .clamp).wsq.seq.abortable = true)
    ∧ ((inState .upset).wsq.seq.abortable = true ∧ (inState .hold).ctx = some order ∧ (inState .hold).wsq.seq = .hold)
    ∧ (idle.wsq.seq.abortable = false ∧ idle.wsq.seq ≠ .hold)
    ∧ ({ idle with pins := { headStop := true } } : State).pins.headStop = true := by decide +kernel

/-! #### Samples -/

/-- FLASH from position 4000, with B_adj 1125. -/
def flashing : State := { inState .flash with frg := { flashEntry := 4000 } }

theorem witness_SampleReadsTheInputs :
    NoNotices usual ∧ (inState .hold).pins.lineReset = false ∧ ({ idle with pins := { lineReset := true } } : State).pins.lineReset = true :=
  ⟨usual_noNotices, by decide +kernel⟩

/-- Short samples at the boundary: 149 below V_short 150, 801 above I_short 800, and the twentieth in a row. -/
theorem witness_SampleCountsEnergyAndShorts :
    let s (st : SeqState) : State := { inState st with mfe := { shorted := true, shortDuration := 19 } }
    let t (st : SeqState) (current voltage : Int) :=
      after (.sample (samples current voltage 4000 5 30 (-30) 2250) usual) (s st)
    NoNotices usual ∧ (∀ st ∈ [SeqState.clamp, .flash, .upset, .hold, .stopping],
      (s st).pins.lineReset = false ∧ (s st).ctx = some order ∧ (sched.openThreshold : Int) ≤ (t st 801 149).pressure
      ∧ ((t st 801 149).input .voltage < sched.vShort ∧ (sched.iShort : Int) < (t st 801 149).input .current)
      ∧ ¬((t st 800 149).input .voltage < sched.vShort ∧ (sched.iShort : Int) < (t st 800 149).input .current)
      ∧ ¬((t st 801 150).input .voltage < sched.vShort ∧ (sched.iShort : Int) < (t st 801 150).input .current))
    ∧ (s .hold).mfe.shortDuration + 1 = sched.tFz ∧ flashing.mfe.shortDuration + 1 ≠ sched.tFz := by
  exact ⟨usual_noNotices, by decide +kernel⟩

theorem witness_OutputsAreDrivenThroughTheGate :
    exec .headStopRelease (inState .hold) = .next (after .headStopRelease (inState .hold))
    ∧ (after .headStopRelease (inState .hold)).wsq.seq = .hold ∧ flashing.pins.lineReset = false
    ∧ (after (.sample plain usual) flashing).wsq.seq = .flash := ⟨rfl, by decide +kernel⟩

theorem witness_ClampsCloseAndThePlanIsMeasured :
    let t (pressure : Int) := after (.sample (samples 0 0 0 0 pressure (-30) 2250) usual) (inState .clamp)
    let p : State := { inState .plan with mfe := { planning := .sampling 15 (-457) } }
    NoNotices usual ∧ (inState .clamp).pins.lineReset = false ∧ (inState .clamp).ctx = some order ∧ (inState .clamp).wsq.seq = .clamp
    ∧ (sched.clampMin : Int) ≤ (t 100).pressure ∧ (t 99).pressure < sched.clampMin
    ∧ p.pins.lineReset = false ∧ p.wsq.seq = .plan ∧ p.mfe.planning = .sampling 15 (-457)
    ∧ (p.mfe.inputs.get .force).held ≠ 4
    ∧ ({ held := 4 } : InputState).held = 4 ∧ sampleValid .force { value := 5, fail := true } = false :=
  ⟨usual_noNotices, by decide +kernel⟩

theorem witness_FlashBurnIsWorkedAtEachSample :
    flashing.pins.lineReset = false ∧ flashing.ctx = some order ∧ flashing.wsq.seq = .flash := by decide +kernel

/-- BOOST from position 5125. -/
def boosting : State := { inState .boost with frg := { boostEntry := 5125 } }

/-- A bank without a boost. -/
def unboosted (s : State) : State :=
  { s with rst := { s.rst with bankA := { bank with image := { fields := sched.fields.set 37 0 } } } }

/-- A bank whose current ends as the upset begins. -/
def heatless (s : State) : State :=
  { s with rst := { s.rst with bankA := { bank with image := { fields := sched.fields.set 44 0 } } } }

theorem witness_FlashFollowsTheVelocityLaw :
    let run (position : Int) (s : State) := after (.sample (samples 4500 650 position 5 150 (-30) 2250) usual) s
    NoNotices usual ∧ (∀ s ∈ [flashing, boosting, unboosted flashing], s.pins.lineReset = false ∧ s.ctx = some order
      ∧ s.frg.backoff = none ∧ s.mfe.stall.length < 199
      ∧ (takeInput .position { value := 5425, fail := false } s.mfe.inputs.position).value < (s.bank .a).image.strokeLimit)
    ∧ (flashing.wsq.seq = .flash ∧ boosting.wsq.seq = .boost ∧ (unboosted flashing).wsq.seq = .flash)
    ∧ [5124, 5125].map (fun p => ((run p flashing).position - flashing.frg.flashEntry).toNat) = [1124, 1125]
    ∧ (order.plan.bAdj = 1125 ∧ sched.dBoost = 300 ∧ ((unboosted flashing).bank .a).image.dBoost = 0)
    ∧ [5424, 5425].map (fun p => ((run p boosting).position - boosting.frg.boostEntry).toNat) = [299, 300]
    ∧ (sched.dU ≠ 0 ∧ (run 5125 (unboosted flashing)).input .force < sched.fUpMax
      ∧ (run 5425 boosting).input .force < sched.fUpMax)
    ∧ (let pressed (force : Int) := after (.sample (samples 4500 650 5425 force 150 (-30) 2250) usual) boosting
      ((sched.fUpMax : Int) ≤ (pressed 900).input .force ∧ (pressed 899).input .force < sched.fUpMax)
      ∧ 0 < sched.dUMin ∧ 0 < sched.tUc ∧ ((heatless boosting).bank .a).image.tUc = 0) :=
  ⟨usual_noNotices, by decide +kernel⟩

/-- R99, R102, R104, R107: the sample that enters UPSET finds F_up_max, with the gate not met: the stroke ends short at once
(log 59 for the order), and with t_uc at 0 the hold begins, broken, at the same sample. -/
theorem test_upset_ends_at_once :
    let t (s : State) := after (.sample (samples 4500 650 5425 900 150 (-30) 2250) usual) (withTensor (tensorRow .holding 522) s)
    let seen (s : State) := ((t s).wsq.seq, (t s).ctx.map (fun c => (c.faults.map (·.kind), c.progress.upsetDistance, c.progress.peakForce)))
    seen boosting = (.upset, some ([.tensorLost, .upsetShort], 0, 900))
    ∧ seen (heatless boosting) = (.hold, some ([.tensorLost, .upsetShort, .holdBroken], 0, 900))
    ∧ (t (heatless boosting)).wsq.holdBroken = true := by decide +kernel

/-- R85, R88: the velocity law holds at the sample that ends flashing, V_e there, after a backoff too. -/
theorem test_flash_end_sets_the_velocity :
    let s : State := { flashing with mfe := { set := { velocity := -300 } } }
    let t := after (.sample (samples 4500 650 5125 5 150 (-30) 2250) usual) s
    (t.wsq.seq, t.mfe.set.velocity) = (.boost, 120) := by decide +kernel

/-- PREHEAT in the approach of the first contact. -/
def approaching : State :=
  { inState .preheat with frg := { step := .approach, k := 1, approachTimer := due, preheatEntry := 4000 } }

theorem witness_ContactIsDetected :
    let t (current : Int) := after (.sample (samples current 100 4100 5 150 (-30) 2250) usual) approaching
    NoNotices usual ∧ approaching.pins.lineReset = false ∧ approaching.ctx = some order ∧ approaching.wsq.seq = .preheat
    ∧ approaching.frg.step = .approach ∧ approaching.mfe.stall.length < 199
    ∧ (takeInput .position { value := 4100, fail := false } approaching.mfe.inputs.position).value < sched.strokeLimit
    ∧ (sched.iContact : Int) < (t 101).input .current ∧ (t 100).input .current ≤ sched.iContact :=
  ⟨usual_noNotices, by decide +kernel⟩

/-- A capture with one descriptor that keeps a segment of two locations, the ring wrapped or not. -/
def kept (wrapped : Bool) : Cap :=
  { program :=
      { vectors := List.replicate 12 none
        descriptors := [some { channels := [.burn], ring := true, start := 100, length := 2, reload := 10, chain := none
                               keep := true }] }
    runs := [{ pos := 101, remaining := 9, spent := false, full := wrapped, wrapped := wrapped, last := [] }]
    memory := [(100, { desc := 0, channel := .burn, value := 9, run := 1 }),
      (101, { desc := 0, channel := .burn, value := 7, run := 1 })] }

theorem witness_ClampsOpenAndTheOutcomeIsBuilt :
    let t (st : SeqState) (pressure : Int) :=
      after (.sample (samples 0 0 4000 5 pressure (-30) 2250) usual) (inState st)
    let hot : WeldCtx := { order with heatBegan := true }
    NoNotices usual ∧ (inState .unclamp).pins.lineReset = false ∧ (inState .unclamp).ctx = some order
    ∧ ((inState .unclamp).wsq.seq = .unclamp ∧ (inState .stopping).wsq.seq = .stopping)
    ∧ (t .unclamp 29).pressure < sched.openThreshold ∧ (sched.openThreshold : Int) ≤ (t .stopping 30).pressure
    ∧ order.heatBegan = false ∧ ({ hot with abortKind := some .freeze } : WeldCtx).abortKind.isSome = true
    ∧ ([0, 2499999999, 2500000000].map (fun e => Mfe.energyFigure { energy := e }) = [0, 2499, 2500] ∧ sched.eMin = 2500
      ∧ sched.eMax = 400000)
    ∧ (achievedNeutral sched hot = some 100 ∧ sched.tauN = 30 ∧ (100 - (order.tN : Int)).natAbs = 170)
    ∧ achievedNeutral sched order = none :=
  ⟨usual_noNotices, by decide +kernel⟩

theorem witness_ClampsOpenAndTheOutcomeIsBuilt_kept (wrapped : Bool) (d : Nat) (desc : Descriptor)
    (h : (kept wrapped).program.descriptors.getD d none = some desc) :
    desc.start ≤ ((kept wrapped).runs.getD d {}).pos ∧ ((kept wrapped).runs.getD d {}).pos < desc.start + desc.length := by
  rcases d with _ | d
  · obtain rfl := Option.some.inj h
    revert wrapped; decide
  · simp [kept] at h

/-- R168, R175, R178: the outcome of a weld whose one descriptor keeps a ring of two locations: the entries go to the
record oldest first, and the commit begins at once in an ERASED block and waits in a HELD one. -/
theorem test_outcome_keeps_the_trace_and_commits :
    let s (b : Block) : State := { inState .stopping with
      cap := kept true, rst := { (inState .stopping).rst with blocks := (List.replicate 32 Block.erased).set 0 b } }
    let t (b : Block) := after (.sample (samples 0 0 4000 5 20 (-30) 2250) usual) (s b)
    ((t .erased).rst.slot.map (fun p => (p.programming, p.record.trace.map (·.value), p.record.truncated, p.record.phaseReached))
      = some (true, [7, 9], false, .clamp))
    ∧ (t (.held none)).rst.slot.map (·.programming) = some false := by decide +kernel

/-! #### Notices and the plan -/

/-- A SENSOR_RANGE of the force waits. -/
def ranged (s : State) : State := { s with mfe := { s.mfe with rangeNotices := [{ input := .force, value := some 1501 }] } }

theorem witness_SensorRangeActsByState :
    let n : RangeNotice := { input := .force, value := some 1501 }
    (∀ st ∈ [SeqState.clamp, .upset, .hold, .letGo, .unclamp, .stopping], (ranged (inState st)).rangeNotice .force = some n
      ∧ (ranged (inState st)).ctx = some order)
    ∧ SeqState.clamp.abortable = true ∧ SeqState.upset.abortable = true ∧ (ranged (inState .flash)).pins.lineReset = false
    ∧ (ranged idle).rangeNotice .force = some n ∧ (ranged idle).ctx = none ∧ (ranged idle).wsq.seq = .ready
    ∧ (ranged (offlineAt 3)).rangeNotice .force = some n ∧ (offlineAt 3).ctx = none
    ∧ idle.rangeNotice .force = none := by decide +kernel

theorem witness_FreezesAreCountedAndBackedOff :
    let s (n : Nat) : State := { flashing with
      mfe := { freezeNotices := 1 }, ctx := some { order with progress := { freezeCount := n } } }
    let b (elapsed : Nat) : Backoff := { start := 4600, timer := { length := 1000, elapsed := elapsed } }
    let back : State := { flashing with frg := { backoff := some (b 0) } }
    let short (s : State) : Prop := (takeInput .voltage ⟨149, false⟩ s.mfe.inputs.voltage).value < sched.vShort
      ∧ (sched.iShort : Int) < (takeInput .current ⟨801, false⟩ s.mfe.inputs.current).value ∧ s.mfe.shortDuration + 1 = sched.tFz
    (0 < (s 0).mfe.freezeNotices ∧ (s 0).ctx.isSome = true ∧ (s 0).wsq.seq = .flash ∧ boosting.wsq.seq = .boost
      ∧ 0 + 1 ≤ sched.freezeLimit ∧ sched.freezeLimit < 1 + 1)
    ∧ (0 < ({ inState .hold with mfe := { freezeNotices := 1 } } : State).mfe.freezeNotices
      ∧ (inState .hold).wsq.seq ≠ .flash ∧ (inState .hold).wsq.seq ≠ .boost ∧ flashing.mfe.freezeNotices = 0)
    ∧ (((b 999).timer.length : Int) ≤ (b 999).timer.elapsed + 1 ∧ flashing.frg.backoff = none)
    ∧ (NoNotices usual ∧ back.frg.backoff = some (b 0) ∧ back.pins.lineReset = false ∧ back.ctx = some order
      ∧ [4550, 4551].map (fun p => (takeInput .position ⟨p, false⟩ back.mfe.inputs.position).value) = [4550, 4551]
      ∧ max ((b 0).start - sched.dB) 0 = 4550 ∧ sched.strokeLimit = 15000)
    ∧ short { flashing with mfe := { shortDuration := 19 } } :=
  ⟨by decide +kernel, by decide +kernel, by decide +kernel, ⟨usual_noNotices, by decide +kernel⟩, by decide +kernel⟩

/-- R66, R91: at the sample at which x reaches B_adj, a freeze above the limit that is taken first aborts from FLASH; one
within the limit begins a backoff from there; one that waits finds BOOST. -/
theorem test_freeze_first :
    let s (n : Nat) : State := { flashing with
      mfe := { freezeNotices := 1 }, ctx := some { order with phaseReached := .flash, progress := { freezeCount := n } } }
    let t (n : Nat) (found : SampleOrder) := after (.sample (samples 4500 650 5125 5 150 (-30) 2250) found) (s n)
    let seen (x : State) := (x.wsq.seq, x.ctx.bind (·.abortKind), x.ctx.map (·.phaseReached))
    seen (t 1 [.freeze, .phase]) = (.stopping, some .freeze, some .flash)
    ∧ seen (t 0 [.freeze, .phase]) = (.flash, none, some .flash) ∧ (t 0 [.freeze, .phase]).mfe.set.velocity = -300
    ∧ seen (t 1 usual) = (.boost, none, some .boost) := by decide +kernel

/-- R36 at its limits: -40.0 °C and +65.0 °C are weldable, a tenth beyond is refused. R37 at its limit, T_n at 27.0 °C:
30.0 °C is weldable in TENSIONED mode, a tenth above is refused, and in FREE mode it is not. -/
theorem witness_TempRangeIsRefused :
    [-401, 651].map (fun t => (workPlan sched order t 2250).refusal) = [some (.tempRange, -401), some (.tempRange, 651)]
    ∧ (workPlan sched order (-400) 2250).refusal ≠ some (.tempRange, -400)
    ∧ (order.mode = .tensioned ∧ (order.tN : Int) - 301 < -30 ∧ ¬(order.tN : Int) - 300 < -30
      ∧ (workPlan sched order 301 2250).refusal = some (.tempAboveNeutral, -31)
      ∧ (workPlan sched { order with mode := .free } 301 2250).refusal = none) := by decide +kernel

theorem witness_StretchAndTensionAreRoundedHalfUp :
    (∀ t ∈ [(-400 : Int), 300, -30], -400 ≤ t ∧ t ≤ 650 ∧ (order.mode = .tensioned → -30 ≤ (order.tN : Int) - t))
    ∧ (workPlan sched order (-400) 2250).plan.fReq = 1230
    ∧ (workPlan sched order (-400) 2250).refusal = some (.tensionRange, 1230) := by decide +kernel

theorem witness_BurnOffAndAchievedNeutralAreWorked :
    let r := workPlan sched order (-30) 2250
    (-400 ≤ (-30 : Int) ∧ (-30 : Int) ≤ 650 ∧ order.mode = .tensioned ∧ -30 ≤ (order.tN : Int) - -30
      ∧ sched.bMin ≤ sched.bMax ∧ r.plan.fReq ≤ sched.fLim)
    ∧ ([2225, 2226].map (fun g => (workPlan sched order (-30) g).plan.e)) = [50, 51]
    ∧ ([1725, 1724].map (fun g => (workPlan sched order (-30) g).refusal)) = [none, some (.gapOutOfRange, -451)]
    ∧ (([-400, 650] : List Int).map (fun tR => (workPlan sched { order with mode := .free } tR 2250).plan.bAdj) = [1200, 1200]
      ∧ sched.bF = 1200)
    ∧ 0 < order.pulled * sched.alpha ∧ ({ order with heatBegan := true } : WeldCtx).heatBegan = true
    ∧ order.heatBegan = false := by decide +kernel

/-- PLAN with an answer in hand. -/
def answered (gap : Int) (s : State) : State := { s with mfe := { s.mfe with planning := .answered (-30) gap } }

theorem witness_ThePlanIsTaken :
    let s := inState .plan
    let two : State := { s with lnp := { s.lnp with peers := s.lnp.peers.set 5 (tensorRow .idle 0) } }
    let out : State := { s with tnl := { call := some { closure := false, dest := 6, weldNumber := 1070, number := some 9 } } }
    (answered 2250 s).mfe.planning = .answered (-30) 2250 ∧ s.ctx = some order ∧ s.wsq.seq = .plan
    ∧ (workPlan sched order (-30) 1500).refusal = some (.gapOutOfRange, -675)
    ∧ (workPlan sched { order with mode := .free } (-30) 2250).refusal = none ∧ (workPlan sched order (-30) 2250).refusal = none
    ∧ (withTensor .empty s).pairCandidates = [] ∧ two.pairCandidates = [5, 6]
    ∧ (∀ x ∈ [s, silenced s, full s, out], x.pairCandidates = [5] ∧ x.lnp.calls = [])
    ∧ (s.tnl.call = none ∧ s.lnp.queue.length < 7 ∧ s.wsq.silence = false ∧ (silenced s).wsq.silence = true
      ∧ 8 ≤ (full s).lnp.queue.length ∧ OutFrame.announce ∉ (full s).lnp.queue ∧ out.tnl.call.isSome = true)
    ∧ s.mfe.planning = .none := by decide +kernel

/-- R116: the claim decision of a FREE plan that is accepted, with 1200 kVA offered and another head's claim as given: D
is claimed, then the room, then it is waited on. -/
theorem test_claim_decision :
    let t (claim : Nat) := after .planningMeasurement (answered 2250 { freeIn .plan with
      lnp := { (freeIn .plan).lnp with peers := peers.set 3 (.heard true (some .right) 0 (.head 5 claim)) } })
    let seen (claim : Nat) := ((t claim).clu.room, (t claim).clu.step, (t claim).clu.ownClaim, (t claim).lnp.queue.contains (.claim (t claim).clu.ownClaim 1071 1))
    [400, 401, 800, 801].map seen
      = [(800, .sending, 800, true), (799, .sending, 799, true), (400, .sending, 400, true), (399, .waiting, 0, false)]
    := by decide +kernel

/-! #### The timers of a weld -/

theorem witness_ExpiriesAbortTheWeld :
    let window : List (Int × Int) := List.replicate 198 (65, 5000)
    let s : State := { inState .flash with mfe := { slip := 49, set := { velocity := 65 }, stall := (65, 5000) :: window } }
    let position (p : Int) := (takeInput .position ⟨p, false⟩ s.mfe.inputs.position).value
    let pressure (p : Int) := (takeInput .clampPressure ⟨p, false⟩ s.mfe.inputs.clampPressure).value
    ((∀ st ∈ [SeqState.clamp, .preheat, .power, .close], (inState st).ctx = some order ∧ (inState st).wsq.seq.abortable = true)
      ∧ timerDue due = true ∧ ({ inState .upset with mfe := { slipNotice := some 99 } } : State).mfe.slipNotice = some 99
      ∧ approaching.frg.step = .approach ∧ timerDue approaching.frg.approachTimer = true)
    ∧ NoNotices usual ∧ (s.pins.lineReset = false ∧ s.wsq.seq ∈ [SeqState.preheat, .flash, .boost, .upset]
      ∧ s.wsq.seq ∈ [SeqState.preheat, .flash, .boost] ∧ s.mfe.slip = 49 ∧ pressure 99 < sched.clampMin
      ∧ (sched.clampMin : Int) ≤ pressure 100 ∧ position 14999 < sched.strokeLimit
      ∧ (sched.strokeLimit : Int) ≤ position 15000)
    ∧ (s.frg.backoff = none ∧ 10 ≤ s.mfe.set.velocity ∧ s.mfe.stall = [] ++ (65, 5000) :: window ∧ window.length = 198
      ∧ 4 * (1000 * (position 5003 - 5000)) < (((65, 5000) :: window).map (·.1)).sum + s.mfe.set.velocity
      ∧ ¬ 4 * (1000 * (position 5004 - 5000)) < (((65, 5000) :: window).map (·.1)).sum + s.mfe.set.velocity)
    ∧ (∀ st ∈ [SeqState.stopping, .hold, .letGo, .unclamp],
      let x : State := { inState st with mfe := { slipNotice := some 99 } }
      x.ctx = some order ∧ x.mfe.slipNotice = some 99 ∧ x.wsq.seq = st)
    ∧ (4 * (1000 * (position 15000 - 14999)) < (((65, 14999) :: window).map (·.1)).sum + s.mfe.set.velocity
      ∧ (sched.strokeLimit : Int) ≤ position 15000 ∧ Finding.slip ∈ [Finding.slip, .stall]
      ∧ order.pair = some 5 ∧ s.pairedForce = some 551) :=
  ⟨by decide +kernel, usual_noNotices, by decide +kernel, by decide +kernel, by decide +kernel, by decide +kernel⟩

/-- R69: a sample that finds a slip, the stroke limit and a stall at once: the first in its order aborts, the others are
entered in STOPPING and leave the abort kind, and the stall sets the lock flag. -/
theorem test_findings_after_the_abort :
    let window : List (Int × Int) := List.replicate 198 (65, 14999)
    let s : State :=
      { inState .flash with mfe := { slip := 49, set := { velocity := 65 }, stall := (65, 14999) :: window } }
    let t (o : SampleOrder) := after (.sample (samples 0 0 15000 5 99 (-30) 2250) o) s
    let seen (o : SampleOrder) := (t o).ctx.map (fun c => (c.abortKind, c.faults.map (fun e => (e.kind, e.phase))))
    seen [.slip, .limit, .stall] = some (some .clampSlip,
      [(.clampSlip, .flash), (.burnShort, .stopping), (.platenStall, .stopping)])
    ∧ seen [.limit, .slip, .stall] = some (some .burnShort,
      [(.burnShort, .flash), (.clampSlip, .stopping), (.platenStall, .stopping)])
    ∧ (t [.slip, .limit, .stall]).wsq.lock = true := by decide +kernel

theorem witness_ExpiriesWaitForTheirTimers :
    timerDue early = false ∧ timerDue none = false ∧ timerReached early 10 = false ∧ timerReached early 9 = true
    ∧ (let b : Backoff := { start := 5000, timer := { length := 1000, elapsed := 998 } }
      ({ flashing with frg := { backoff := some b } } : State).frg.backoff = some b ∧ b.timer.elapsed + 1 < b.timer.length)
    ∧ ((inState .upset).ctx = some order ∧ timerReached (inState .upset).wsq.upsetTimer sched.tUc = false
      ∧ (inState .hold).wsq.seq ≠ .upset ∧ timerDue (inState .stopping).wsq.clampTimer = false
      ∧ timerDue (inState .preheat).frg.gateTimer = false)
    ∧ (inState .hold).wsq.seq ≠ .clamp ∧ (inState .hold).mfe.slipNotice = none
    ∧ (inState .hold).clu.step ≠ .settling ∧ (inState .hold).lnp.attempt = none := by decide +kernel

/-- PREHEAT in a contact, or in the open after it. -/
def inPreheat (step : PreheatStep) (k : Nat) (s : State) : State :=
  { s with wsq := { s.wsq with seq := .preheat }
           frg := { step := step, k := k, contactTimer := due, openTimer := due, preheatEntry := 4000 } }

theorem witness_ContactEndsAndTheOpenBegins :
    let s := inPreheat .contact 1 (inState .preheat)
    let opened (stands : Bool) (start : Int) : State :=
      { inPreheat .opn 1 (inState .preheat) with
        frg := { (inPreheat .opn 1 (inState .preheat)).frg with openStart := start, retreatOver := stands } }
    let t (p : Int) (x : State) := after (.sample (samples 0 0 p 5 150 (-30) 2250) usual) x
    NoNotices usual
    ∧ s.ctx = some order ∧ s.wsq.seq = .preheat ∧ s.frg.step = .contact ∧ timerDue s.frg.contactTimer = true
    ∧ (∀ x ∈ [opened true 4000, opened false 4000, opened false 20, s, inPreheat .gateWait 2 (inState .preheat)],
      x.pins.lineReset = false ∧ x.ctx = some order ∧ x.wsq.seq = .preheat ∧ x.mfe.stall.length < 199
      ∧ ∀ p ∈ [3950, 3951, 0, 1], (takeInput .position ⟨p, false⟩ x.mfe.inputs.position).value < sched.strokeLimit)
    ∧ sched.dOpen = 50
    ∧ [t 3950 (opened false 4000), t 3951 (opened false 4000), t 0 (opened false 20), t 1 (opened false 20),
        t 3951 (opened true 4000)].map (fun x => (x.mfe.set.velocity, x.frg.retreatOver))
      = [(0, true), (-300, false), (0, true), (-300, false), (0, true)] :=
  ⟨usual_noNotices, by decide +kernel⟩

theorem witness_OpenEndsInApproachFlashOrWait :
    let s (k : Nat) := inPreheat .opn k (inState .preheat)
    (s 1).ctx = some order ∧ (s 1).wsq.seq = .preheat ∧ (s 1).frg.step = .opn ∧ timerDue (s 1).frg.openTimer = true
    ∧ (s 1).frg.k < sched.nPre ∧ sched.nPre ≤ (s 2).frg.k ∧ (s 2).gateHolds = true ∧ order.mode = .tensioned
    ∧ (withTensor (tensorRow .holding 522) (s 2)).gateHolds = false := by decide +kernel

theorem witness_RateWindowCorrectsOrAborts :
    let w : Timer := { length := 100, elapsed := 99 }
    let s (n : Nat) : State := { flashing with frg := { windowTimer := some w, unstable := n, rMin := 64, rMax := 100 } }
    (s 1).ctx = some order ∧ (s 1).wsq.seq = .flash ∧ (s 1).frg.windowTimer = some w ∧ w.due = true
    ∧ (s 1).frg.unstable + 1 < sched.unstableLimit ∧ sched.unstableLimit ≤ (s 2).frg.unstable + 1 := by decide +kernel

/-- UPSET with its timer and stroke as given. -/
def upsetting (ms : Int) (step : Stroke) (expired : Bool) : State :=
  { inState .upset with
    wsq := { seq := .upset, stroke := step, tucExpired := expired, upsetTimer := some { length := 2000, elapsed := ms } }
    clu := { step := if expired then .idle else .granted, ownClaim := if expired then 0 else 800, qInForce := 1200 } }

/-- UPSET from position 4000, with the clamp pressure one sample short of a slip. -/
def upsetSlipping (step : Stroke) : State :=
  { upsetting 469 step false with
    mfe := { slip := 49 }, wsq := { (upsetting 469 step false).wsq with upsetEntry := 4000 } }

theorem witness_UpsetTimerEndsHeatAndStroke :
    (∀ x ∈ [Stroke.stroke, .ended], (upsetting 599 x false).ctx = some order
      ∧ (upsetting 599 x false).wsq.seq = .upset ∧ (upsetting 599 x false).wsq.tucExpired = false
      ∧ timerReached (upsetting 599 x false).wsq.upsetTimer sched.tUc = true
      ∧ (upsetting 599 x false).clu.step = .granted)
    ∧ (∀ expired ∈ [true, false], (upsetting 1999 .stroke expired).wsq.stroke = .stroke
      ∧ timerDue (upsetting 1999 .stroke expired).wsq.upsetTimer = true ∧ (upsetting 1999 .stroke expired).wsq.tucExpired = expired)
    ∧ timerReached (upsetting 598 .stroke false).wsq.upsetTimer sched.tUc = false
    ∧ NoNotices usual
    ∧ (let t (distance force : Int) := after (.sample (samples 4000 300 distance force 150 (-30) 2250) usual)
          (upsetting 469 .stroke false)
      (upsetting 469 .stroke false).pins.lineReset = false ∧ (upsetting 469 .ended false).wsq.stroke = .ended
      ∧ [t 1200 899, t 1199 900, t 799 900, t 1199 899].map (fun x => ((x.position - 0).toNat, x.input .force))
        = [(1200, 899), (1199, 900), (799, 900), (1199, 899)]
      ∧ (sched.dU = 1200 ∧ sched.dUMin = 800 ∧ sched.fUpMax = 900))
    ∧ (∀ x ∈ [Stroke.stroke, .ended], let s := upsetSlipping x
      s.pins.lineReset = false ∧ s.ctx = some order ∧ s.wsq.seq = .upset ∧ s.wsq.stroke = x ∧ s.mfe.slip = 49
      ∧ (takeInput .clampPressure ⟨99, false⟩ s.mfe.inputs.clampPressure).value < sched.clampMin)
    ∧ (order.mode = .tensioned ∧ .holdBroken ∉ order.faults.map (·.kind) ∧ (upsetting 599 .ended false).gateHolds = true
      ∧ (withTensor (tensorRow .holding 522) (upsetting 599 .ended false)).gateHolds = false) :=
  ⟨by decide +kernel, by decide +kernel, by decide +kernel, usual_noNotices, by decide +kernel, by decide +kernel,
    by decide +kernel⟩

/-- R107: the gate is evaluated at the entry to HOLD: 523 kN is the least force that meets it for 551 kN. -/
theorem test_hold_entry_evaluates_the_gate :
    let t (force : Nat) := after .tUcExpiry (withTensor (tensorRow .holding force) (upsetting 599 .ended false))
    let seen (force : Nat) := ((t force).wsq.seq, (t force).wsq.holdBroken, (t force).ctx.map (fun c => c.faults.map (·.kind)))
    [522, 523].map seen = [(.hold, true, some [.holdBroken]), (.hold, false, some [])] := by decide +kernel

/-- R105, R101: a slip taken first leaves the distance and the force of its own sample; an ended stroke's stand. -/
theorem test_slip_first_in_upset :
    let t (x : Stroke) := after (.sample (samples 4000 300 4700 650 99 (-30) 2250) [.slip]) (upsetSlipping x)
    let seen (x : Stroke) := (t x).ctx.map (fun c => (c.abortKind, c.progress.upsetDistance, c.progress.peakForce))
    seen .stroke = some (some .clampSlip, 700, 650) ∧ seen .ended = some (some .clampSlip, 0, 0) := by decide +kernel

theorem witness_HoldEndsInLetGoOrUnclamp :
    let s : State := { inState .hold with wsq := { seq := .hold, holdTimer := due } }
    NoNotices usual ∧ s.pins.lineReset = false ∧ s.ctx = some order ∧ s.wsq.seq = .hold ∧ timerDue s.wsq.holdTimer = true ∧ s.releaseHolds = false
    ∧ (withTensor (tensorRow .releasing 27) s).releaseHolds = true ∧ order.mode = .tensioned
    ∧ (freeIn .hold).ctx.map (·.mode) = some .free
    ∧ order.pair = some 5 ∧ s.wsq.silence = false ∧ s.lnp.calls = [] ∧ s.lnp.queue.length < 7
    ∧ (silenced s).wsq.silence = true :=
  ⟨usual_noNotices, by decide +kernel⟩

/-- R106: hold elapsed rises at a sample and stops at t_h times 1000. -/
theorem test_hold_elapsed :
    let t (ms : Nat) := after (.sample plain usual) { inState .hold with ctx := some { order with progress := { holdElapsed := ms } } }
    [0, 59999, 60000].map (fun ms => (t ms).ctx.map (·.progress.holdElapsed)) = [some 1, some 60000, some 60000] := by
  decide +kernel

theorem witness_SlowReleasesAreEnteredAndPassed :
    let s : State := { inState .letGo with wsq := { seq := .letGo, releaseWait := due } }
    let t (st : SeqState) : State := { inState st with wsq := { seq := st, clampTimer := due } }
    s.ctx = some order ∧ s.wsq.seq = .letGo ∧ timerDue s.wsq.releaseWait = true
    ∧ (∀ st ∈ [SeqState.unclamp, .stopping], (t st).ctx = some order ∧ (t st).wsq.seq = st
      ∧ timerDue (t st).wsq.clampTimer = true) := by decide +kernel

/-- A descriptor of the claim and the share: a segment of 16 locations from 100. -/
def claimTrace (ring : Bool) (chain : Option Nat) : Descriptor :=
  { channels := [.claim, .share], ring := ring, start := 100, length := 16, reload := 1000, chain := chain, keep := false }

/-- The tick's vector leads to descriptor 2, and that one, where it is chained, to descriptor 3 and back. -/
def traced (ring : Bool) (chain : Option Nat) (run : RunState) (memory : Memory) : State :=
  { inState .flash with
    clu := { step := .granted, ownClaim := 800 }
    cap := { program := { vectors := (List.replicate 12 none).set 0 (some 2)
                          descriptors := ((List.replicate 24 none).set 2 (some (claimTrace ring chain))).set 3
                            (some { claimTrace true (some 2) with start := 200 }) }
             runs := ((List.replicate 24 {}).set 2 run).set 3 { pos := 200, remaining := 1000 }, memory := memory } }

theorem witness_CaptureTicks :
    let w : Timer := { length := 10, elapsed := 9 }
    let s : State := { inState .plan with cap := { tick := some w } }
    let h (n ms : Nat) : State := { inState .hold with
      wsq := { seq := .hold, holdTicks := n }, ctx := some { order with progress := { holdElapsed := ms } } }
    (s.ctx = some order ∧ s.cap.tick = some w ∧ w.due = true ∧ timerDue early = false ∧ idle.ctx = none
      ∧ s.cap.program.vectors.getD 0 none = none ∧ s.wsq.seq ≠ .hold)
    ∧ (h 58 58999).wsq.seq = .hold ∧ 58 + 1 < sched.tH ∧ (58 + 1) * 1000 ≤ 58999 + 1 ∧ 58998 + 1 < (58 + 1) * 1000
    ∧ sched.tH ≤ 59 + 1 ∧ (h 58 58998).wsq.holdTicks = 58 ∧ (h 59 59999).wsq.holdTicks = 59 := by decide +kernel

/-- R163: each channel reads its own quantity. -/
theorem test_channel_values :
    let i (v : Int) : InputState := { value := v, held := 0 }
    let s (row : PeerRow) : State := withTensor row { inState .flash with
      ctx := some { order with share := 11, progress := { flashBurn := 12 } }
      mfe := { inputs := { current := i 1, voltage := i 2, position := i 3, force := i 5 }, driven := { velocity := 4 }, energy := 13999999 }
      frg := { lastRate := 6, corrK := 7 }, clu := { ownClaim := 8 } }
    (channelOrder.map (s (tensorRow .holding 10)).channelValue = [1, 2, 3, 4, 5, 6, 7, 8, 11, 10, 12, 13])
    ∧ (s (.heard false (some .left) 300 (.tensor .fault 9))).channelValue .tensorForce = 9
    ∧ (s .empty).channelValue .tensorForce = 0 ∧ order.pair = some 5 := by decide +kernel

/-- A chain in either mode, at a merge, at a full segment and at a spent descriptor. -/
theorem witness_CaptureTicks_chains :
    let e (run : Nat) : TraceEntry := { desc := 2, channel := .claim, value := 800, run := run }
    let r : RunState := { pos := 100, remaining := 1000 }
    let merging : State := traced false (some 3) { r with last := [(.claim, 100)], pos := 101 } [(100, e 127)]
    (∀ x ∈ [traced true (some 3) r [], merging, traced false none { r with pos := 115, full := true } [],
        traced false none { r with spent := true } []],
      x.ctx.isSome = true ∧ x.cap.memory.wf = true ∧ x.cap.program.descriptors.length ≤ 24
      ∧ x.cap.program.vectors.getD Source.tick10ms.code none = some 2)
    ∧ MergesInto 2 (merging.cap.runs.getD 2 {}) merging.cap.memory .claim 800 100 (e 127)
    ∧ (activate .tick10ms merging).cap.memory.map (fun x => (x.1, x.2.value, x.2.run))
      = [(100, 800, 128), (101, 1000, 1), (200, 800, 1), (201, 1000, 1)] := by
  unfold MergesInto
  decide +kernel

/-! #### Frames received -/

/-- A claim in this step, at this station, with the head 4 and a power unit 10 of these rows. -/
def claiming (st : SeqState) (step : ClaimStep) (own q station : Nat) : State :=
  { inState st with
    clu := { step := step, ownClaim := own, qInForce := q }
    lnp := { station := station, peers := peers.set 9 (.heard true none 199 (.power .running q)) } }

theorem witness_RowsAreSetByFrames :
    FrameTaken announceTensor 5 (.announce (some .left) (.tensor .holding 551)) idle
    ∧ FrameTaken announcePower 10 (.announce (some .left) (.power .running 1200)) idle
    ∧ FrameTaken claimBytes 4 (.claim 800) idle ∧ FrameTaken yieldBytes 4 .yieldClaim idle
    ∧ (idle.lnp.peers.length = 14 ∧ (idle.row 5).isPower = false ∧ idle.clu.step = .idle ∧ idle.pair ≠ some 5
      ∧ idle.row 4 = .heard true (some .right) 0 (.head 5 0))
    ∧ (∀ live side age state claim,
        ({ idle with lnp := { idle.lnp with peers := List.replicate 14 .empty } } : State).row 4
          ≠ .heard live side age (.head state claim)) := by
  refine ⟨?_, ?_, ?_, ?_, by decide +kernel, fun _ _ _ _ _ h => nomatch h⟩ <;>
    exact taken _ _ _ _ (by decide +kernel)

/-- The CLAIM of 800 kVA of head 4, in every step: the spare power is Q less 800. -/
theorem witness_RowsAreSetByFrames_claims :
    let row : PeerRow := .heard true (some .right) 0 (.head 5 800)
    let spare (q station : Nat) : Int :=
      let u := (claiming .flash .granted 800 q station).withRow 4 row
      u.clu.qInForce - u.othersClaims
    (∀ x ∈ [(SeqState.clamp, ClaimStep.idle), (.power, .backoff), (.power, .waiting), (.power, .sending), (.power, .settling),
        (.flash, .granted), (.flash, .shed)],
      ∀ y ∈ [(1600, 3), (1599, 3), (1599, 6), (1200, 3), (1199, 3), (1199, 6)],
      let s := claiming x.1 x.2 800 y.1 y.2
      RowChange s 4 row (.claimFrame claimBytes) ∧ s.ctx = some order ∧ order.pair ≠ some 4 ∧ s.lnp.peers.length = 14
        ∧ (s.row 4).claim = 0 ∧ s.wsq.silence = false ∧ s.lnp.queue.length < 7 ∧ s.clu.step = x.2
        ∧ (s.withRow 4 row).othersClaims ≠ s.othersClaims ∧ (s.withRow 4 row).anyPowerLive = true)
    ∧ ([(1600, 3), (1599, 3), (1599, 6), (1200, 3), (1199, 3), (1199, 6)].map (fun y => spare y.1 y.2)
        = [800, 799, 799, 400, 399, 399] ∧ order.demand = 800 ∧ order.dMin = 400 ∧ (4 < 6 ∧ ¬4 < 3)) := by
  refine ⟨?_, by decide +kernel⟩
  intro x hx y hy
  refine ⟨.claim claimBytes true (some .right) 0 5 0 800 (taken _ _ _ _ ?_) ?_, ?_⟩ <;>
    (revert y; revert x; decide +kernel)

/-- The only power unit goes STALE, and then EMPTY: the capacity falls to 0, and the power is lost. -/
theorem witness_RowsAreSetByFrames_power :
    let s (st : SeqState) (step : ClaimStep) : State := claiming st step 800 1200 3
    let gone (st : SeqState) : State := { s st .granted with
      lnp := { (s st .granted).lnp with peers := peers.set 9 (.heard false none 1999 (.power .running 1200)) } }
    let stale : PeerRow := .heard false none 199 (.power .running 1200)
    (∀ step ∈ [ClaimStep.sending, .settling], RowChange (s .power step) 10 stale (.rowStale 10#4)
      ∧ (s .power step).anyPowerLive = true ∧ ((s .power step).withRow 10 stale).anyPowerLive = false)
    ∧ (∀ st ∈ [SeqState.power, .flash], RowChange (gone st) 10 .empty (.rowEmpty 10#4)
      ∧ (gone st).anyPowerHeard = true ∧ ((gone st).withRow 10 .empty).anyPowerHeard = false) := by
  constructor
  · intro step h
    refine ⟨.stale 10#4 none 199 (.power .running 1200) rfl ?_ (by decide), ?_⟩ <;> (revert step; decide +kernel)
  · intro st h
    refine ⟨.gone 10#4 false none 1999 (.power .running 1200) rfl ?_ (by decide), ?_⟩ <;> (revert st; decide +kernel)

theorem witness_RowsGoStaleAndEmpty :
    let at5 (live : Bool) (age : Nat) : State := withTensor (.heard live (some .left) age (.tensor .idle 0)) idle
    1 ≤ (5#4).toNat ∧ (5#4).toNat ≤ 14 ∧ 1 ≤ (1#4).toNat ∧ (14#4).toNat ≤ 14
    ∧ (at5 true 199).row (5#4).toNat = .heard true (some .left) 199 (.tensor .idle 0) ∧ 200 ≤ 199 + 1 ∧ 198 + 1 < 200
    ∧ ((at5 false 0).row 5).isLive = false
    ∧ (at5 false 1999).row (5#4).toNat = .heard false (some .left) 1999 (.tensor .idle 0) ∧ 2000 ≤ 1999 + 1 ∧ 1998 + 1 < 2000
    ∧ (withTensor .empty idle).row 5 = .empty := by decide +kernel

/-- The paired row in each state that watches it: an ANNOUNCE of 551 kN in HOLDING, and its age. -/
theorem witness_RowsGoStaleAndEmpty_paired :
    let held : PeerRow := .heard true (some .left) 0 (.tensor .holding 551)
    let watching (st : SeqState) (w : Watch) (met : Bool) (row : PeerRow) : State :=
      withTensor row { inState st with tnl := { watch := w, gateMet := met } }
    let low : PeerRow := .heard true (some .left) 199 (.tensor .holding 522)
    (∀ x ∈ [(SeqState.close, Watch.close), (.preheat, .heatEntry)],
      RowChange (watching x.1 x.2 false low) 5 held (.announceFrame announceTensor)
      ∧ ((watching x.1 x.2 false low).withRow 5 held).gateHolds = true)
    ∧ RowChange (watching .hold .hold true (.heard true (some .left) 199 (.tensor .holding 551))) 5
        (.heard false (some .left) 199 (.tensor .holding 551)) (.rowStale 5#4)
    ∧ ((inState .hold).withRow 5 (.heard false (some .left) 199 (.tensor .holding 551))).gateHolds = false
    ∧ RowChange (watching .letGo .none false (.heard true (some .left) 199 (.tensor .releasing 27))) 5
        (.heard false (some .left) 199 (.tensor .releasing 27)) (.rowStale 5#4)
    ∧ ((inState .letGo).withRow 5 (.heard false (some .left) 199 (.tensor .releasing 27))).releaseHolds = true
    ∧ RowChange (watching .close .none false (.heard false (some .left) 1999 (.tensor .idle 0))) 5 .empty (.rowEmpty 5#4)
    ∧ ((inState .close).tnl.closureAccepted = false ∧ (inState .close).lnp.held = none ∧ order.pair = some 5
      ∧ held.isPower = false ∧ low.isPower = false ∧ low.claim = 0 ∧ held.claim = 0) := by
  refine ⟨?_, .stale 5#4 (some .left) 199 (.tensor .holding 551) rfl (by decide +kernel) (by decide), by decide +kernel,
    .stale 5#4 (some .left) 199 (.tensor .releasing 27) rfl (by decide +kernel) (by decide), by decide +kernel,
    .gone 5#4 false (some .left) 1999 (.tensor .idle 0) rfl (by decide +kernel) (by decide), by decide +kernel⟩
  intro x h
  refine ⟨.announce announceTensor (some .left) (.tensor .holding 551) (taken _ _ _ _ ?_), ?_⟩ <;>
    (revert x; decide +kernel)

theorem witness_WeldStartIsAccepted :
    FrameTaken startBytes 14 (.weldStart 7 startArgs) idle
    ∧ (idle.isConsole 14 = true ∧ idle.wsq.seq ≠ .locked ∧ idle.ctx = none ∧ idle.wsq.haltLatch = false
      ∧ idle.rst.slot = none ∧ idle.pins.headStop = false ∧ bankOfCode startArgs.bank = some .a
      ∧ modeOfCode startArgs.mode = some .tensioned ∧ 20 ≤ startArgs.pulled ∧ startArgs.pulled ≤ 400 ∧ 100 ≤ startArgs.tN
      ∧ startArgs.tN ≤ 400 ∧ (idle.bank .a).valid = true ∧ (idle.bank .a).installing = false
      ∧ idle.rst.nextWeld < 2 ^ 32 ∧ idle.wsq.silence = false ∧ idle.lnp.queue.length < 7) :=
  ⟨taken _ _ _ _ (by decide +kernel), by decide +kernel⟩

theorem witness_WeldStartIsTurnedAway :
    let locked := inState .locked
    let halted : State := { idle with wsq := { idle.wsq with haltLatch := true } }
    let stopped : State := { idle with pins := { idle.pins with headStop := true } }
    let noBank : State := { idle with rst := {} }
    FrameTaken startBytes 14 (.weldStart 7 startArgs) idle ∧ FrameTaken startBytes 14 (.weldStart 7 startArgs) locked
    ∧ FrameTaken startBytes 14 (.weldStart 7 startArgs) halted ∧ FrameTaken startBytes 14 (.weldStart 7 startArgs) programming
    ∧ FrameTaken startBytes 14 (.weldStart 7 startArgs) stopped ∧ FrameTaken startBytes 14 (.weldStart 7 startArgs) noBank
    ∧ (idle.wsq.silence = false ∧ idle.lnp.queue.length < 8 ∧ idle.isConsole 14 = true ∧ locked.wsq.seq = .locked
      ∧ halted.wsq.haltLatch = true ∧ programming.rst.slot.isSome = true ∧ stopped.pins.headStop = true
      ∧ (noBank.bank .a).valid = false
      ∧ ({ idle with lnp := { idle.lnp with peers := List.replicate 14 .empty } } : State).isConsole 14 = false) := by
  refine ⟨?_, ?_, ?_, ?_, ?_, ?_, by decide +kernel⟩ <;>
    exact taken _ _ _ _ (by decide +kernel)

theorem witness_WeldStopActsByState :
    FrameTaken stopBytes 14 (.weldStop 8) idle ∧ FrameTaken stopBytes 14 (.weldStop 8) (inState .letGo)
    ∧ FrameTaken stopBytes 14 (.weldStop 8) (inState .clamp) ∧ FrameTaken stopBytes 14 (.weldStop 8) (inState .hold)
    ∧ (inState .clamp).lnp.queue.length < 5 ∧ (idle.wsq.silence = false ∧ idle.lnp.queue.length < 7 ∧ idle.isConsole 14 = true ∧ idle.wsq.seq = .ready
      ∧ (inState .letGo).ctx = some order ∧ (inState .clamp).wsq.seq.abortable = true) := by
  refine ⟨?_, ?_, ?_, ?_, by decide +kernel⟩ <;>
    exact taken _ _ _ _ (by decide +kernel)

theorem witness_OtherCallsAreUnsupported :
    FrameTaken setClosureBytes 14 (.setClosure 9) idle ∧ FrameTaken letGoBytes 14 (.letGo 9) (full idle)
    ∧ FrameTaken unknownBytes 14 (.unknownCall 9) (silenced idle)
    ∧ (idle.wsq.silence = false ∧ idle.lnp.queue.length < 8 ∧ (silenced idle).wsq.silence = true
      ∧ 8 ≤ (full idle).lnp.queue.length ∧ OutFrame.announce ∉ (full idle).lnp.queue) := by
  refine ⟨?_, ?_, ?_, by decide +kernel⟩ <;>
    exact taken _ _ _ _ (by decide +kernel)

/-- CLOSE, with a SET_CLOSURE to tensor 5 awaiting its answer. -/
def closing : State :=
  { inState .close with
    lnp := { (inState .close).lnp with calls := [{ dest := 5, number := 0, closure := true, deadline := due }] }
    tnl := { call := some { closure := true, dest := 5, weldNumber := 1071, number := some 0 } } }

/-- STOPPING, with the SET_CLOSURE of the weld before still out and its release owed. -/
def owing : State :=
  { inState .stopping with
    lnp := closing.lnp
    tnl := { call := some { closure := true, dest := 5, weldNumber := 1070, number := some 0 }
             owed := some { station := 5, weldNumber := 1070 } } }

/-- The LET_GO of the weld before out to tensor 5. -/
def freeing (s : State) : State :=
  { s with
    lnp := { s.lnp with calls := [{ dest := 5, number := 0, closure := false, deadline := due }] }
    tnl := { call := some { closure := false, dest := 5, weldNumber := 1070, number := some 0 } } }

/-- CLOSE, with the SET_CLOSURE waiting for the LET_GO of the weld before. -/
def closureWaits : State :=
  { freeing (inState .close) with tnl := { (freeing (inState .close)).tnl with closureWaiting := true } }

theorem witness_CallsAreFreed :
    let r (closure : Bool) : CallRecord := { dest := 5, number := 0, closure := closure, deadline := due }
    let k (closure : Bool) (weld : Nat) : TensorCall :=
      { closure := closure, dest := 5, weldNumber := weld, number := some 0 }
    (∀ s ∈ [idle, closing, owing, freeing idle, closureWaits],
      FrameTaken acceptedBytes 5 (.answer 0 0 0) s ∧ FrameTaken refusedBytes 5 (.answer 0 1 7) s)
    ∧ (CallAwaits 5 (r true) (k true 1071) closing ∧ CallAwaits 5 (r true) (k true 1070) owing
      ∧ CallAwaits 5 (r false) (k false 1070) (freeing idle)
      ∧ CallAwaits 5 (r false) (k false 1070) { closureWaits with tnl := { closureWaits.tnl with closureWaiting := false } })
    ∧ (idle.lnp.calls = [] ∧ closing.ctx = some order ∧ closing.wsq.seq = .close ∧ closing.tnl.owed = none
      ∧ timerDue due = true ∧ (5#4).toNat = 5)
    ∧ (owing.tnl.owed = some { station := 5, weldNumber := 1070 } ∧ owing.wsq.silence = false ∧ owing.lnp.queue.length < 8)
    ∧ (closureWaits.tnl.closureWaiting = true ∧ closureWaits.wsq.seq = .close ∧ closureWaits.ctx = some order
      ∧ order.pair = some 5 ∧ closureWaits.wsq.silence = false ∧ closureWaits.lnp.queue.length < 8)
    ∧ closing.gateHolds = true ∧ (withTensor (tensorRow .closing 551) closing).gateHolds = false := by
  refine ⟨fun s h => ⟨taken _ _ _ _ ?_, taken _ _ _ _ ?_⟩, ⟨?_, ?_, ?_, ?_⟩, by decide +kernel⟩
  iterate 2 revert s; decide +kernel
  all_goals constructor <;> decide +kernel

/-- R140, R141: the ANSWER to a LET_GO sends the SET_CLOSURE that waited for it, with F_req and the closure to make. -/
theorem test_waiting_closure_goes_out :
    let t := after (.answerFrame acceptedBytes) closureWaits
    t.lnp.queue.map (·.kindCode) = [4] ∧ t.tnl.call.map (·.weldNumber) = some 1071 ∧ t.wsq.seq = .close
    ∧ t.lnp.calls.map (fun r => (r.dest, r.closure, r.deadline.isSome)) = [(5, true, false)] := by decide +kernel

theorem witness_HaltSetsTheLatch :
    FrameTaken haltBytes 14 .halt (inState .upset) ∧ FrameTaken haltBytes 14 .halt (inState .hold)
    ∧ FrameTaken haltBytes 14 .halt idle
    ∧ ((inState .upset).ctx = some order ∧ (inState .upset).wsq.seq.abortable = true ∧ (inState .hold).wsq.seq = .hold
      ∧ idle.wsq.seq.abortable = false ∧ idle.wsq.seq ≠ .hold) := by
  refine ⟨?_, ?_, ?_, by decide +kernel⟩ <;>
    exact taken _ _ _ _ (by decide +kernel)

/-- POWER, with a claim settling. -/
def settling : State := { inState .power with clu := { step := .settling, ownClaim := 800, qInForce := 1200, settleTimer := due } }

/-- The halt latch set. -/
def latched (s : State) : State := { s with wsq := { s.wsq with haltLatch := true } }

theorem witness_ClearEmptiesTheQueueAndCalls :
    FrameTaken clearBytes 14 .clearAll idle ∧ FrameTaken clearBytes 14 .clearAll settling
    ∧ FrameTaken clearBytes 14 .clearAll closing ∧ FrameTaken clearBytes 14 .clearAll (latched idle)
    ∧ (idle.tnl.call = none ∧ idle.clu.step ≠ .sending ∧ idle.clu.step ≠ .settling ∧ idle.isConsole 14 = true ∧ (latched idle).wsq.haltLatch = true
      ∧ settling.tnl.call = none ∧ settling.clu.step = .settling ∧ settling.wsq.silence = false
      ∧ closing.wsq.seq = .close ∧ closing.clu.step = .idle ∧ closing.tnl.owed = none) := by
  refine ⟨?_, ?_, ?_, ?_, by decide +kernel⟩ <;>
    exact taken _ _ _ _ (by decide +kernel)

/-- R156: the CLEAR of a console clears the latch, and asks for no ANNOUNCE (log 45). -/
theorem test_clear_asks_for_no_announce :
    let t := after (.clearFrame clearBytes) (latched idle)
    t.wsq.haltLatch = false ∧ t.lnp.queue = [] := by decide +kernel

theorem witness_DuplicateStationSilencesTheHead :
    parseFrame ownBytes = some (frameOf ownBytes) ∧ (frameOf ownBytes).source = idle.lnp.station ∧ 1 ≤ idle.lnp.station
    ∧ idle.lnp.station ≤ 14 ∧ idle.pins.lineOk = true ∧ idle.pins.lineReset = false ∧ idle.wsq.seq ≠ .offline
    ∧ idle.lnp.attempt = none ∧ idle.wsq.silence = false ∧ (silenced idle).wsq.silence = true ∧ idle.wsq.seq = .ready
    ∧ (inState .clamp).wsq.seq.abortable = true ∧ (inState .clamp).ctx = some order
    ∧ (∀ st ∈ [SeqState.hold, .letGo, .unclamp, .stopping], (inState st).ctx = some order ∧ (inState st).wsq.seq = st)
    ∧ (let awaiting : CallRecord := { dest := 5, number := 0, closure := true, deadline := due }
      let queued : CallRecord := { dest := 6, number := 1, closure := false, deadline := none }
      let k (dest : Nat) (number : Option Nat) : TensorCall := { closure := true, dest := dest, weldNumber := 1071, number := number }
      let s (call : TensorCall) : State := { inState .close with
        lnp := { (inState .close).lnp with calls := [awaiting, queued] }, tnl := { call := some call } }
      (∀ x ∈ [k 5 (some 0), k 6 (some 1)], (s x).tnl.call = some x ∧ ((s x).lnp.calls.map (·.dest)).Nodup
        ∧ (s x).lnp.held = none ∧ (s x).wsq.silence = false ∧ (s x).lnp.attempt = none)
      ∧ (after (.duplicateStation ownBytes) (s (k 6 (some 1)))).lnp.calls = [awaiting]) := by decide +kernel

/-! #### Frames sent -/

/-- A frame at the head of the queue, in an attempt. -/
def sending (f : OutFrame) (s : State) : State := { s with lnp := { s.lnp with queue := [f], attempt := some [] } }

theorem witness_AnnounceTimerAndAttempts :
    let w : Timer := { length := 50, elapsed := 49 }
    let s : State := { idle with lnp := { idle.lnp with announceTimer := some w } }
    let q (backoff : Bool) : State := { idle with lnp := { idle.lnp with queue := [.announce], backoff := backoff } }
    s.lnp.announceTimer = some w ∧ w.due = true ∧ s.wsq.silence = false ∧ s.lnp.queue.length < 8
    ∧ timerDue idle.lnp.announceTimer = false ∧ (q true).lnp.queue = [.announce] ∧ (q true).lnp.attempt = none
    ∧ (q true).pins.lineOk = true ∧ (q true).pins.lineReset = false ∧ (q true).wsq.silence = false ∧ (q true).wsq.seq ≠ .offline
    ∧ 12 + (if (q true).lnp.backoff then (q true).lnp.station * 40 else 0) = 132
    ∧ 12 + (if (q false).lnp.backoff then (q false).lnp.station * 40 else 0) = 12 ∧ idle.lnp.queue = [] := by decide +kernel

/-- The tensor call of a state queued and not yet won, in its sixteenth attempt. -/
def lastTry (body : CallBody) (s : State) : State :=
  let q := sending (.call 5 0 body) s
  { q with lnp := { q.lnp with attemptCount := 15, calls := q.lnp.calls.map (fun r => { r with deadline := none }) } }

theorem witness_AttemptsAreWonAndLost :
    let s := sending .announce idle
    let claimed (n : Nat) := sending (.claim 800 1071 n) { inState .power with clu := { step := .sending, ownClaim := 800, serial := 1 } }
    let sixteenth (s : State) : State := { s with lnp := { s.lnp with attemptCount := 15 } }
    let set : CallBody := .setClosure 551 2042 1071
    (s.lnp.attempt = some [] ∧ s.lnp.queue = [.announce] ∧ s.lnp.claimDropped = false ∧ s.lnp.announceOwed = false
      ∧ ({ s with lnp := { s.lnp with announceOwed := true } } : State).lnp.announceOwed = true ∧ s.wsq.silence = false)
    ∧ ((claimed 1).lnp.queue = [.claim 800 1071 (claimed 1).clu.serial] ∧ (claimed 1).clu.step = .sending
      ∧ (claimed 0).lnp.queue = [.claim 800 1071 0] ∧ 0 ≠ (claimed 0).clu.serial ∧ (claimed 1).wsq.silence = false)
    ∧ (s.lnp.attemptCount < 15 ∧ 15 ≤ (sixteenth s).lnp.attemptCount ∧ 15 ≤ (sixteenth (claimed 1)).lnp.attemptCount)
    ∧ (∀ x ∈ [(set, closing, true), (set, owing, true), (.letGo 1070, freeing idle, false)],
      let q := lastTry x.1 x.2.1
      q.lnp.attempt = some [] ∧ q.lnp.queue = [.call 5 0 x.1] ∧ 15 ≤ q.lnp.attemptCount ∧ q.lnp.claimDropped = false
      ∧ q.lnp.calls = [{ dest := 5, number := 0, closure := x.2.2, deadline := none }] ∧ q.lnp.held = none
      ∧ q.tnl.call.any (fun k => k.dest == 5 && k.closure == x.2.2) = true ∧ q.tnl.closureWaiting = false)
    ∧ (closing.ctx = some order ∧ closing.wsq.seq = .close ∧ closing.tnl.owed = none
      ∧ owing.tnl.owed = some { station := 5, weldNumber := 1070 }) := by decide +kernel

/-- R134, R149, R151: the sixteenth loss of the SET_CLOSURE in CLOSE aborts with TENSOR_TIMEOUT; LINE_FAULT, the kind code
4 its input, is first in the log. R117: that of the newest CLAIM queues it afresh. -/
theorem test_sixteenth_loss :
    let t := after .attemptLost (lastTry (.setClosure 551 2042 1071) closing)
    let u := after .attemptLost (sending (.claim 800 1071 0)
      { inState .power with
        clu := { step := .sending, ownClaim := 800 }, lnp := { (inState .power).lnp with attemptCount := 15 } })
    (t.wsq.seq, t.ctx.bind (·.abortKind), t.lnp.calls) = (.stopping, some .tensorTimeout, [])
    ∧ t.rst.log.first.map (fun f => (f.kind, f.input)) = some (.lineFault, some 4)
    ∧ u.clu.step = .sending ∧ .claim 800 1071 1 ∈ u.lnp.queue := by decide +kernel

/-- R151: the CALL frame whose record is gone, discarded at its sixteenth loss, frees no newer record to that station. -/
theorem test_late_call_frame_frees_no_newer_call :
    let s := sending (.call 5 3 (.setClosure 551 2042 1070))
      { closing with lnp := { closing.lnp with
          attemptCount := 15, calls := [{ dest := 5, number := 4, closure := true, deadline := none }] } }
    let t := after .attemptLost s
    t.wsq.seq = .close ∧ t.lnp.calls = s.lnp.calls ∧ t.lnp.queue.length ≤ 1
    ∧ t.rst.log.first.map (·.kind) = some .lineFault := by decide +kernel

/-- R117, R146, R149: the win that makes room tells the CLU first: its CLAIM is queued, then the ANNOUNCE owed. -/
theorem test_room_is_told_first :
    let rest : List OutFrame := List.replicate 7 (.yieldClaim 1)
    let s : State := { inState .power with
      clu := { step := .sending, ownClaim := 800 }
      lnp := { (inState .power).lnp with
        queue := .announce :: rest, attempt := some [], announceOwed := true, claimDropped := true } }
    (after .attemptWon s).lnp.queue.map (·.kindCode) = rest.map (·.kindCode) ++ [2]
    ∧ (after .attemptWon s).lnp.claimDropped = false := by decide +kernel

theorem witness_ClaimTimersEnd :
    let back (q : Nat) : State := { inState .power with
      clu := { step := .backoff, qInForce := q, backoffTimer := due } }
    let shed (own : Nat) : State := { inState .flash with
      clu := { step := .shed, qInForce := 1200, ownClaim := own, shedTimer := due } }
    let noContacts (s : State) : State :=
      { s with rst := { s.rst with bankA := { bank with image := { fields := sched.fields.set 9 0 } } } }
    let free : State := { settling with ctx := (freeIn .power).ctx }
    (∀ s ∈ [noContacts settling, noContacts free, noContacts (withTensor (tensorRow .holding 522) settling)],
      s.ctx.isSome = true ∧ s.wsq.seq = .power ∧ s.clu.step = .settling ∧ timerDue s.clu.settleTimer = true
      ∧ (s.bank .a).image.nPre = 0)
    ∧ ((noContacts settling).gateHolds = true ∧ free.ctx.map (·.mode) = some .free ∧ order.mode = .tensioned
      ∧ (noContacts (withTensor (tensorRow .holding 522) settling)).gateHolds = false)
    ∧ (settling.ctx = some order ∧ settling.wsq.seq = .power ∧ settling.clu.step = .settling
      ∧ timerDue settling.clu.settleTimer = true ∧ 1 ≤ (settling.bank .a).image.nPre
      ∧ order.demand ≤ settling.clu.ownClaim ∧ (799 : Nat) < order.demand)
    ∧ ((back 800).clu.step = .backoff ∧ timerDue (back 800).clu.backoffTimer = true ∧ (back 800).wsq.silence = false
      ∧ [(back 800).room, (back 799).room, (back 400).room, (back 399).room] = [800, 799, 400, 399])
    ∧ ((shed 1200).clu.step = .shed ∧ timerDue (shed 1200).clu.shedTimer = true ∧ (shed 1200).sparePower = 1200
      ∧ (shed 1201).wsq.seq.abortable = true ∧ (shed 1201).wsq.seq ≠ .power ∧ (shed 1201).sparePower < 1201
      ∧ ({ shed 1201 with wsq := { seq := .power } } : State).wsq.seq.abortable = true) := by
  decide +kernel

/-! #### The store -/

theorem witness_ProgramsAndErasesEnd :
    let erasing : State := { idle with rst := { idle.rst with erase := some 31 } }
    let slot : Slot := { record := composeRecord .left [] order, programming := false }
    let waits : State := { erasing with rst := { erasing.rst with
      slot := some slot, writePos := 31, blocks := (List.replicate 32 Block.erased).set 31 (.held none) } }
    programming.rst.blocks.length = 32
    ∧ programming.rst.slot = some { record := composeRecord .left [] order, programming := true }
    ∧ programming.rst.targetBlock = some 0 ∧ erasing.rst.erase = some 31 ∧ erasing.rst.blocks.length = 32
    ∧ erasing.rst.slot = none ∧ waits.rst.slot = some slot ∧ waits.rst.erase = some 31 ∧ waits.rst.blocks.length = 32
    ∧ waits.rst.targetBlock = some 31 ∧ idle.rst.slot = none ∧ idle.rst.erase = none := by decide +kernel

/-- R178, R179: the erase of the target block lets the record that waits begin its commit; a block marked BAD at the end of
a program that fails makes the next one the target, whose erase begins. -/
theorem test_ends_test_the_commit_and_the_erase :
    let slot (on : Bool) : Slot := { record := composeRecord .left [] order, programming := on }
    let s (blocks : List Block) (on : Bool) (erase : Option Nat) : State := { idle with rst := { idle.rst with
      slot := some (slot on), erase := erase, writePos := 31, blocks := blocks } }
    let held := (List.replicate 32 Block.erased).set 31 (.held none)
    let next := (List.replicate 32 Block.erased).set 0 (.held none)
    (after (.eraseEnd true) (s held false (some 31))).rst.slot.map (·.programming) = some true
    ∧ (after (.eraseEnd false) (s held false (some 31))).rst.slot.map (·.programming) = some true
    ∧ (after (.commitEnd false) (s next true none)).rst.slot.map (·.programming) = some false
    ∧ (after (.commitEnd false) (s next true none)).rst.erase = some 0 := by decide +kernel

/-- A settings write under way. -/
def writing (w : SettingsWrite) (s : State) : State := { s with rst := { s.rst with write := some w } }

theorem witness_SettingsWritesEnd :
    (writing (.schedule .b []) idle).rst.write = some (.schedule .b []) ∧ ((writing (.schedule .b []) idle).bank .a).valid = true
    ∧ (writing (.schedule .a []) idle).rst.write = some (.schedule .a []) ∧ ((writing (.schedule .a []) idle).bank .b).valid = false
    ∧ (writing (.capture []) idle).rst.write = some (.capture []) ∧ idle.ctx = none
    ∧ (writing (.capture []) (inState .hold)).ctx.isSome = true ∧ idle.rst.write = none := by decide +kernel

/-! #### The service port -/

/-- A bank image in one transfer of 112 bytes, with BEGIN and END and no check byte. -/
def wholeImage (fields : Schedule) : List Byte := [0x74#8, 0xC1#8, 0x70#8] ++ imageOfSchedule fields

/-- A capture image of zeros is longer than one transfer: 255 bytes with BEGIN, then the rest with END. -/
def captureEnd : List Byte := [0x74#8, 0x43#8, 0x5D#8] ++ List.replicate 93 0#8

/-- The port with a staging of this kind and length. -/
def staged (g : LoadKind) (n : Nat) (s : State) : State :=
  { s with svp := { s.svp with staging := some { kind := g, buffer := List.replicate n 0#8 } } }

theorem witness_LoadTransfersStageAndHandOver :
    let bad : Schedule := { fields := sched.fields.set 29 1100 }
    let kindOf (bytes : List Byte) := loadKindOfCode (commandOf bytes).kind
    TransferTaken (transfer beginBytes) (commandOf beginBytes) idle ∧ TransferTaken (transfer goOnBytes) (commandOf goOnBytes) idle
    ∧ TransferTaken (transfer (wholeImage sched)) (commandOf (wholeImage sched)) idle
    ∧ TransferTaken (transfer captureEnd) (commandOf captureEnd) (staged .capture 255 idle)
    ∧ (kindOf beginBytes = some .bankA ∧ kindOf goOnBytes = some .bankA ∧ kindOf captureEnd = some .capture
      ∧ (commandOf beginBytes).beginBit = true ∧ (commandOf goOnBytes).beginBit = false ∧ idle.svp.staging = none
      ∧ (commandOf (wholeImage sched)).endBit = true)
    ∧ (512 < (List.replicate 512 0#8 ++ (commandOf goOnBytes).data).length
      ∧ (List.replicate 511 0#8 ++ (commandOf goOnBytes).data).length ≤ 512)
    ∧ (idle.bound .a = false ∧ (inState .hold).bound .a = true ∧ (commandOf (wholeImage sched)).data.length = 112
      ∧ firstBadField (scheduleOfImage (commandOf (wholeImage sched)).data) = none
      ∧ firstBadField (scheduleOfImage (commandOf (wholeImage bad)).data) = some 30 ∧ (commandOf beginBytes).data.length ≠ 112)
    ∧ ((List.replicate 255 0#8 ++ (commandOf captureEnd).data).length = 348
      ∧ (inState .hold).ctx.isSome = true ∧ idle.ctx = none) := by
  refine ⟨?_, ?_, ?_, ?_, by decide +kernel, by decide +kernel, by decide +kernel, by decide +kernel⟩ <;>
    exact transferTaken _ _ (by decide +kernel)

theorem witness_RecordsAndImagesAreRead :
    let r := composeRecord .left [] order
    let s : State := { idle with rst := { idle.rst with blocks := idle.rst.blocks.set 0 (.held (some r)) } }
    let fetched : State := { s with svp := { s.svp with buffer := .record r } }
    let fetching : State := { s with svp := { s.svp with busy := .fetch 0 r } }
    let q : ReadTransfer := { address := 0x75#8, count := 3, clockLow := 24 }
    TransferTaken (transfer selectBytes) (commandOf selectBytes) s ∧ TransferTaken (transfer selectNewest) (commandOf selectNewest) s
    ∧ TransferTaken (transfer readDataBytes) (commandOf readDataBytes) fetched
    ∧ TransferTaken (transfer readStatusBytes) (commandOf readStatusBytes) s
    ∧ TransferTaken (transfer readFaultsBytes) (commandOf readFaultsBytes) s
    ∧ TransferTaken (transfer clearFaultsBytes) (commandOf clearFaultsBytes) s
    ∧ (beNat (commandOf selectBytes).data = 0 ∧ beNat (commandOf selectNewest).data = 255
      ∧ (newestBlock s.rst.blocks).map (·.1) = some 0 ∧ s.rst.block 0 = .held (some r) ∧ s.rst.erase ≠ some 0
      ∧ (newestBlock idle.rst.blocks).map (·.1) = none)
    ∧ (fetched.svp.buffer = .record r ∧ fetching.svp.busy = .fetch 0 r ∧ fetching.svp.busy ≠ .none ∧ s.svp.busy = .none
      ∧ s.pins.lineReset = false ∧ q.address.toNat = 0x3A * 2 + 1 ∧ q.clockLow < 25)
    ∧ (({ fetched with svp := { fetched.svp with source := .record } } : State).svp.source = .record ∧ r.faults.length ≤ 8
      ∧ idle.rst.log.counts.length = 35 ∧ idle.rst.log.first = none) := by
  refine ⟨?_, ?_, ?_, ?_, ?_, ?_, by decide +kernel, by decide +kernel, by decide +kernel⟩ <;>
    exact transferTaken _ _ (by decide +kernel)

theorem witness_BadTransfersAreDiscarded :
    let bad := commandOf (readStatusBytes.set 3 0xD1#8)
    idle.pins.lineReset = false ∧ idle.svp.busy = .none ∧ writeAddressed unknownKindBytes = true
    ∧ commandByte? unknownKindBytes = some 0x29#8 ∧ (0x29#8).toNat % 32 = 9
    ∧ parseCommand (readStatusBytes.set 3 0xD1#8) = some bad ∧ bad.checkBit = true
    ∧ crc8 (bad.bytes.take (2 + bad.count)) ≠ bad.rest.getD bad.count 0#8
    ∧ (commandOf [0x74#8, 0x06#8, 0x01#8]).rest.length
        ≠ (commandOf [0x74#8, 0x06#8, 0x01#8]).count + (if (commandOf [0x74#8, 0x06#8, 0x01#8]).checkBit then 1 else 0)
    ∧ countFits 6 1 = false
    ∧ ({ idle with svp := { busy := .install } } : State).svp.busy ≠ .none
    ∧ (let q : ReadTransfer := { address := 0x75#8, count := 3, clockLow := 25 }
      q.address.toNat = 0x3A * 2 + 1 ∧ 25 ≤ q.clockLow ∧ 25 ≤ ({ bytes := readStatusBytes, clockLow := 25 } : WriteTransfer).clockLow) := by
  decide +kernel

/-- R185, R190 (log 58): a read transfer cut short at 25 ms gives ABANDONED and leaves the read pointer. -/
theorem test_read_cut_short :
    let s : State := { idle with svp := { source := .status, pointer := 1 } }
    let t := after (.readTransfer { address := 0x75#8, count := 1, clockLow := 25 }) s
    (t.svp.status, t.svp.pointer, t.svp.source) = (.abandoned, 1, .status) := by decide +kernel

/-! #### Tests and invariants -/

theorem witness_GateAndReleaseTestReadTheRow : (inState .hold).ctx = some order ∧ order.pair = some 5 := by decide +kernel

theorem witness_VerdictIsTheFirstThatApplies :
    let hot : WeldCtx := { order with heatBegan := true }
    let listed (k : FaultKind) : WeldCtx := { hot with faults := [{ kind := k, phase := .hold, count := 1 }] }
    [verdictOf order, verdictOf { hot with abortKind := some .freeze }, verdictOf (listed .upsetShort),
      verdictOf (listed .stopInHold), verdictOf { hot with overflow := true }, verdictOf hot]
      = [.notWelded, .reject, .reject, .review, .review, .accept] := by decide +kernel

/-- A command that acts is waiting in a state of a weld. -/
def waiting : State := { inState .hold with
  wsq := { seq := .hold, holdTimer := due }, pending := [.holdTimerExpiry]
  clu := { step := .idle, qInForce := 1200 } }

theorem witness_EveryStepKeepsContextAndState : WeldFits waiting ∧ (after .holdTimerExpiry waiting).wsq.seq = .letGo :=
  ⟨⟨by decide, fun h => absurd (by decide) h, fun h => absurd h (by decide), fun h => absurd h (by decide),
    fun h => absurd h (by decide)⟩, by decide +kernel⟩

theorem witness_EveryStepKeepsQueueCallsAndFaultList : LineFits waiting ∧ ListFits waiting
    ∧ exec .holdTimerExpiry waiting = .next (after .holdTimerExpiry waiting)
    ∧ (let list (kinds : List FaultKind) : WeldCtx :=
        { order with faults := kinds.map (fun k => { kind := k, phase := .hold, count := 255 }) }
      let eight : List FaultKind := [.holdBroken, .stopInHold, .upsetShort, .tensorLost, .tensorSlow, .energyRange,
        .neutralOff, .powerDegraded]
      (∀ kinds ∈ [eight, eight.take 7], ((list kinds).faults.map (·.kind)).Nodup)
      ∧ (.holdBroken ∈ (list eight).faults.map (·.kind) ∧ .freeze ∉ (list eight).faults.map (·.kind)
        ∧ (list eight).faults.length = 8 ∧ (list (eight.take 7)).faults.length < 8)) := by
  refine ⟨⟨by decide, by decide, by decide, by decide⟩, ⟨?_, ?_, ?_⟩, rfl, by decide⟩ <;>
    (intro c h; obtain rfl := Option.some.inj h; decide)

theorem witness_EveryStepKeepsTheBoundBank : BanksFit waiting := by
  refine ⟨fun c h => ?_, fun name image h => nomatch h⟩
  obtain rfl := Option.some.inj h
  decide

theorem witness_EveryStepKeepsRecordsAndTrace : RecordsFit waiting ∧ TraceFits waiting := by
  refine ⟨⟨fun _ => rfl, fun c h => ?_, fun p h => (nomatch h), fun w h => ?_, fun n m v w _ h => ?_⟩, by unfold TraceFits; decide⟩
  · obtain rfl := Option.some.inj h
    exact ⟨by decide, fun w hw => by revert hw; simp [waiting, inState]⟩
  · revert h; simp [waiting, inState]
  · have hb : waiting.rst.block n = .erased ∨ waiting.rst.block n = .bad := by
      show (List.replicate 32 Block.erased).getD n .bad = _ ∨ (List.replicate 32 Block.erased).getD n .bad = _
      rw [List.getD_eq_getElem?_getD, List.getElem?_replicate]
      split
      · exact .inl rfl
      · exact .inr rfl
    rcases hb with hb | hb <;> rw [hb] at h <;> cases h

theorem witness_FirstFaultStandsUntilCleared :
    let f : FirstFault := { kind := .freeze, state := .flash, weldNumber := some 1071, input := some 2 }
    let s : State := { waiting with rst := { waiting.rst with log := { first := some f } } }
    exec .holdTimerExpiry s = .next (after .holdTimerExpiry s) ∧ s.rst.log.first = some f ∧ s.rst.log.counts.getD 34 0 ≤ 255
    ∧ s.rst.log.counts.length = 35 ∧ waiting.rst.log.first = none ∧ waiting.rst.log.counts.length = 35
    ∧ f.kind.code = 16 ∧ ((s.rst.log.file f).counts.getD 15 0 = 1) :=
  ⟨rfl, by decide +kernel⟩

theorem witness_FramesSurviveTheLayout :
    let f := frameOf claimBytes
    f.source < 16 ∧ f.dest < 16 ∧ f.kind < 256 ∧ f.payload.length ≤ 24
    ∧ ({ source := 15, dest := 15, kind := 255, payload := List.replicate 24 0#8 } : RxFrame).payload.length ≤ 24
    ∧ parseFrame claimBytes = some f ∧ rxBody f = some (.claim 800) := by
  decide +kernel

/-- R144: the bytes the controller sends: the CLAIM of 800 kVA for weld 1071 is the one written out above. -/
theorem test_claim_sent : frameBytes (.claim 800 1071 0) { inState .power with
    lnp := { (inState .power).lnp with station := 4 } } = claimBytes := by decide +kernel

/-- A capture program image: vector 0 names descriptor 0, a ring of the current and the energy in the last 16 locations,
chained to itself; every other vector is 255 and every other descriptor unused. -/
def captureImage : List Byte :=
  0#8 :: List.replicate 11 0xFF#8
    ++ [2#8, 1#8, 12#8, 0#8, 0#8, 1#8, 0x1F#8, 0xF0#8, 0x00#8, 0x10#8, 0x20#8, 0x00#8, 0#8, 1#8] ++ List.replicate 322 0#8

theorem witness_BankImagesSurviveTheStore :
    sched.fields.length = 54 ∧ (List.range' 1 54).all (fieldGood sched) = true ∧ (imageOfSchedule sched).length = 112
    ∧ captureImage.length = 348 ∧ (List.range' 1 180).all (captureFieldGood captureImage) = true := by
  decide +kernel

/-- R18 to R23: a field at each end of its range is good and one past it is not; a pairing condition is the second field's;
and the lowest bad index is the one named. -/
theorem test_field_bounds :
    let image (i v : Nat) := scheduleOfImage (imageOfSchedule { fields := sched.fields.set (i - 1) v })
    let good (i v : Nat) := fieldGood (image i v) i
    [good 1 4999, good 1 5000, good 1 9000, good 1 9001] = [false, true, true, false]
    ∧ [good 9 50, good 9 51, good 11 2, good 11 3, good 33 11999, good 33 12000] = [true, false, true, false, true, false]
    ∧ [good 43 1200, good 43 1201, good 54 2499, good 54 2500, good 54 999999] = [true, false, false, true, true]
    ∧ firstBadField { fields := (sched.fields.set 53 0).set 8 4 } = some 9
    ∧ firstBadField (image 8 50) = none ∧ firstBadField { fields := (sched.fields.set 7 50).set 8 50 } = some 9 := by
  decide +kernel

/-- R170, R171: the program of an image, and the numbers of its first bad field. -/
theorem test_capture_image :
    let p := programOfImage captureImage
    p.vectors.getD 0 none = some 0 ∧ p.vectors.getD 1 none = none
    ∧ p.descriptors.getD 0 none = some { channels := [.current, .energy], ring := true, start := 8176, length := 16
                                         reload := 8192, chain := some 0, keep := true }
    ∧ p.descriptors.getD 1 none = none
    ∧ [(0, 24#8), (0, 1#8), (13, 12#8), (17, 2#8), (19, 0xF1#8), (24, 1#8), (25, 2#8)].map
        (fun x => firstBadCaptureField (captureImage.set x.1 x.2)) = [some 1, some 1, some 13, some 14, some 16, some 18, some 19]
    := by decide +kernel

end Sys2Proof.Tests
end

/-! The Closure Planner's refusals and its rounded products (R36 to R40): `workPlan` stage by stage, and the
statements TempRangeIsRefused and StretchAndTensionAreRoundedHalfUp. -/
namespace Sys2Proof.Proofs.ClosurePlanning
open Sys2Proof Sys2Proof.Machine

/-! ### Rounding half up -/

/-- Adding half the divisor before an exact division is the rounding of R39 and R40. -/
theorem add_half_div (n : Nat) {half : Nat} (hpos : 0 < half) :
    (n + half) / (2 * half) = n / (2 * half) + if half ≤ n % (2 * half) then 1 else 0 := by
  have hlt : half < 2 * half := by omega
  have hcarry : 2 * half ≤ n % (2 * half) + half ↔ half ≤ n % (2 * half) := by omega
  rw [Nat.add_div (by omega), Nat.div_eq_of_lt hlt, Nat.mod_eq_of_lt hlt, Nat.add_zero]
  simp only [hcarry]

theorem stretch_eq_halfUp (pulled alpha dT : Nat) :
    stretch pulled alpha dT = pulled * alpha * dT / 10000 + if 5000 ≤ pulled * alpha * dT % 10000 then 1 else 0 :=
  add_half_div (pulled * alpha * dT) (half := 5000) (by decide)

theorem tension_eq_halfUp (area alpha dT : Nat) :
    tension area alpha dT = 210 * area * alpha * dT / 10 ^ 9
      + if 500000000 ≤ 210 * area * alpha * dT % 10 ^ 9 then 1 else 0 :=
  add_half_div (210 * area * alpha * dT) (half := 500000000) (by decide)

theorem deltaTEff_eq_ite (c : WeldCtx) (tR : Int) :
    deltaTEff c tR = if c.mode = .tensioned then ((c.tN : Int) - tR).toNat else 0 := by
  unfold deltaTEff deltaT
  cases c.mode <;> rfl

/-! ### The stages of a plan -/

/-- The first stage, R36: a T_r at which a plan may be worked. -/
def Weldable (tR : Int) : Prop := -400 ≤ tR ∧ tR ≤ 650

/-- The second stage, R37 and R38: a TENSIONED plan has T_r at most 3.0 °C above T_n. -/
def NotAboveNeutral (c : WeldCtx) (tR : Int) : Prop := c.mode = .tensioned → -30 ≤ deltaT c tR

theorem not_weldable_iff {tR : Int} : ¬ Weldable tR ↔ tR < -400 ∨ 650 < tR := by
  unfold Weldable
  omega

theorem not_notAboveNeutral_iff {c : WeldCtx} {tR : Int} :
    ¬ NotAboveNeutral c tR ↔ c.mode = .tensioned ∧ deltaT c tR < -30 := by
  simp [NotAboveNeutral]

section
variable {k : Schedule} {c : WeldCtx} {tR g0 : Int}

theorem workPlan_of_not_weldable (hT : ¬ Weldable tR) :
    workPlan k c tR g0 = { plan := { c.plan with tR := tR, g0 := g0 }, refusal := some (.tempRange, tR) } :=
  if_pos (not_weldable_iff.mp hT)

theorem workPlan_of_aboveNeutral (hT : Weldable tR) (hN : ¬ NotAboveNeutral c tR) :
    workPlan k c tR g0
      = { plan := { c.plan with tR := tR, g0 := g0 }, refusal := some (.tempAboveNeutral, deltaT c tR) } :=
  (if_neg (mt not_weldable_iff.mpr (not_not.mpr hT))).trans (if_pos (not_notAboveNeutral_iff.mp hN))

theorem workPlan_of_tension_above (hT : Weldable tR) (hN : NotAboveNeutral c tR)
    (hF : k.fLim < tension k.area k.alpha (deltaTEff c tR)) :
    workPlan k c tR g0
      = { plan := { c.plan with
            tR := tR, g0 := g0, p := stretch c.pulled k.alpha (deltaTEff c tR)
            fReq := tension k.area k.alpha (deltaTEff c tR) }
          refusal := some (.tensionRange, (tension k.area k.alpha (deltaTEff c tR) : Int)) } := by
  have hT' := mt not_weldable_iff.mpr (not_not.mpr hT)
  have hN' := mt not_notAboveNeutral_iff.mpr (not_not.mpr hN)
  simp only [workPlan, if_neg hT', if_neg hN', if_pos hF]

/-- Past the tension stage (R41 to R43) the stretch and the tension stand, and the gap alone can refuse. -/
theorem workPlan_of_tension_within (hT : Weldable tR) (hN : NotAboveNeutral c tR)
    (hF : ¬ k.fLim < tension k.area k.alpha (deltaTEff c tR)) :
    (workPlan k c tR g0).plan.p = stretch c.pulled k.alpha (deltaTEff c tR)
    ∧ (workPlan k c tR g0).plan.fReq = tension k.area k.alpha (deltaTEff c tR)
    ∧ ((workPlan k c tR g0).refusal = none ∨ ∃ e, (workPlan k c tR g0).refusal = some (.gapOutOfRange, e)) := by
  have hT' := mt not_weldable_iff.mpr (not_not.mpr hT)
  have hN' := mt not_notAboveNeutral_iff.mpr (not_not.mpr hN)
  simp only [workPlan, if_neg hT', if_neg hN', if_neg hF]
  split
  · exact ⟨rfl, rfl, .inl rfl⟩
  · split
    · exact ⟨rfl, rfl, .inl rfl⟩
    · exact ⟨rfl, rfl, .inr ⟨_, rfl⟩⟩

/-! ### What a plan past the temperature stages holds -/

theorem workPlan_p (hT : Weldable tR) (hN : NotAboveNeutral c tR) :
    (workPlan k c tR g0).plan.p = stretch c.pulled k.alpha (deltaTEff c tR) := by
  by_cases hF : k.fLim < tension k.area k.alpha (deltaTEff c tR)
  · rw [workPlan_of_tension_above hT hN hF]
  · exact (workPlan_of_tension_within hT hN hF).1

theorem workPlan_fReq (hT : Weldable tR) (hN : NotAboveNeutral c tR) :
    (workPlan k c tR g0).plan.fReq = tension k.area k.alpha (deltaTEff c tR) := by
  by_cases hF : k.fLim < tension k.area k.alpha (deltaTEff c tR)
  · rw [workPlan_of_tension_above hT hN hF]
  · exact (workPlan_of_tension_within hT hN hF).2.1

theorem workPlan_tensionRange_iff (hT : Weldable tR) (hN : NotAboveNeutral c tR) {v : Int} :
    (workPlan k c tR g0).refusal = some (.tensionRange, v)
      ↔ k.fLim < (workPlan k c tR g0).plan.fReq ∧ v = (workPlan k c tR g0).plan.fReq := by
  rw [workPlan_fReq hT hN]
  by_cases hF : k.fLim < tension k.area k.alpha (deltaTEff c tR)
  · simp [workPlan_of_tension_above hT hN hF, hF, eq_comm]
  · obtain ⟨-, -, hnone | ⟨e, hgap⟩⟩ := workPlan_of_tension_within (g0 := g0) hT hN hF
    · simp [hnone, hF]
    · simp [hgap, hF]

/-! ### Which plans the temperature stages refuse -/

/-- Past the temperature stages no refusal is theirs. -/
theorem workPlan_refusal_not_temp (hT : Weldable tR) (hN : NotAboveNeutral c tR) (v : Int) :
    (workPlan k c tR g0).refusal ≠ some (.tempRange, v)
    ∧ (workPlan k c tR g0).refusal ≠ some (.tempAboveNeutral, v) := by
  by_cases hF : k.fLim < tension k.area k.alpha (deltaTEff c tR)
  · simp [workPlan_of_tension_above hT hN hF]
  · obtain ⟨-, -, hnone | ⟨e, hgap⟩⟩ := workPlan_of_tension_within (g0 := g0) hT hN hF
    · simp [hnone]
    · simp [hgap]

theorem workPlan_tempRange_iff {v : Int} :
    (workPlan k c tR g0).refusal = some (.tempRange, v) ↔ ¬ Weldable tR ∧ v = tR := by
  by_cases hT : Weldable tR
  · by_cases hN : NotAboveNeutral c tR
    · simp [(workPlan_refusal_not_temp hT hN v).1, hT]
    · simp [workPlan_of_aboveNeutral hT hN, hT]
  · simp [workPlan_of_not_weldable hT, hT, eq_comm]

theorem workPlan_tempAboveNeutral_iff (hT : Weldable tR) {v : Int} :
    (workPlan k c tR g0).refusal = some (.tempAboveNeutral, v) ↔ ¬ NotAboveNeutral c tR ∧ v = deltaT c tR := by
  by_cases hN : NotAboveNeutral c tR
  · simp [(workPlan_refusal_not_temp hT hN v).2, hN]
  · simp [workPlan_of_aboveNeutral hT hN, hN, eq_comm]

end

/-! ### The statements -/

/-- Settles O20: each temperature refusal stands exactly where its stage fails, with its one value. -/
theorem tempRangeIsRefused : Obligations.TempRangeIsRefused := by
  intro k c tR g0
  refine ⟨?_, fun v h => (workPlan_tempRange_iff.mp h).2, fun hlo hhi => ?_⟩
  · simp [workPlan_tempRange_iff, not_weldable_iff]
  · have hT : Weldable tR := ⟨hlo, hhi⟩
    refine ⟨?_, fun v h => ((workPlan_tempAboveNeutral_iff hT).mp h).2⟩
    simp [workPlan_tempAboveNeutral_iff hT, not_notAboveNeutral_iff, deltaT]

/-- Settles O21: past the temperature stages P and F_req are `stretch` and `tension` of ΔT_eff, which add half the
divisor before they divide. -/
theorem stretchAndTensionAreRoundedHalfUp : Obligations.StretchAndTensionAreRoundedHalfUp := by
  intro k c tR g0 hlo hhi hN dT n m r
  have hT : Weldable tR := ⟨hlo, hhi⟩
  have hdT : deltaTEff c tR = dT := deltaTEff_eq_ite c tR
  refine ⟨?_, ?_, ?_⟩
  · calc r.plan.p = stretch c.pulled k.alpha dT := hdT ▸ workPlan_p hT hN
      _ = n / 10000 + (if 5000 ≤ n % 10000 then 1 else 0) := stretch_eq_halfUp ..
  · calc r.plan.fReq = tension k.area k.alpha dT := hdT ▸ workPlan_fReq hT hN
      _ = m / 10 ^ 9 + (if 500000000 ≤ m % 10 ^ 9 then 1 else 0) := tension_eq_halfUp ..
  · simp [r, workPlan_tensionRange_iff hT hN]

end Sys2Proof.Proofs.ClosurePlanning

/-! The flash burn at a sample (R89): no finding of a sample that began in FLASH writes the flash burn, ends the weld or
takes an input again, so the figure worked as the sample was measured stands; and the statement
FlashBurnIsWorkedAtEachSample. -/
namespace Sys2Proof.Proofs.FlashBurn
open Sys2Proof Sys2Proof.Machine

/-! ### What the findings keep -/

/-- The flash burn of a weld context, if there is one (R48, R89). -/
def flashBurnOf (x : Option WeldCtx) : Option Nat := x.map (·.progress.flashBurn)

theorem flashBurnOf_eq_some_iff {x : Option WeldCtx} {b : Nat} :
    flashBurnOf x = some b ↔ ∃ c, x = some c ∧ c.progress.flashBurn = b := Option.map_eq_some_iff

@[simp] theorem flashBurnOf_some (c : WeldCtx) : flashBurnOf (some c) = some c.progress.flashBurn := rfl

/-- A change of the context that writes another of its fields keeps the flash burn. -/
@[simp] theorem flashBurnOf_map {f : WeldCtx → WeldCtx} (x : Option WeldCtx)
    (h : ∀ c, (f c).progress.flashBurn = c.progress.flashBurn) : flashBurnOf (x.map f) = flashBurnOf x := by
  cases x <;> simp [flashBurnOf, h]

/-- What R89's figure rests on once it is worked: the flash burn and the inputs stand from `s` to `t`. Reducible, so that
`simp` rewrites with both halves of a lemma about it. -/
@[simp] abbrev BurnKept (s t : State) : Prop := flashBurnOf t.ctx = flashBurnOf s.ctx ∧ t.mfe.inputs = s.mfe.inputs

@[simp] theorem activate_burnKept (src : Source) (s : State) : BurnKept s (activate src s) := by
  obtain ⟨b, hctx⟩ := activate_ctx src s
  simp [BurnKept, hctx]

@[simp] theorem enterState_burnKept (st : SeqState) (s : State) : BurnKept s (enterState st s) := by
  have hphase (c : WeldCtx) :
      (if st.forward then { c with phaseReached := st } else c).progress.flashBurn = c.progress.flashBurn := by
    split <;> rfl
  simp [BurnKept, enterState, hphase]

/-! ### Faults and aborts -/

theorem addFault_progress (k : FaultKind) (p : SeqState) (c : WeldCtx) : (c.addFault k p).1.progress = c.progress := by
  unfold WeldCtx.addFault
  repeat' split
  all_goals rfl

@[simp] theorem enterFault_burnKept (k : FaultKind) (i : Option Int) (s : State) : BurnKept s (enterFault k i s) := by
  refine ⟨?_, by simp⟩
  cases hs : s.ctx with
  | none => simp [enterFault, enterFaultAs, hs]
  | some c =>
    obtain ⟨⟨c', hctx, htr⟩, -⟩ := enterFaultAs_ctx s.wsq.seq k i s c hs
    have hburn : c'.progress = c.progress := by rw [htr]; exact addFault_progress ..
    simp [enterFault, hctx, hburn]

@[simp] theorem setOwnClaim_burnKept (v : Nat) (s : State) : BurnKept s (setOwnClaim v s) := by
  unfold setOwnClaim
  split <;> simp

@[simp] theorem yieldOwnClaim_burnKept (s : State) : BurnKept s (yieldOwnClaim s) := by
  unfold yieldOwnClaim
  split <;> simp

@[simp] theorem stopRegulation_burnKept (s : State) : BurnKept s (stopRegulation s) := by
  refine ⟨?_, by simp⟩
  rw [stopRegulation_ctx]
  exact flashBurnOf_map _ fun c => by split <;> rfl

@[simp] theorem makeSafe_burnKept (s : State) : BurnKept s (makeSafe s) := by
  refine ⟨?_, by simp [makeSafe_mfe]⟩
  unfold makeSafe
  dsimp only
  split <;> simp

@[simp] theorem abortWeld_burnKept (k : FaultKind) (i : Option Int) (s : State) : BurnKept s (abortWeld k i s) := by
  simp [abortWeld]

@[simp] theorem takeFault_burnKept (k : FaultKind) (i : Option Int) (s : State) : BurnKept s (takeFault k i s) := by
  unfold takeFault
  split
  · simp
  · split <;> simp

@[simp] theorem enterLate_burnKept (k : FaultKind) (i : Option Int) (s : State) : BurnKept s (enterLate k i s) := by
  simp [enterLate]

@[simp] theorem takeStationFault_burnKept (k : FaultKind) (i : Option Int) (s : State) :
    BurnKept s (takeStationFault k i s) := by
  unfold takeStationFault
  split
  · simp
  · split <;> simp

/-! ### The notices, the stall and the stroke limit -/

@[simp] theorem takeSensorRange_burnKept (v : Option Int) (s : State) : BurnKept s (takeSensorRange v s) := by
  unfold takeSensorRange
  dsimp only
  split <;> simp

theorem takeRangeNotice_burnKept (i : Input) (s : State) : BurnKept s (takeRangeNotice i s) := by
  unfold takeRangeNotice
  split <;> simp

@[simp] theorem takeFreeze_burnKept (s : State) : BurnKept s (takeFreeze s) := by
  unfold takeFreeze
  dsimp only
  split <;> simp [beginBackoff]

theorem takeFreezeNotice_burnKept (s : State) : BurnKept s (takeFreezeNotice s) := by
  unfold takeFreezeNotice
  split
  · simp
  · dsimp only
    split <;> simp

theorem takeClampSlip_burnKept (s : State) : BurnKept s (takeClampSlip s) := by
  unfold takeClampSlip
  split <;> simp

theorem takePlatenStall_burnKept (found : Option Int) (s : State) : BurnKept s (takePlatenStall found s) := by
  unfold takePlatenStall
  split
  · simp
  · dsimp only
    split <;> simp

theorem takeStrokeLimit_burnKept (start : SeqState) (s : State) : BurnKept s (takeStrokeLimit start s) := by
  unfold takeStrokeLimit
  split <;> simp

/-! ### The law of the phase, as far as one sample of FLASH reaches -/

@[simp] theorem holdBroken_burnKept (s : State) : BurnKept s (holdBroken s) := by
  unfold holdBroken
  split <;> simp

@[simp] theorem enterHold_burnKept (s : State) : BurnKept s (enterHold s) := by
  unfold enterHold
  dsimp only
  split
  · split <;> simp [requestGate]
  · simp

@[simp] theorem leaveUpset_burnKept (s : State) : BurnKept s (leaveUpset s) := by
  unfold leaveUpset
  split <;> simp

@[simp] theorem endStroke_burnKept (short : Bool) (s : State) : BurnKept s (endStroke short s) := by
  unfold endStroke
  dsimp only
  split <;> simp

@[simp] theorem strokeSample_burnKept (s : State) : BurnKept s (strokeSample s) := by
  unfold strokeSample
  dsimp only
  repeat' split
  all_goals simp

theorem workStroke_burnKept (s : State) : BurnKept s (workStroke s) := by
  refine ⟨?_, by simp⟩
  exact flashBurnOf_map _ fun c => by dsimp only; split <;> rfl

@[simp] theorem heatOver_burnKept (s : State) : BurnKept s (heatOver s) := by simp [heatOver]

@[simp] theorem enterUpset_burnKept (s : State) : BurnKept s (enterUpset s) := by
  unfold enterUpset
  extract_lets entered _ _ begun asked gated heated
  have hbegun : BurnKept s begun := by simp [begun, entered]
  have hgated : BurnKept s gated := by
    unfold gated
    repeat' split
    all_goals simpa [asked, endWatch, requestGate] using hbegun
  have hheated : BurnKept s heated := by
    unfold heated
    split <;> simpa using hgated
  simpa [-workStroke_ctx, workStroke_burnKept] using hheated

@[simp] theorem endFlash_burnKept (s : State) : BurnKept s (endFlash s) := by
  unfold endFlash
  split
  · simp [enterBoost]
  · simp

@[simp] theorem backoffSample_burnKept (b : Backoff) (s : State) : BurnKept s (backoffSample b s) := by
  unfold backoffSample
  dsimp only
  split <;> simp

@[simp] theorem flashSample_burnKept (s : State) : BurnKept s (flashSample s) := by
  unfold flashSample
  dsimp only
  split
  · simp
  · split <;> simp

theorem takePhase_flash_burnKept (s : State) : BurnKept s (takePhase .flash s) := by
  unfold takePhase
  split <;> simp

/-! ### All the findings of a sample of FLASH -/

theorem takeFinding_flash_burnKept (stall : Option Int) (s : State) (f : Finding) :
    BurnKept s (takeFinding .flash stall s f) := by
  cases f with
  | stall => exact takePlatenStall_burnKept stall s
  | limit => exact takeStrokeLimit_burnKept .flash s
  | phase => exact takePhase_flash_burnKept s
  | freeze => exact takeFreezeNotice_burnKept s
  | slip => exact takeClampSlip_burnKept s
  | range input => exact takeRangeNotice_burnKept input s

theorem foldl_takeFinding_flash_burnKept (stall : Option Int) (fs : List Finding) (s : State) :
    BurnKept s (fs.foldl (takeFinding .flash stall) s) := by
  induction fs generalizing s with
  | nil => exact ⟨rfl, rfl⟩
  | cons f fs ih =>
    obtain ⟨hburn, hinputs⟩ := takeFinding_flash_burnKept stall s f
    obtain ⟨hburn', hinputs'⟩ := ih (takeFinding .flash stall s f)
    exact ⟨hburn'.trans hburn, hinputs'.trans hinputs⟩

theorem takeFindings_burnKept (order : SampleOrder) {s : State} (h : s.wsq.seq = .flash) :
    BurnKept s (takeFindings order s) := by
  unfold takeFindings
  rw [h]
  exact foldl_takeFinding_flash_burnKept _ _ s

/-! ### The measurement -/

/-- What the measurement of a sample reads the flash burn off: the state, the flash entry and the context stand. -/
@[simp] abbrev EntryKept (s t : State) : Prop :=
  t.wsq.seq = s.wsq.seq ∧ t.frg.flashEntry = s.frg.flashEntry ∧ t.ctx = s.ctx

@[simp] theorem tickAll_entryKept (s : State) : EntryKept s (tickAll s) := ⟨rfl, rfl, rfl⟩

@[simp] theorem driveOutputs_entryKept (s : State) : EntryKept s (driveOutputs s) := by simp [driveOutputs]

@[simp] theorem takeInputs_entryKept (raw : Samples) (s : State) : EntryKept s (takeInputs raw s) := ⟨rfl, rfl, rfl⟩

@[simp] theorem takeShort_entryKept (s : State) : EntryKept s (takeShort s) := ⟨rfl, rfl, rfl⟩

@[simp] theorem takeEnergy_entryKept (s : State) : EntryKept s (takeEnergy s) := by
  unfold takeEnergy
  split <;> simp

@[simp] theorem takeStall_entryKept (s : State) : EntryKept s (takeStall s) := ⟨rfl, rfl, rfl⟩

@[simp] theorem takeSlip_entryKept (s : State) : EntryKept s (takeSlip s) := by
  unfold takeSlip
  split
  · split <;> simp
  · simp

/-- R85, R89: in FLASH the progress fields of a sample are the flash time and the flash burn. -/
theorem takeProgress_of_flash {s : State} (h : s.wsq.seq = .flash) :
    takeProgress s = s.mapProgress (fun p =>
      { p with flashTime := p.flashTime + 1, flashBurn := (s.position - s.frg.flashEntry).toNat }) := by
  unfold takeProgress
  rw [h]

/-- R89: a measured sample of FLASH holds its flash burn, worked from the position it has just taken. -/
theorem measure_of_flash (raw : Samples) {s : State} {c : WeldCtx} (hctx : s.ctx = some c) (hseq : s.wsq.seq = .flash) :
    (Machine.measure raw s).wsq.seq = .flash
    ∧ flashBurnOf (Machine.measure raw s).ctx = some ((Machine.measure raw s).position - s.frg.flashEntry).toNat := by
  unfold Machine.measure
  rw [takeProgress_of_flash (by simp [hseq])]
  simp [hseq, hctx, State.position, State.input]

/-! ### The statement -/

/-- R1: with LINE_RESET released a sample measures, takes its findings, and ends with the current gate. -/
theorem exec_sample_of_notReset (raw : Samples) (order : SampleOrder) {s : State} (h : s.pins.lineReset = false) :
    exec (.sample raw order) s = .next (gateCurrent (takeFindings order (Machine.measure raw s))) := by
  have harm : exec (.sample raw order) s = execSample raw order s := rfl
  simp [harm, execSample, takeSample, finish, h]

/-- Settles O14: the flash burn is worked as the sample is measured, and the findings keep it and the position. -/
theorem flashBurnIsWorkedAtEachSample : Obligations.FlashBurnIsWorkedAtEachSample := by
  intro raw order s c hreset hctx hseq
  obtain ⟨hflash, hburn⟩ := measure_of_flash raw hctx hseq
  obtain ⟨hkept, hinputs⟩ := takeFindings_burnKept order hflash
  obtain ⟨c', hctx', hfig⟩ := flashBurnOf_eq_some_iff.mp (hkept.trans hburn)
  refine ⟨_, c', exec_sample_of_notReset raw order hreset, by simpa using hctx', ?_⟩
  simpa [State.position, State.input, hinputs] using hfig

end Sys2Proof.Proofs.FlashBurn

/-! The tension gate and the release test (R108, R135): when each passes on the paired row of any state, what that row,
F_req and F_lo are in a weld; and the statement GateAndReleaseTestReadTheRow. -/
namespace Sys2Proof.Proofs.GateAndRelease
open Sys2Proof Sys2Proof.Machine

/-! ### The tests on the paired row -/

/-- R135, in any state: whatever the paired row is, the gate's three conditions alone decide it. -/
theorem gateHolds_iff (s : State) :
    s.gateHolds = true ↔
      ∃ side age force, s.pairedRow = .heard true side age (.tensor .holding force) ∧ s.fLo ≤ force := by
  unfold State.gateHolds
  split
  next side age f hrow => simp [hrow]
  next hother =>
    refine iff_of_false Bool.false_ne_true ?_
    rintro ⟨side, age, force, hrow, _⟩
    exact hother side age force hrow

/-- R108, in any state: the two tensor states that pass share one bound, and a LIVE and a STALE row are read alike. -/
theorem releaseHolds_iff (s : State) :
    s.releaseHolds = true ↔
      ∃ live side age st force, s.pairedRow = .heard live side age (.tensor st force)
        ∧ (st = .idle ∨ st = .releasing) ∧ 20 * force < s.ctx.elim 0 (·.plan.fReq) := by
  unfold State.releaseHolds
  split
  next live side age f hrow => simp [hrow]
  next live side age f hrow => simp [hrow]
  next hidle hreleasing =>
    refine iff_of_false Bool.false_ne_true ?_
    rintro ⟨live, side, age, st, force, hrow, rfl | rfl, _⟩
    · exact hidle live side age force hrow
    · exact hreleasing live side age force hrow

/-! ### What the tests read in a weld -/

section
variable {s : State} {c : WeldCtx} (hctx : s.ctx = some c)
include hctx

/-- R129: the paired row is the row of the station that the weld context names. -/
theorem pairedRow_of_paired {p : Nat} (hpair : c.pair = some p) : s.pairedRow = s.row p := by
  simp [State.pairedRow, State.pair, hctx, hpair]

/-- R135: in a weld F_lo is worked from F_req of the context and τ_f of the bank bound to it. -/
theorem fLo_of_ctx : s.fLo = c.plan.fReq * (1000 - (s.bank c.bank).image.tauF) / 1000 := by
  simp [State.fLo, State.sched, hctx]

end

/-! ### The statement -/

/-- Settles O51: the two tests of any state, read on the row, F_req and F_lo of its weld. -/
theorem gateAndReleaseTestReadTheRow : Obligations.GateAndReleaseTestReadTheRow := by
  intro s c p hctx hpair
  have hrow : s.pairedRow = s.row p := pairedRow_of_paired hctx hpair
  have hfReq : s.ctx.elim 0 (·.plan.fReq) = c.plan.fReq := by simp [hctx]
  constructor
  · simpa only [hrow, fLo_of_ctx hctx] using gateHolds_iff s
  · simpa only [hrow, hfReq] using releaseHolds_iff s

end Sys2Proof.Proofs.GateAndRelease

/-! What every command keeps, packaged once: a predicate of the state that each small update keeps (`Closed`) is kept by
every operation that is built of them, so that each invariant is left with its own small updates alone. -/
namespace Sys2Proof.Proofs.Invariants
open Sys2Proof Sys2Proof.Machine

set_option Elab.async false

/-! ### The small updates -/

/-- A weld context goes on as the same weld: its number, its bank, its mode and its fault list stand. -/
structure SameWeld (c c' : WeldCtx) : Prop where
  number : c'.weldNumber = c.weldNumber
  bank   : c'.bank = c.bank
  mode   : c'.mode = c.mode
  faults : c'.faults = c.faults

/-- The Line Port keeps the bounds of its queue and of its calls (R148, R150). -/
structure BoundsKept (l l' : Lnp) : Prop where
  queue : queueOk l.queue = true → queueOk l'.queue = true
  calls : callsOk l.calls = true → callsOk l'.calls = true

theorem BoundsKept.of_eq {l l' : Lnp} (hq : l'.queue = l.queue) (hc : l'.calls = l.calls) : BoundsKept l l' :=
  ⟨fun h => hq ▸ h, fun h => hc ▸ h⟩

/-- A predicate of the state that the small updates keep which the shared operations are built of. -/
structure Invariant where
  Holds    : State → Prop
  /-- The blocks that no invariant of the store, the line, the trace and the fault list reads. -/
  free     : ∀ {s t : State}, Holds s → t.ctx = s.ctx → t.lnp = s.lnp → t.cap = s.cap → t.rst = s.rst →
    t.pending = s.pending → Holds t
  /-- The fields of the weld context but its own and its fault list. -/
  ctx      : ∀ {s : State} {f : WeldCtx → WeldCtx}, Holds s → (∀ c, SameWeld c (f c)) → Holds (s.mapCtx f)
  /-- R71: a kind entered in the fault list. -/
  fault    : ∀ {s : State} {c : WeldCtx} (k : FaultKind) (p : SeqState), Holds s → s.ctx = some c →
    Holds { s with ctx := some (c.addFault k p).1 }
  /-- R160: an activation. -/
  activate : ∀ {s : State} (src : Source), Holds s → Holds (activate src s)
  /-- R159: the tick timer. -/
  tick     : ∀ {s : State} (x : Option Timer), Holds s → Holds { s with cap := { s.cap with tick := x } }
  /-- R183: a fault filed in the log. -/
  filed    : ∀ {s : State} (f : FirstFault), Holds s → Holds { s with rst := { s.rst with log := s.rst.log.file f } }
  /-- The Line Port within its bounds. -/
  line     : ∀ {s : State} {l : Lnp}, Holds s → BoundsKept s.lnp l → Holds { s with lnp := l }

/-- R61: the creation of a weld keeps `I` where no weld stands and no record waits, and the named bank is ready. -/
def Accepts (I : Invariant) : Prop :=
  ∀ (bank : BankName) (mode : Mode) (args : StartArgs) (s : State), I.Holds s → s.ctx = none → s.rst.slot = none →
    (s.bank bank).ready = true → I.Holds (createWeld bank mode args s)

/-- R73, steps 4 and 5: the record handed over and the context ended keep `I`. -/
def Ends (I : Invariant) : Prop := ∀ s : State, I.Holds s → I.Holds (endContext (handRecord s))

section
variable {I : Invariant} {s : State}

/-! ### The small updates, as they are used -/

/-- An update of the blocks that `I` does not read. -/
theorem free_keeps {t : State} (h : I.Holds s) (hctx : t.ctx = s.ctx := by rfl) (hlnp : t.lnp = s.lnp := by rfl)
    (hcap : t.cap = s.cap := by rfl) (hrst : t.rst = s.rst := by rfl) (hpending : t.pending = s.pending := by rfl) :
    I.Holds t := I.free h hctx hlnp hcap hrst hpending

/-- An update of the fields of the weld context that `I` does not read. -/
theorem ctx_keeps {f : WeldCtx → WeldCtx} (h : I.Holds s)
    (hf : ∀ c, SameWeld c (f c) := by exact fun _ => ⟨rfl, rfl, rfl, rfl⟩) : I.Holds (s.mapCtx f) := I.ctx h hf

/-- An update of the Line Port that leaves its queue and its calls. -/
theorem line_keeps {l : Lnp} (h : I.Holds s) (hq : l.queue = s.lnp.queue := by rfl)
    (hc : l.calls = s.lnp.calls := by rfl) : I.Holds { s with lnp := l } := I.line h (.of_eq hq hc)

theorem ite_keeps {c : Prop} [Decidable c] {t : State} (hs : I.Holds s) (ht : I.Holds t) :
    I.Holds (if c then s else t) := by
  split
  · exact hs
  · exact ht

theorem mapSet_keeps {f : Outputs → Outputs} (h : I.Holds s) : I.Holds (s.mapSet f) := free_keeps h

theorem mapProgress_keeps {f : Progress → Progress} (h : I.Holds s) : I.Holds (s.mapProgress f) := ctx_keeps h

/-! ### Announcing, the log and the queue -/

theorem requestAnnounce_keeps (h : I.Holds s) : I.Holds (requestAnnounce s) := by
  refine I.line h ⟨wantAnnounce_ok _ _, fun hc => ?_⟩
  unfold Lnp.wantAnnounce
  repeat' split
  all_goals exact hc

theorem announceChange_keeps (h : I.Holds s) : I.Holds (announceChange s) := ite_keeps (requestAnnounce_keeps h) h

theorem logFault_keeps {k : FaultKind} {w : Option Nat} {i : Option Int} (h : I.Holds s) :
    I.Holds (logFault k w i s) :=
  ite_keeps (I.filed _ h) (announceChange_keeps (I.filed _ h))

theorem lineFault_keeps {f : OutFrame} (h : I.Holds s) : I.Holds (lineFault f s) := logFault_keeps h

/-- R148: an offer, of a frame of another kind than ANNOUNCE. -/
theorem offer_keeps {f : OutFrame} (h : I.Holds s) (hf : f ≠ .announce := by simp) : I.Holds (offer f s) := by
  unfold offer
  split
  · exact h
  · split
    next hroom =>
      refine I.line h ⟨join_ok f _ hf hroom, fun hc => ?_⟩
      unfold Lnp.join
      split <;> exact hc
    next => exact lineFault_keeps h

/-! ### Faults and states -/

theorem enterFaultAs_keeps {p : SeqState} {k : FaultKind} {i : Option Int} (h : I.Holds s) :
    I.Holds (enterFaultAs p k i s) := by
  unfold enterFaultAs
  split
  next => exact logFault_keeps h
  next c hc => exact logFault_keeps (ite_keeps (I.activate _ (I.fault k p h hc)) (I.fault k p h hc))

theorem enterFault_keeps {k : FaultKind} {i : Option Int} (h : I.Holds s) : I.Holds (enterFault k i s) :=
  enterFaultAs_keeps h

theorem enterState_keeps {st : SeqState} (h : I.Holds s) : I.Holds (enterState st s) := by
  have hctx : I.Holds (s.mapCtx fun c => if st.forward then { c with phaseReached := st } else c) :=
    ctx_keeps h fun c => by split <;> exact ⟨rfl, rfl, rfl, rfl⟩
  exact announceChange_keeps (I.activate _ (free_keeps hctx))

/-! ### The own claim and the calls -/

theorem setOwnClaim_keeps {v : Nat} (h : I.Holds s) : I.Holds (setOwnClaim v s) :=
  ite_keeps h (announceChange_keeps (I.activate _ (free_keeps h)))

theorem claimSent_keeps {n : Nat} (h : I.Holds s) : I.Holds (claimSent n s) := ite_keeps (free_keeps h) h

theorem sendClaim_keeps (h : I.Holds s) : I.Holds (sendClaim s) := by
  have hline : I.Holds { s with lnp := { s.lnp with claimDropped := !offerTaken s } } := line_keeps h
  have hoffer : I.Holds (offer (.claim s.clu.ownClaim s.weldNumber (s.clu.serial + 1))
      { s with clu := { s.clu with serial := s.clu.serial + 1 }, lnp := { s.lnp with claimDropped := !offerTaken s } }) :=
    offer_keeps (free_keeps hline)
  exact ite_keeps (claimSent_keeps hoffer) hoffer

theorem yieldOwnClaim_keeps (h : I.Holds s) : I.Holds (yieldOwnClaim s) := by
  unfold yieldOwnClaim
  dsimp only
  split
  · exact h
  · exact free_keeps h
  · exact free_keeps h
  · have hyield {c : Clu} : I.Holds (offer (.yieldClaim s.weldNumber) (setOwnClaim 0 { s with clu := c })) :=
      offer_keeps (setOwnClaim_keeps (free_keeps h))
    exact free_keeps hyield

/-- R150: a record joins the calls where the limits allow it. -/
theorem callsOk_append {dest : Nat} {l : Lnp} {r : CallRecord} (hr : r.dest = dest) (ha : l.callAllowed dest = true)
    (hc : callsOk l.calls = true) : callsOk (l.calls ++ [r]) = true := by
  simp only [Lnp.callAllowed, Bool.and_eq_true, decide_eq_true_eq, Bool.not_eq_true', List.any_eq_false, beq_iff_eq] at ha
  simp only [callsOk, Bool.and_eq_true, decide_eq_true_eq] at hc ⊢
  refine ⟨by simp; omega, ?_⟩
  rw [List.map_append, List.nodup_append]
  refine ⟨hc.2, by simp, ?_⟩
  simpa [hr] using ha.2

theorem requestCall_keeps {d : Nat} {b : CallBody} (h : I.Holds s) : I.Holds (requestCall d b s) := by
  unfold requestCall
  dsimp only
  split
  next hallowed =>
    have hcall {n : Nat} {r : CallRecord} (hr : r.dest = d) :
        I.Holds { s with lnp := { s.lnp with nextCall := n, calls := s.lnp.calls ++ [r] } } :=
      I.line h ⟨id, callsOk_append hr hallowed⟩
    have hdropped {n : Nat} : I.Holds { s with lnp := { s.lnp with nextCall := n } } := line_keeps h
    exact ite_keeps (offer_keeps (free_keeps (hcall rfl))) (offer_keeps (free_keeps hdropped))
  next =>
    have hheld {x : Option CallRequest} : I.Holds { s with lnp := { s.lnp with held := x } } := line_keeps h
    exact ite_keeps (free_keeps hheld) (free_keeps h)

theorem sendLetGo_keeps (h : I.Holds s) : I.Holds (sendLetGo s) := by
  unfold sendLetGo
  split
  · exact h
  · exact ite_keeps h (requestCall_keeps h)

/-! ### The abort path -/

theorem stopRegulation_keeps (h : I.Holds s) : I.Holds (stopRegulation s) := by
  have hburn : I.Holds (if s.wsq.seq = .preheat then
      s.mapProgress fun p => { p with preheatBurn := (s.position - s.frg.preheatEntry).toNat } else s) :=
    ite_keeps (mapProgress_keeps h) h
  exact free_keeps hburn

theorem stopTensor_keeps (h : I.Holds s) : I.Holds (stopTensor s) := free_keeps h

theorem makeSafe_keeps (h : I.Holds s) : I.Holds (makeSafe s) := by
  have hstopped : I.Holds (stopTensor (yieldOwnClaim { s with
      mfe := { s.mfe with set := { current := 0, velocity := 0, force := 0, clamp := .opn } }
      wsq := { s.wsq with stroke := .none, upsetTimer := none } })) :=
    stopTensor_keeps (yieldOwnClaim_keeps (free_keeps h))
  exact free_keeps (ite_keeps (sendLetGo_keeps hstopped) hstopped)

theorem abortWeld_keeps {k : FaultKind} {i : Option Int} (h : I.Holds s) : I.Holds (abortWeld k i s) :=
  makeSafe_keeps (enterState_keeps (stopRegulation_keeps (ctx_keeps (enterFault_keeps h))))

theorem takeFault_keeps {k : FaultKind} {i : Option Int} (h : I.Holds s) : I.Holds (takeFault k i s) :=
  ite_keeps (abortWeld_keeps h) (ite_keeps (enterFault_keeps h) h)

theorem enterLate_keeps {k : FaultKind} {i : Option Int} (h : I.Holds s) : I.Holds (enterLate k i s) :=
  ctx_keeps (enterFault_keeps h)

theorem stopWeld_keeps {k : FaultKind} (h : I.Holds s) : I.Holds (stopWeld k s) :=
  ite_keeps (abortWeld_keeps h) (ite_keeps (enterFault_keeps h) h)

theorem takeStationFault_keeps {k : FaultKind} {i : Option Int} (h : I.Holds s) :
    I.Holds (takeStationFault k i s) := by
  refine ite_keeps (abortWeld_keeps h) ?_
  split
  · exact enterLate_keeps h
  · exact enterLate_keeps h
  · exact enterLate_keeps h
  · exact enterFault_keeps h

/-! ### The claim -/

theorem claimAmount_keeps {a : Nat} (h : I.Holds s) : I.Holds (claimAmount a s) :=
  sendClaim_keeps (setOwnClaim_keeps (free_keeps h))

theorem decideClaim_keeps (h : I.Holds s) : I.Holds (decideClaim s) := by
  unfold decideClaim
  split
  · exact h
  · dsimp only
    split
    · exact claimAmount_keeps (free_keeps h)
    · exact free_keeps h

theorem redecideClaim_keeps (h : I.Holds s) : I.Holds (redecideClaim s) := by
  unfold redecideClaim
  split
  · exact h
  · dsimp only
    split
    · exact claimAmount_keeps (free_keeps h)
    · exact offer_keeps (setOwnClaim_keeps (free_keeps h))

theorem yieldToLower_keeps (h : I.Holds s) : I.Holds (yieldToLower s) :=
  offer_keeps (setOwnClaim_keeps (free_keeps h))

theorem shrinkClaim_keeps {a : Nat} (h : I.Holds s) : I.Holds (shrinkClaim a s) :=
  enterFault_keeps (sendClaim_keeps (setOwnClaim_keeps (ctx_keeps h)))

theorem losePower_keeps {i : Option Int} (h : I.Holds s) : I.Holds (losePower i s) := takeFault_keeps h

theorem shortfall_keeps (h : I.Holds s) : I.Holds (shortfall s) := by
  have hshrunk : I.Holds (if s.leastPower < s.clu.ownClaim then shrinkClaim s.leastPower s else s) :=
    ite_keeps (shrinkClaim_keeps h) h
  exact ite_keeps (losePower_keeps h) (free_keeps hshrunk)

theorem checkSpare_keeps (h : I.Holds s) : I.Holds (checkSpare s) :=
  ite_keeps h (ite_keeps (shrinkClaim_keeps h) (shortfall_keeps h))

theorem endShed_keeps (h : I.Holds s) : I.Holds (endShed s) := free_keeps h

theorem checkShed_keeps (h : I.Holds s) : I.Holds (checkShed s) :=
  ite_keeps (endShed_keeps h) (ite_keeps (losePower_keeps h) h)

theorem settleNotice_keeps {n : Nat} {rose fell : Bool} (h : I.Holds s) : I.Holds (settleNotice n rose fell s) :=
  ite_keeps (yieldToLower_keeps h) (ite_keeps (redecideClaim_keeps h) h)

theorem cluNotice_keeps {before : State} {n : Nat} (h : I.Holds s) : I.Holds (cluNotice before n s) := by
  have hworked : I.Holds (if (before.row n).isPower || (s.row n).isPower then
      { s with clu := { s.clu with qInForce := s.capacityNow } } else s) := ite_keeps (free_keeps h) h
  unfold cluNotice
  generalize (if (before.row n).isPower || (s.row n).isPower then
      { s with clu := { s.clu with qInForce := s.capacityNow } } else s : State) = s1 at hworked ⊢
  dsimp only
  split
  · exact hworked
  · exact hworked
  · exact ite_keeps (decideClaim_keeps hworked) hworked
  · exact settleNotice_keeps hworked
  · exact settleNotice_keeps hworked
  · exact ite_keeps (losePower_keeps hworked) (ite_keeps (checkSpare_keeps hworked) hworked)
  · exact ite_keeps (losePower_keeps hworked) (ite_keeps (checkShed_keeps hworked) hworked)

theorem tellRoom_keeps (h : I.Holds s) : I.Holds (tellRoom s) := by
  have htold : I.Holds { s with lnp := { s.lnp with claimDropped := false } } := line_keeps h
  exact ite_keeps (ite_keeps (sendClaim_keeps htold) htold) h

theorem claimDiscarded_keeps {n : Nat} (h : I.Holds s) : I.Holds (claimDiscarded n s) := ite_keeps (sendClaim_keeps h) h

theorem cluCleared_keeps (h : I.Holds s) : I.Holds (cluCleared s) := by
  unfold cluCleared
  split
  · exact sendClaim_keeps h
  · exact sendClaim_keeps (free_keeps h)
  · exact h

/-! ### Preheat, flashing and the gate -/

theorem beginApproach_keeps (h : I.Holds s) : I.Holds (beginApproach s) := free_keeps h

theorem enterPreheat_keeps (h : I.Holds s) : I.Holds (enterPreheat s) :=
  beginApproach_keeps (free_keeps (enterState_keeps h (st := .preheat)))

theorem beginContact_keeps (h : I.Holds s) : I.Holds (beginContact s) := I.activate _ (ctx_keeps (free_keeps h))

theorem endContact_keeps (h : I.Holds s) : I.Holds (endContact s) := by
  have hdone : I.Holds ((s.mapSet fun o => { o with current := 0, velocity := -300 }).mapProgress
      fun p => { p with contactsDone := p.contactsDone + 1 }) := mapProgress_keeps (mapSet_keeps h)
  exact I.activate _ (free_keeps hdone)

theorem retreat_keeps (h : I.Holds s) : I.Holds (retreat s) := ite_keeps h (ite_keeps (free_keeps h) (mapSet_keeps h))

theorem writePreheatBurn_keeps (h : I.Holds s) : I.Holds (writePreheatBurn s) := mapProgress_keeps h

theorem enterFlash_keeps (h : I.Holds s) : I.Holds (enterFlash s) := by
  unfold enterFlash
  have hentered : I.Holds (enterState .flash s) := enterState_keeps h
  exact mapSet_keeps (ctx_keeps (free_keeps hentered))

theorem enterBoost_keeps (h : I.Holds s) : I.Holds (enterBoost s) := by
  unfold enterBoost
  have hentered : I.Holds (enterState .boost s) := enterState_keeps h
  exact mapProgress_keeps (free_keeps hentered)

theorem backoffSample_keeps {b : Backoff} (h : I.Holds s) : I.Holds (backoffSample b s) :=
  ite_keeps (free_keeps h) (mapSet_keeps h)

theorem requestGate_keeps {w : Watch} (h : I.Holds s) : I.Holds (requestGate w s) := free_keeps h

theorem endWatch_keeps (h : I.Holds s) : I.Holds (endWatch s) := free_keeps h

theorem holdBroken_keeps (h : I.Holds s) : I.Holds (holdBroken s) := by
  have hentered : I.Holds (enterFault .holdBroken s.pairedForce s) := enterFault_keeps h
  exact ite_keeps h (free_keeps hentered)

theorem requestHeatGate_keeps (h : I.Holds s) : I.Holds (requestHeatGate s) := by
  have hasked : I.Holds (requestGate .heatEntry s) := requestGate_keeps h
  exact ite_keeps (enterFlash_keeps (endWatch_keeps hasked)) (free_keeps hasked)

/-! ### POWER and CLOSE -/

theorem enterPower_keeps (h : I.Holds s) : I.Holds (enterPower s) :=
  decideClaim_keeps (free_keeps (enterState_keeps h (st := .power)))

theorem leavePower_keeps (h : I.Holds s) : I.Holds (leavePower s) :=
  ite_keeps (enterPreheat_keeps h) (ite_keeps (requestHeatGate_keeps h) (enterFlash_keeps h))

theorem grantClaim_keeps (h : I.Holds s) : I.Holds (grantClaim s) := by
  have hgranted : I.Holds (s.mapCtx fun c =>
      { c with granted := s.clu.ownClaim, share := shareOf s.clu.ownClaim c.demand }) := ctx_keeps h
  exact leavePower_keeps (ite_keeps (enterFault_keeps (free_keeps hgranted)) (free_keeps hgranted))

theorem sendClosure_keeps (h : I.Holds s) : I.Holds (sendClosure s) := by
  unfold sendClosure
  split
  · exact h
  · have hcalled {p : Nat} {b : CallBody} :
        I.Holds (requestCall p b { s with tnl := { s.tnl with closureWaiting := false } }) :=
      requestCall_keeps (free_keeps h)
    exact ite_keeps (takeFault_keeps hcalled) hcalled

theorem enterClose_keeps (h : I.Holds s) : I.Holds (enterClose s) := by
  have hentered : I.Holds (enterState .close s) := enterState_keeps h
  exact ite_keeps (sendClosure_keeps hentered) (free_keeps hentered)

theorem closureTaken_keeps (h : I.Holds s) : I.Holds (closureTaken s) := by
  have hasked : I.Holds (requestGate .close { s with tnl := { s.tnl with closureAccepted := true } }) :=
    requestGate_keeps (free_keeps h)
  exact ite_keeps (enterPower_keeps (endWatch_keeps hasked)) (free_keeps hasked)

theorem closureFreed_keeps {r : CallResult} (h : I.Holds s) : I.Holds (closureFreed r s) := by
  unfold closureFreed
  split
  · exact closureTaken_keeps h
  all_goals exact takeFault_keeps h

theorem owedFreed_keeps {o : Owed} {r : CallResult} (h : I.Holds s) : I.Holds (owedFreed o r s) := by
  unfold owedFreed
  dsimp only
  split
  · exact requestCall_keeps (free_keeps h)
  · exact free_keeps h

theorem tensorFreed_keeps {c : TensorCall} {r : CallResult} (h : I.Holds s) : I.Holds (tensorFreed c r s) := by
  have hfreed : I.Holds (if c.closure then
      match s.tnl.owed with
      | some o => owedFreed o r s
      | none => if s.wsq.seq = .close then closureFreed r s else s
    else s) := by
    refine ite_keeps ?_ h
    split
    · exact owedFreed_keeps h
    · exact ite_keeps (closureFreed_keeps h) h
  exact ite_keeps (sendClosure_keeps hfreed) hfreed

theorem dropRecord_keeps {d : Nat} (h : I.Holds s) : I.Holds (dropRecord d s) := by
  have hdropped : I.Holds { s with lnp := { s.lnp with calls := s.lnp.calls.filter fun r => r.dest != d } } :=
    I.line h ⟨id, callsOk_filter _ _⟩
  have hfree : I.Holds { s with lnp := { s.lnp with calls := s.lnp.calls.filter (fun r => r.dest != d), held := none } } :=
    I.line h ⟨id, callsOk_filter _ _⟩
  unfold dropRecord
  dsimp only
  split
  · exact hdropped
  · exact ite_keeps (requestCall_keeps hfree) hdropped

theorem callFreed_keeps {d : Nat} {r : CallResult} (h : I.Holds s) : I.Holds (callFreed d r s) := by
  unfold callFreed
  split
  · exact ite_keeps (tensorFreed_keeps (dropRecord_keeps (free_keeps h))) (dropRecord_keeps h)
  · exact dropRecord_keeps h

/-! ### Upset, hold, let-go and unclamp -/

theorem enterUnclamp_keeps (h : I.Holds s) : I.Holds (enterUnclamp s) := by
  have hentered : I.Holds (enterState .unclamp s) := enterState_keeps h
  exact free_keeps hentered

theorem enterLetGo_keeps (h : I.Holds s) : I.Holds (enterLetGo s) := by
  have hcalled : I.Holds (sendLetGo (enterState .letGo s)) := sendLetGo_keeps (enterState_keeps h)
  exact ite_keeps (enterUnclamp_keeps (free_keeps hcalled)) (free_keeps hcalled)

theorem enterHold_keeps (h : I.Holds s) : I.Holds (enterHold s) := by
  have hentered : I.Holds ((enterState .hold s).mapProgress fun p => { p with holdElapsed := 0 }) :=
    mapProgress_keeps (enterState_keeps h)
  exact ite_keeps (ite_keeps (free_keeps hentered) (holdBroken_keeps (free_keeps hentered))) (free_keeps hentered)

theorem endHold_keeps (h : I.Holds s) : I.Holds (endHold s) := by
  have hover : I.Holds (s.mapProgress fun p => { p with holdElapsed := s.sched.tH * 1000 }) := mapProgress_keeps h
  exact ite_keeps (enterLetGo_keeps (endWatch_keeps (I.activate _ (free_keeps hover))))
    (enterUnclamp_keeps (endWatch_keeps (I.activate _ (free_keeps hover))))

theorem leaveUpset_keeps (h : I.Holds s) : I.Holds (leaveUpset s) := ite_keeps (enterHold_keeps h) h

theorem heatOver_keeps (h : I.Holds s) : I.Holds (heatOver s) := yieldOwnClaim_keeps (free_keeps h)

theorem endStroke_keeps {b : Bool} (h : I.Holds s) : I.Holds (endStroke b s) :=
  ite_keeps (enterFault_keeps (I.activate _ (free_keeps h))) (I.activate _ (free_keeps h))

theorem workStroke_keeps (h : I.Holds s) : I.Holds (workStroke s) := mapProgress_keeps h

theorem strokeSample_keeps (h : I.Holds s) : I.Holds (strokeSample s) :=
  ite_keeps h (ite_keeps (endStroke_keeps h) (ite_keeps (endStroke_keeps h) h))

theorem enterUpset_keeps (h : I.Holds s) : I.Holds (enterUpset s) := by
  have hgate {x : State} (hx : I.Holds x) : I.Holds (if x.tensioned then
      if (endWatch (requestGate .upset x)).tnl.gateMet then endWatch (requestGate .upset x)
      else enterFault .tensorLost (endWatch (requestGate .upset x)).pairedForce (endWatch (requestGate .upset x))
    else x) := by
    have hasked : I.Holds (endWatch (requestGate .upset x)) := endWatch_keeps (requestGate_keeps hx)
    exact ite_keeps (ite_keeps hasked (enterFault_keeps hasked)) hx
  have hheat {x : State} (hx : I.Holds x) : I.Holds (if x.sched.tUc = 0 then heatOver x else x) :=
    ite_keeps (heatOver_keeps hx) hx
  have hentered : I.Holds (enterState .upset s) := enterState_keeps h
  unfold enterUpset
  exact leaveUpset_keeps (strokeSample_keeps (workStroke_keeps (hheat (hgate (mapProgress_keeps (free_keeps hentered))))))

theorem endFlash_keeps (h : I.Holds s) : I.Holds (endFlash s) := ite_keeps (enterBoost_keeps h) (enterUpset_keeps h)

/-! ### The gate, the release and the rows -/

theorem gateNotice_keeps (h : I.Holds s) : I.Holds (gateNotice s) := by
  refine ite_keeps h ?_
  dsimp only
  split
  · exact enterPower_keeps (free_keeps h)
  · exact enterFlash_keeps (endWatch_keeps (free_keeps h))
  · exact holdBroken_keeps (free_keeps h)
  · exact free_keeps h

theorem closeRowLost_keeps (h : I.Holds s) : I.Holds (closeRowLost s) := by
  refine ite_keeps (ite_keeps (takeFault_keeps h) ?_) h
  split
  · exact takeFault_keeps (dropRecord_keeps (free_keeps h))
  · exact takeFault_keeps h

theorem releaseNotice_keeps (h : I.Holds s) : I.Holds (releaseNotice s) := ite_keeps (enterUnclamp_keeps h) h

theorem pairedNotice_keeps {b : Bool} (h : I.Holds s) : I.Holds (pairedNotice b s) :=
  releaseNotice_keeps (gateNotice_keeps (closeRowLost_keeps (ite_keeps (I.activate _ h) h)))

theorem setRow_keeps {n : Nat} {r : PeerRow} (h : I.Holds s) : I.Holds (s.setRow n r) := ite_keeps h (line_keeps h)

theorem changeRow_keeps {n : Nat} {b : Bool} {r : PeerRow} (h : I.Holds s) : I.Holds (changeRow n b r s) := by
  have hnoted : I.Holds (cluNotice s n (s.setRow n r)) := cluNotice_keeps (setRow_keeps h)
  exact ite_keeps (pairedNotice_keeps hnoted) hnoted

theorem takeClaim_keeps {n a : Nat} (h : I.Holds s) : I.Holds (takeClaim n a s) := by
  unfold takeClaim
  split
  · exact changeRow_keeps h
  · exact h

theorem staleRow_keeps {n : Nat} (h : I.Holds s) : I.Holds (staleRow n s) := by
  unfold staleRow
  split
  · exact ite_keeps (changeRow_keeps h) h
  · exact h

theorem emptyRow_keeps {n : Nat} (h : I.Holds s) : I.Holds (emptyRow n s) := by
  unfold emptyRow
  split
  · exact ite_keeps (changeRow_keeps h) h
  · exact h

/-! ### The outcome -/

theorem settleEnergy_keeps (h : I.Holds s) : I.Holds (settleEnergy s) := by
  unfold settleEnergy
  dsimp only
  split
  · exact mapProgress_keeps h
  · exact ite_keeps (enterFaultAs_keeps (mapProgress_keeps h)) (mapProgress_keeps h)

theorem settleNeutral_keeps (h : I.Holds s) : I.Holds (settleNeutral s) := by
  unfold settleNeutral
  split
  · exact h
  · dsimp only
    split
    · exact ctx_keeps h
    · exact ite_keeps (enterFaultAs_keeps (ctx_keeps h)) (ctx_keeps h)

theorem settleVerdict_keeps (h : I.Holds s) : I.Holds (settleVerdict s) := I.activate _ (ctx_keeps h)

theorem buildOutcome_keeps (hEnds : Ends I) (h : I.Holds s) : I.Holds (buildOutcome s) :=
  enterState_keeps (hEnds _ (settleVerdict_keeps (settleNeutral_keeps (settleEnergy_keeps h))))

/-! ### Frames received -/

theorem freeCalls_keeps {r : CallResult} {dests : List Nat} (h : I.Holds s) : I.Holds (freeCalls r dests s) := by
  unfold freeCalls
  induction dests generalizing s with
  | nil => exact h
  | cons d dests ih => exact ih (callFreed_keeps h)

theorem freeHeld_keeps {r : CallResult} (h : I.Holds s) : I.Holds (freeHeld r s) := by
  have hfree : I.Holds { s with lnp := { s.lnp with held := none } } := line_keeps h
  unfold freeHeld
  dsimp only
  split
  · exact ite_keeps (tensorFreed_keeps (free_keeps hfree)) hfree
  · exact hfree

theorem silenceLine_keeps (h : I.Holds s) : I.Holds (silenceLine s) := by
  have hquiet : I.Holds { s with lnp := { s.lnp with
      announceTimer := none, backoff := false, attemptCount := 0, queue := [], announceOwed := false
      claimDropped := false } } := I.line h ⟨fun _ => queueOk_nil, id⟩
  exact freeCalls_keeps (freeHeld_keeps hquiet)

theorem duplicateFound_keeps (h : I.Holds s) : I.Holds (duplicateFound s) := by
  have htaken : I.Holds (takeStationFault .duplicateStation none { s with wsq := { s.wsq with silence := true } }) :=
    takeStationFault_keeps (free_keeps h)
  refine ite_keeps h (silenceLine_keeps ?_)
  split
  · exact enterState_keeps htaken
  · exact enterState_keeps htaken
  · exact htaken

theorem answerCall_keeps {d n : Nat} {code : AnswerCode} {v : Nat} (h : I.Holds s) :
    I.Holds (answerCall d n code v s) := offer_keeps h

theorem enterClamp_keeps (h : I.Holds s) : I.Holds (enterClamp s) := by
  have hentered : I.Holds (enterState .clamp s) := enterState_keeps h
  exact free_keeps hentered

/-- R59: what holds of a WELD_START that no condition turns away. -/
theorem startTest_ok {args : StartArgs} {bank : BankName} {mode : Mode} (h : startTest args s = .ok (bank, mode)) :
    s.wsq.seq ≠ .locked ∧ s.ctx = none ∧ s.wsq.haltLatch = false ∧ s.rst.slot = none ∧ s.pins.headStop = false
    ∧ orderOf args = some (bank, mode) ∧ (s.bank bank).ready = true ∧ s.rst.nextWeld < weldNumberLimit := by
  cases horder : orderOf args with
  | none =>
    simp only [startTest, horder] at h
    split_ifs at h
  | some x =>
    obtain ⟨bk, md⟩ := x
    simp only [startTest, horder] at h
    split_ifs at h with hseq hctx hlatch hslot hstop hready hnumber
    simp_all

theorem takeWeldStart_keeps {n m : Nat} {args : StartArgs} (hAccepts : Accepts I) (h : I.Holds s) :
    I.Holds (takeWeldStart n m args s) := by
  refine ite_keeps ?_ (answerCall_keeps h)
  split
  · exact answerCall_keeps h
  next bank mode hok =>
    obtain ⟨-, hctx, -, hslot, -, -, hready, -⟩ := startTest_ok hok
    exact answerCall_keeps (enterClamp_keeps (hAccepts bank mode args s h hctx hslot hready))

theorem takeWeldStop_keeps {n m : Nat} (h : I.Holds s) : I.Holds (takeWeldStop n m s) :=
  ite_keeps (answerCall_keeps (stopWeld_keeps h)) (answerCall_keeps h)

theorem takeAnswer_keeps {n m o v : Nat} (h : I.Holds s) : I.Holds (takeAnswer n m o v s) :=
  ite_keeps (callFreed_keeps h) h

theorem setHaltLatch_keeps (h : I.Holds s) : I.Holds (setHaltLatch s) :=
  ite_keeps h (announceChange_keeps (free_keeps h))

theorem takeClear_keeps {n : Nat} (h : I.Holds s) : I.Holds (takeClear n s) := by
  have hqueue : I.Holds (clearQueue s) := by
    have hline : I.Holds { s with lnp := { s.lnp with queue := [], announceOwed := false, claimDropped := false } } :=
      I.line h ⟨fun _ => queueOk_nil, id⟩
    exact cluCleared_keeps hline
  have hcalls : I.Holds (clearCalls (clearQueue s)) := by
    have hline : I.Holds { clearQueue s with lnp := { (clearQueue s).lnp with
        calls := [], held := none, attemptCount := 0, backoff := false } } := I.line hqueue ⟨id, fun _ => callsOk_nil⟩
    exact free_keeps hline
  have hlatch : I.Holds (if s.isConsole n then clearHaltLatch (clearCalls (clearQueue s))
      else clearCalls (clearQueue s)) := ite_keeps (free_keeps hcalls) hcalls
  unfold takeClear
  dsimp only
  split
  · exact tensorFreed_keeps hlatch
  · exact hlatch

theorem takeBody_keeps {n : Nat} {b : RxBody} (hAccepts : Accepts I) (h : I.Holds s) : I.Holds (takeBody n b s) := by
  cases b with
  | announce side role => exact changeRow_keeps h
  | claim amount => exact takeClaim_keeps h
  | yieldClaim => exact takeClaim_keeps h
  | weldStart number args => exact takeWeldStart_keeps hAccepts h
  | weldStop number => exact takeWeldStop_keeps h
  | setClosure number => exact answerCall_keeps h
  | letGo number => exact answerCall_keeps h
  | unknownCall number => exact answerCall_keeps h
  | answer number outcome result => exact takeAnswer_keeps h
  | halt => exact stopWeld_keeps (setHaltLatch_keeps h)
  | clearAll => exact takeClear_keeps h

theorem receive_keeps {want : RxBody → Bool} {bytes : List Byte} (hAccepts : Accepts I) (h : I.Holds s) :
    I.Holds (receive want bytes s) := by
  refine ite_keeps ?_ h
  split
  · exact h
  · split
    · exact h
    · exact duplicateFound_keeps h
    · exact ite_keeps (takeBody_keeps hAccepts h) h

/-! ### Frames sent -/

theorem beginAttempt_keeps {n : Nat} (h : I.Holds s) : I.Holds (beginAttempt n s) := by
  unfold beginAttempt
  split
  · exact h
  · exact ite_keeps (line_keeps h) h

theorem frameWon_keeps {f : OutFrame} (h : I.Holds s) : I.Holds (frameWon f s) := by
  unfold frameWon
  split
  · exact ite_keeps (requestAnnounce_keeps (line_keeps h)) h
  · exact claimSent_keeps h
  · exact h
  next dest number _ =>
    exact I.line h ⟨id, callsOk_map (startDeadline dest number) (fun r => by unfold startDeadline; split <;> rfl) _⟩
  · exact h

/-- R147: the head frame leaves the queue. -/
theorem tail_keeps {f : OutFrame} {rest : List OutFrame} {l : Lnp} (hq : s.lnp.queue = f :: rest) (h : I.Holds s)
    (hrest : l.queue = rest := by rfl) (hc : l.calls = s.lnp.calls := by rfl) : I.Holds { s with lnp := l } :=
  I.line h ⟨fun hok => hrest ▸ queueOk_tail f rest (hq ▸ hok), fun hok => hc ▸ hok⟩

theorem winAttempt_keeps (h : I.Holds s) : I.Holds (winAttempt s) := by
  unfold winAttempt
  split
  next hq => exact frameWon_keeps (tellRoom_keeps (tail_keeps hq h))
  next => exact h

theorem frameDiscarded_keeps {f : OutFrame} (h : I.Holds s) : I.Holds (frameDiscarded f s) := by
  unfold frameDiscarded
  split
  · exact h
  · exact claimDiscarded_keeps h
  · exact h
  · exact ite_keeps (callFreed_keeps h) h
  · exact h

theorem loseAttempt_keeps (h : I.Holds s) : I.Holds (loseAttempt s) := by
  unfold loseAttempt
  split
  next f rest _ hq =>
    have hlost : I.Holds { s with lnp := { s.lnp with attempt := none, announceOwed := false, backoff := true } } :=
      line_keeps h
    refine ite_keeps ?_ (line_keeps hlost)
    exact frameDiscarded_keeps (lineFault_keeps (tellRoom_keeps (tail_keeps (f := f) hq hlost)))
  next => exact h

theorem expireCall_keeps {d : Nat} (h : I.Holds s) : I.Holds (expireCall d s) := ite_keeps (callFreed_keeps h) h

theorem announceTick_keeps (h : I.Holds s) : I.Holds (announceTick s) :=
  ite_keeps (requestAnnounce_keeps (line_keeps h)) h

/-! ### Samples -/

theorem tickAll_keeps (h : I.Holds s) : I.Holds (tickAll s) := by
  have hline : I.Holds { s with lnp := s.lnp.tick } :=
    I.line h ⟨id, callsOk_map (fun r => { r with deadline := tickTimer r.deadline }) (fun _ => rfl) _⟩
  exact free_keeps (I.tick (tickTimer s.cap.tick) hline)

theorem gateCurrent_keeps (h : I.Holds s) : I.Holds (gateCurrent s) := ite_keeps h (free_keeps h)

theorem takeSlip_keeps (h : I.Holds s) : I.Holds (takeSlip s) := ite_keeps (ite_keeps (free_keeps h) (free_keeps h)) h

theorem takeProgress_keeps (h : I.Holds s) : I.Holds (takeProgress s) := by
  unfold takeProgress
  split
  · exact mapProgress_keeps h
  · exact mapProgress_keeps h
  · exact workStroke_keeps h
  · exact mapProgress_keeps h
  · exact h

theorem measure_keeps {raw : Samples} (h : I.Holds s) : I.Holds (Machine.measure raw s) := by
  have hdriven : I.Holds (driveOutputs (tickAll s)) := gateCurrent_keeps (free_keeps (tickAll_keeps h))
  have hinputs : I.Holds (takeInputs raw (driveOutputs (tickAll s))) := free_keeps hdriven
  have hshort : I.Holds (takeShort (takeInputs raw (driveOutputs (tickAll s)))) := free_keeps hinputs
  have henergy : I.Holds (takeEnergy (takeShort (takeInputs raw (driveOutputs (tickAll s))))) :=
    ite_keeps (free_keeps hshort) hshort
  exact takeProgress_keeps (takeSlip_keeps (free_keeps henergy))

theorem takeSensorRange_keeps {v : Option Int} (h : I.Holds s) : I.Holds (takeSensorRange v s) := by
  have htaken : I.Holds (takeStationFault .sensorRange v { s with wsq := { s.wsq with lock := true } }) :=
    takeStationFault_keeps (free_keeps h)
  exact ite_keeps (enterState_keeps htaken) htaken

theorem takeRangeNotice_keeps {i : Input} (h : I.Holds s) : I.Holds (takeRangeNotice i s) := by
  unfold takeRangeNotice
  split
  · exact h
  · exact takeSensorRange_keeps (free_keeps h)

theorem takeFreeze_keeps (h : I.Holds s) : I.Holds (takeFreeze s) := by
  have hcounted : I.Holds (activate .freeze (s.mapProgress fun p => { p with freezeCount := p.freezeCount + 1 })) :=
    I.activate _ (mapProgress_keeps h)
  exact ite_keeps (takeFault_keeps hcounted) (free_keeps hcounted)

theorem takeFreezeNotice_keeps (h : I.Holds s) : I.Holds (takeFreezeNotice s) :=
  ite_keeps h (ite_keeps (takeFreeze_keeps (free_keeps h)) (free_keeps h))

theorem takeClampSlip_keeps (h : I.Holds s) : I.Holds (takeClampSlip s) := by
  unfold takeClampSlip
  split
  · exact h
  · exact takeFault_keeps (free_keeps h)

theorem takePlatenStall_keeps {found : Option Int} (h : I.Holds s) : I.Holds (takePlatenStall found s) := by
  unfold takePlatenStall
  split
  · exact h
  · exact ite_keeps (takeFault_keeps (free_keeps h)) (free_keeps h)

theorem takeStrokeLimit_keeps {start : SeqState} (h : I.Holds s) : I.Holds (takeStrokeLimit start s) :=
  ite_keeps (takeFault_keeps h) h

theorem clampSample_keeps (h : I.Holds s) : I.Holds (clampSample s) := by
  have hentered : I.Holds (enterState .plan s) := enterState_keeps h
  exact ite_keeps (free_keeps hentered) h

theorem preheatSample_keeps (h : I.Holds s) : I.Holds (preheatSample s) := by
  unfold preheatSample
  split
  · exact ite_keeps (beginContact_keeps h) h
  · exact mapSet_keeps h
  · exact retreat_keeps h
  · exact mapSet_keeps h
  · exact h

theorem flashSample_keeps (h : I.Holds s) : I.Holds (flashSample s) := by
  unfold flashSample
  dsimp only
  split
  · exact backoffSample_keeps (mapSet_keeps h)
  · exact ite_keeps (endFlash_keeps (mapSet_keeps (mapSet_keeps h))) (mapSet_keeps (mapSet_keeps h))

theorem boostSample_keeps (h : I.Holds s) : I.Holds (boostSample s) := by
  unfold boostSample
  dsimp only
  split
  · exact backoffSample_keeps (mapSet_keeps h)
  · exact ite_keeps (enterUpset_keeps (mapSet_keeps h)) (mapSet_keeps (mapSet_keeps h))

theorem upsetSample_keeps (h : I.Holds s) : I.Holds (upsetSample s) :=
  leaveUpset_keeps (strokeSample_keeps (ite_keeps h (mapSet_keeps h)))

theorem unclampSample_keeps (hEnds : Ends I) (h : I.Holds s) : I.Holds (unclampSample s) :=
  ite_keeps (buildOutcome_keeps hEnds h) h

theorem takePhase_keeps {start : SeqState} (hEnds : Ends I) (h : I.Holds s) : I.Holds (takePhase start s) := by
  refine ite_keeps ?_ h
  split
  · exact clampSample_keeps h
  · exact preheatSample_keeps h
  · exact flashSample_keeps h
  · exact boostSample_keeps h
  · exact upsetSample_keeps h
  · exact unclampSample_keeps hEnds h
  · exact unclampSample_keeps hEnds h
  · exact h

theorem takeFinding_keeps {start : SeqState} {stall : Option Int} {f : Finding} (hEnds : Ends I) (h : I.Holds s) :
    I.Holds (takeFinding start stall s f) := by
  cases f with
  | stall => exact takePlatenStall_keeps h
  | limit => exact takeStrokeLimit_keeps h
  | phase => exact takePhase_keeps hEnds h
  | freeze => exact takeFreezeNotice_keeps h
  | slip => exact takeClampSlip_keeps h
  | range input => exact takeRangeNotice_keeps h

theorem takeFindings_keeps {order : SampleOrder} (hEnds : Ends I) (h : I.Holds s) : I.Holds (takeFindings order s) :=
  List.foldlRecOn _ _ h fun _ hb _ _ => takeFinding_keeps hEnds hb

theorem takeSample_keeps {raw : Samples} {order : SampleOrder} (hEnds : Ends I) (h : I.Holds s) :
    I.Holds (takeSample raw order s) := ite_keeps h (takeFindings_keeps hEnds (measure_keeps h))

/-! ### The plan and the timers of a weld -/

theorem pairTensor_keeps (h : I.Holds s) : I.Holds (pairTensor s) := by
  unfold pairTensor
  split
  · exact takeFault_keeps h
  · exact enterClose_keeps (ctx_keeps h)
  · exact takeFault_keeps h

theorem takePlan_keeps {c : WeldCtx} {tR g0 : Int} (h : I.Holds s) : I.Holds (takePlan c tR g0 s) := by
  unfold takePlan
  dsimp only
  split
  · exact takeFault_keeps (ctx_keeps h)
  · split
    · exact enterPower_keeps (ctx_keeps h)
    · exact pairTensor_keeps (ctx_keeps h)

theorem takePlanning_keeps (h : I.Holds s) : I.Holds (takePlanning s) := by
  unfold takePlanning
  split
  · dsimp only
    split
    · exact ite_keeps (takePlan_keeps (free_keeps h)) (free_keeps h)
    · exact free_keeps h
  · exact h

theorem endPreheat_keeps (h : I.Holds s) : I.Holds (endPreheat s) :=
  ite_keeps (requestHeatGate_keeps (free_keeps h)) (enterFlash_keeps (free_keeps h))

theorem endOpen_keeps (h : I.Holds s) : I.Holds (endOpen s) := by
  have hburn : I.Holds (writePreheatBurn s) := writePreheatBurn_keeps h
  exact ite_keeps (beginApproach_keeps hburn) (endPreheat_keeps hburn)

theorem endWindow_keeps (h : I.Holds s) : I.Holds (endWindow s) :=
  ite_keeps (takeFault_keeps (I.activate _ (free_keeps h))) (I.activate _ (free_keeps h))

theorem captureTick_keeps (h : I.Holds s) : I.Holds (captureTick s) := ite_keeps (I.activate _ (I.tick _ h)) h

theorem expireShed_keeps (h : I.Holds s) : I.Holds (expireShed s) := ite_keeps (endShed_keeps h) (losePower_keeps h)

theorem leaveOffline_keeps (h : I.Holds s) : I.Holds (leaveOffline s) := by
  have hentered : I.Holds (enterState (if s.wsq.lock then .locked else .ready) s) := enterState_keeps h
  exact requestAnnounce_keeps (line_keeps hentered)

theorem assertHeadStop_keeps (h : I.Holds s) : I.Holds (assertHeadStop s) := ite_keeps h (stopWeld_keeps (free_keeps h))

theorem releaseLine_keeps {n : BitVec 4} {side : Side} (h : I.Holds s) : I.Holds (releaseLine n side s) := by
  have hpins : I.Holds { s with pins := { s.pins with lineReset := false } } := free_keeps h
  exact ite_keeps (line_keeps hpins) h

end
end Sys2Proof.Proofs.Invariants

/-! One step: an invariant is kept by every command but those that write the store, and by those too where it reads no
more of the state than the queue, the calls, trace memory, the fault list and the queue of commands; and the statements
EveryCommandCompletes and EveryStepKeepsQueueCallsAndFaultList. -/
namespace Sys2Proof.Proofs.Steps
open Sys2Proof Sys2Proof.Machine Sys2Proof.Proofs.Invariants

set_option Elab.async false

/-! ### A step and its command -/

/-- A step idles on an empty queue, and runs the front command on the rest otherwise. -/
theorem step_cases {s t : State} (h : step s = .next t) :
    t = s ∨ ∃ c rest, s.pending = c :: rest ∧ exec c { s with pending := rest } = .next t := by
  unfold step at h
  split at h
  next => exact .inl (Host.Outcome.next.inj h).symm
  next c rest hq => exact .inr ⟨c, rest, hq, h⟩

/-- The commands that write the banks, the ring or the settings area, or clear the fault log. -/
def writesStore : Instr → Bool
  | .supplyReset _ | .lineReset | .commitEnd _ | .eraseEnd _ | .scheduleWriteEnd _ | .captureWriteEnd _ => true
  | .loadBankA _ | .loadBankB _ | .loadCapture _ | .beginStaging _ | .endStaging _ | .clearFaults _ => true
  | _ => false

/-- The commands that write the ring: the resets, and the ends of a program and an erase. -/
def writesRing : Instr → Bool
  | .supplyReset _ | .lineReset | .commitEnd _ | .eraseEnd _ => true
  | _ => false

/-- The commands that can build the outcome of a weld (R68, R111). -/
def mayEnd : Instr → Bool
  | .sample _ _ | .unclampSlow => true
  | _ => false

/-- The commands that carry a received frame. -/
def takesFrame : Instr → Bool
  | .announceFrame _ | .claimFrame _ | .yieldFrame _ | .weldStart _ | .weldStop _ | .setClosureCall _ => true
  | .letGoCall _ | .unknownCallKind _ | .answerFrame _ | .haltFrame _ | .clearFrame _ | .duplicateStation _ => true
  | _ => false

/-- The commands that clear the fault log (R31, R184). -/
def clearsLog : Instr → Bool
  | .supplyReset _ | .clearFaults _ => true
  | _ => false

/-! ### The service port -/

/-- A write transfer leaves the state, changes the port alone, or carries its command out, whose kind its row wants. -/
theorem writeTransfer_cases (want : Byte → Bool) (t : WriteTransfer) (s : State) :
    (∃ p, writeTransfer want t s = { s with svp := p })
    ∨ ∃ b c p, want b = true ∧ c.kind = commandKind b ∧ writeTransfer want t s = carryOut c { s with svp := p } := by
  unfold writeTransfer
  split
  next => exact .inl ⟨s.svp, rfl⟩
  next hrow =>
    split
    · exact .inl ⟨_, rfl⟩
    · split
      · exact .inl ⟨_, rfl⟩
      · unfold takeCommand
        split
        · exact .inl ⟨_, rfl⟩
        next c hc =>
          split
          · obtain ⟨b, hb, hkind, -, -⟩ := parseCommand_byte _ _ hc
            simp only [hb, Option.any_some, Bool.or_eq_true, Bool.not_eq_true', not_or, Bool.not_eq_false] at hrow
            exact .inr ⟨b, c, _, hrow.2, hkind, rfl⟩
          · exact .inl ⟨_, rfl⟩

/-- A command of another kind than the LOADs and CLEAR_FAULTS changes the port alone. -/
theorem carryOut_port (c : SvpCommand) (s : State) (h1 : c.kind ≠ 1) (h2 : c.kind ≠ 2) (h3 : c.kind ≠ 3) (h8 : c.kind ≠ 8) :
    ∃ p, carryOut c s = { s with svp := p } := by
  unfold carryOut
  split
  case h_1 h => exact absurd h h1
  case h_2 h => exact absurd h h2
  case h_3 h => exact absurd h h3
  case h_4 => unfold selectRecord; split <;> exact ⟨_, rfl⟩
  case h_5 => unfold readDataAt; split <;> exact ⟨_, rfl⟩
  case h_6 => exact ⟨_, rfl⟩
  case h_7 => exact ⟨_, rfl⟩
  case h_8 h => exact absurd h h8
  case h_9 => exact ⟨s.svp, rfl⟩

/-- A write transfer whose row wants none of the LOADs and no CLEAR_FAULTS changes the port alone. -/
theorem writeTransfer_port (want : Byte → Bool) (t : WriteTransfer) (s : State)
    (hwant : ∀ b, want b = true → commandKind b ≠ 1 ∧ commandKind b ≠ 2 ∧ commandKind b ≠ 3 ∧ commandKind b ≠ 8) :
    ∃ p, writeTransfer want t s = { s with svp := p } := by
  rcases writeTransfer_cases want t s with hport | ⟨b, c, p, hb, hkind, hout⟩
  · exact hport
  · obtain ⟨h1, h2, h3, h8⟩ := hwant b hb
    rw [← hkind] at h1 h2 h3 h8
    obtain ⟨q, hq⟩ := carryOut_port c { s with svp := p } h1 h2 h3 h8
    exact ⟨q, hout.trans hq⟩

/-- The row of one kind wants no other. -/
theorem wants_one {k : Nat} (hk : k ∉ [1, 2, 3, 8]) (b : Byte) (h : (commandKind b == k) = true) :
    commandKind b ≠ 1 ∧ commandKind b ≠ 2 ∧ commandKind b ≠ 3 ∧ commandKind b ≠ 8 := by
  simp only [beq_iff_eq] at h
  simp only [List.mem_cons, List.not_mem_nil, not_or] at hk
  omega

theorem wants_unknown (b : Byte) (h : (!isKnownKind (commandKind b)) = true) :
    commandKind b ≠ 1 ∧ commandKind b ≠ 2 ∧ commandKind b ≠ 3 ∧ commandKind b ≠ 8 := by
  simp only [isKnownKind, Bool.not_eq_true', Bool.and_eq_false_iff, decide_eq_false_iff_not] at h
  omega

theorem readTransfer_port (t : ReadTransfer) (s : State) : ∃ p, readTransfer t s = { s with svp := p } := by
  unfold readTransfer
  repeat' split
  all_goals exact ⟨_, rfl⟩

theorem endFetch_port (s : State) : ∃ p, endFetch s = { s with svp := p } := by
  unfold endFetch
  split <;> exact ⟨_, rfl⟩

/-! ### The commands that write no part of the store -/

section
variable {I : Invariant} {s : State}

theorem port_keeps {x : State} (hx : ∃ p, x = { s with svp := p }) (h : I.Holds s) : I.Holds x := by
  obtain ⟨p, rfl⟩ := hx
  exact free_keeps h

/-- What the meaning of a command other than the resets and the ends of the store's writes works out, before the gate. -/
theorem exec_keeps {c : Instr} (hEnds : mayEnd c = true → Ends I) (hAccepts : takesFrame c = true → Accepts I)
    (hc : writesStore c = false) (h : I.Holds s) : ∃ x, exec c s = finish x ∧ I.Holds x := by
  cases c with
  | supplyReset w => cases hc
  | lineReset => cases hc
  | lineResetRelease n side => exact ⟨_, rfl, releaseLine_keeps h⟩
  | lineOkRise => exact ⟨_, rfl, free_keeps (line_keeps h (l := { s.lnp with lineOkRisen := s.lnp.lineOkRisen || !s.pins.lineReset }))⟩
  | lineOkFall =>
    refine ⟨_, rfl, free_keeps (line_keeps h (l := abandonAttempt s.lnp) ?_ ?_)⟩
    all_goals unfold abandonAttempt; split <;> rfl
  | offlineExit => exact ⟨_, rfl, ite_keeps (leaveOffline_keeps h) h⟩
  | headStop => exact ⟨_, rfl, assertHeadStop_keeps h⟩
  | headStopRelease => exact ⟨_, rfl, free_keeps h⟩
  | sample raw order => exact ⟨_, rfl, takeSample_keeps (hEnds rfl) h⟩
  | sensorRange input => exact ⟨_, rfl, takeRangeNotice_keeps h⟩
  | freezeNotice => exact ⟨_, rfl, takeFreezeNotice_keeps h⟩
  | clampSlip => exact ⟨_, rfl, takeClampSlip_keeps h⟩
  | planningMeasurement => exact ⟨_, rfl, takePlanning_keeps h⟩
  | clampFail => exact ⟨_, rfl, ite_keeps (takeFault_keeps h) h⟩
  | contactEnd => exact ⟨_, rfl, ite_keeps (endContact_keeps h) h⟩
  | openEnd => exact ⟨_, rfl, ite_keeps (endOpen_keeps h) h⟩
  | noContact => exact ⟨_, rfl, ite_keeps (takeFault_keeps h) h⟩
  | windowEnd => exact ⟨_, rfl, ite_keeps (endWindow_keeps h) h⟩
  | backoffLimit => exact ⟨_, rfl, ite_keeps (free_keeps h) h⟩
  | tUcExpiry => exact ⟨_, rfl, ite_keeps (leaveUpset_keeps (heatOver_keeps h)) h⟩
  | upsetLimit => exact ⟨_, rfl, ite_keeps (leaveUpset_keeps (endStroke_keeps h)) h⟩
  | holdTick => exact ⟨_, rfl, ite_keeps (I.activate _ (free_keeps h)) h⟩
  | holdTimerExpiry => exact ⟨_, rfl, ite_keeps (endHold_keeps h) h⟩
  | tensorSlow => exact ⟨_, rfl, ite_keeps (enterUnclamp_keeps (enterFault_keeps h)) h⟩
  | unclampSlow => exact ⟨_, rfl, ite_keeps (buildOutcome_keeps (hEnds rfl) (enterFault_keeps h)) h⟩
  | tick10ms => exact ⟨_, rfl, captureTick_keeps h⟩
  | announceFrame bytes => exact ⟨_, rfl, receive_keeps (hAccepts rfl) h⟩
  | claimFrame bytes => exact ⟨_, rfl, receive_keeps (hAccepts rfl) h⟩
  | yieldFrame bytes => exact ⟨_, rfl, receive_keeps (hAccepts rfl) h⟩
  | weldStart bytes => exact ⟨_, rfl, receive_keeps (hAccepts rfl) h⟩
  | weldStop bytes => exact ⟨_, rfl, receive_keeps (hAccepts rfl) h⟩
  | setClosureCall bytes => exact ⟨_, rfl, receive_keeps (hAccepts rfl) h⟩
  | letGoCall bytes => exact ⟨_, rfl, receive_keeps (hAccepts rfl) h⟩
  | unknownCallKind bytes => exact ⟨_, rfl, receive_keeps (hAccepts rfl) h⟩
  | answerFrame bytes => exact ⟨_, rfl, receive_keeps (hAccepts rfl) h⟩
  | haltFrame bytes => exact ⟨_, rfl, receive_keeps (hAccepts rfl) h⟩
  | clearFrame bytes => exact ⟨_, rfl, receive_keeps (hAccepts rfl) h⟩
  | duplicateStation bytes => exact ⟨_, rfl, receive_keeps (hAccepts rfl) h⟩
  | rowStale n => exact ⟨_, rfl, staleRow_keeps h⟩
  | rowEmpty n => exact ⟨_, rfl, emptyRow_keeps h⟩
  | announceTimer => exact ⟨_, rfl, announceTick_keeps h⟩
  | attemptStart n => exact ⟨_, rfl, beginAttempt_keeps h⟩
  | attemptWon => exact ⟨_, rfl, winAttempt_keeps h⟩
  | attemptLost => exact ⟨_, rfl, loseAttempt_keeps h⟩
  | callDeadline n => exact ⟨_, rfl, expireCall_keeps h⟩
  | settleTimerExpiry => exact ⟨_, rfl, ite_keeps (grantClaim_keeps h) h⟩
  | backoffTimerExpiry => exact ⟨_, rfl, ite_keeps (decideClaim_keeps (free_keeps h)) h⟩
  | shedTimerExpiry => exact ⟨_, rfl, ite_keeps (expireShed_keeps h) h⟩
  | powerDenied => exact ⟨_, rfl, ite_keeps (takeFault_keeps h) h⟩
  | tensorTimeout => exact ⟨_, rfl, ite_keeps (takeFault_keeps h) h⟩
  | tensorLost => exact ⟨_, rfl, ite_keeps (takeFault_keeps h) h⟩
  | commitEnd ok => cases hc
  | eraseEnd ok => cases hc
  | scheduleWriteEnd ok => cases hc
  | captureWriteEnd ok => cases hc
  | loadBankA t => cases hc
  | loadBankB t => cases hc
  | loadCapture t => cases hc
  | beginStaging t => cases hc
  | endStaging t => cases hc
  | selectRecord t => exact ⟨_, rfl, port_keeps (writeTransfer_port _ t s (wants_one (by decide))) h⟩
  | readData t => exact ⟨_, rfl, port_keeps (writeTransfer_port _ t s (wants_one (by decide))) h⟩
  | readStatus t => exact ⟨_, rfl, port_keeps (writeTransfer_port _ t s (wants_one (by decide))) h⟩
  | readFaults t => exact ⟨_, rfl, port_keeps (writeTransfer_port _ t s (wants_one (by decide))) h⟩
  | clearFaults t => cases hc
  | fetchDone => exact ⟨_, rfl, port_keeps (endFetch_port s) h⟩
  | readTransfer t => exact ⟨_, rfl, port_keeps (readTransfer_port t s) h⟩
  | clockLowTimeout => exact ⟨_, rfl, ite_keeps h (free_keeps h)⟩
  | unknownCommandKind t => exact ⟨_, rfl, port_keeps (writeTransfer_port _ t s wants_unknown) h⟩

end

/-! ### The commands that write the store -/

/-- R178: a commit that is tested changes the slot alone. -/
theorem tryCommit_eq (r : Rst) : r.tryCommit = { r with slot := r.tryCommit.slot } := by
  unfold Rst.tryCommit
  repeat' split
  all_goals rfl

@[simp] theorem tryCommit_blocks (r : Rst) : r.tryCommit.blocks = r.blocks := by rw [tryCommit_eq]
@[simp] theorem tryCommit_nextWeld (r : Rst) : r.tryCommit.nextWeld = r.nextWeld := by rw [tryCommit_eq]
@[simp] theorem tryCommit_writePos (r : Rst) : r.tryCommit.writePos = r.writePos := by rw [tryCommit_eq]
@[simp] theorem tryCommit_erase (r : Rst) : r.tryCommit.erase = r.erase := by rw [tryCommit_eq]
@[simp] theorem tryCommit_log (r : Rst) : r.tryCommit.log = r.log := by rw [tryCommit_eq]

/-- R179: the erase-ahead test changes the erase in progress alone. -/
theorem testErase_eq (r : Rst) : r.testErase = { r with erase := r.testErase.erase } := by
  unfold Rst.testErase
  repeat' split
  all_goals rfl

@[simp] theorem testErase_slot (r : Rst) : r.testErase.slot = r.slot := by rw [testErase_eq]
@[simp] theorem testErase_blocks (r : Rst) : r.testErase.blocks = r.blocks := by rw [testErase_eq]
@[simp] theorem testErase_nextWeld (r : Rst) : r.testErase.nextWeld = r.nextWeld := by rw [testErase_eq]
@[simp] theorem testErase_writePos (r : Rst) : r.testErase.writePos = r.writePos := by rw [testErase_eq]
@[simp] theorem testErase_log (r : Rst) : r.testErase.log = r.log := by rw [testErase_eq]

theorem place_eq (w : WeldRecord) (r : Rst) : r.place w = { r with slot := (r.place w).slot } := tryCommit_eq _

theorem lineReset_log (r : Rst) : r.lineReset.log = r.log := by
  unfold Rst.lineReset
  split <;> rfl


/-- The ring, the slot, the next number and the fault log of the store stand. -/
structure SameRing (r r' : Rst) : Prop where
  blocks   : r'.blocks = r.blocks
  slot     : r'.slot = r.slot
  nextWeld : r'.nextWeld = r.nextWeld
  log      : r'.log = r.log

/-- An invariant that no write of the settings area touches, nor a capture program that takes effect. -/
structure SettingsFree (I : Invariant) : Prop where
  store : ∀ {s : State} {r : Rst}, I.Holds s → SameRing s.rst r → I.Holds { s with rst := r }
  /-- Trace memory in its canonical form. -/
  cap   : ∀ {s : State} (x : Cap), I.Holds s → (s.cap.memory.wf = true → x.memory.wf = true) →
    I.Holds { s with cap := x }

/-- The operations on the settings area (R25 to R27, R171, R172) keep `I`. -/
structure SettingsRules (I : Invariant) : Prop where
  bank        : ∀ {s : State} {n : BankName} {image : List Byte}, I.Holds s → I.Holds (installBank n image s)
  capture     : ∀ {s : State} {image : List Byte}, I.Holds s → I.Holds (installCapture image s)
  scheduleEnd : ∀ {s : State} {ok : Bool}, I.Holds s → I.Holds (endScheduleWrite ok s)
  captureEnd  : ∀ {s : State} {ok : Bool}, I.Holds s → I.Holds (endCaptureWrite ok s)

/-- R184: the fault log cleared keeps `I`. -/
def Clears (I : Invariant) : Prop := ∀ s : State, I.Holds s → I.Holds { s with rst := { s.rst with log := {} } }

theorem mapBank_ring (n : BankName) (f : Bank → Bank) (r : Rst) : SameRing r (r.mapBank n f) := by
  cases n <;> exact ⟨rfl, rfl, rfl, rfl⟩

/-- A write of the settings area under way, or over, changes nothing else of the store. -/
theorem SameRing.settings {r r' : Rst} (h : SameRing r r') {w : Option SettingsWrite} {x : ScheduleBlock} {y : StoredImage} :
    SameRing r { r' with write := w, scheduleBlock := x, captureBlock := y } := ⟨h.blocks, h.slot, h.nextWeld, h.log⟩

section
variable {I : Invariant} {s : State}

theorem failWrite_keeps {n : Nat} (h : I.Holds s) : I.Holds (failWrite n s) := free_keeps (logFault_keeps h)

/-- An update of the settings area, and of the blocks that no invariant reads. -/
theorem SettingsFree.write (hI : SettingsFree I) {t : State} (h : I.Holds s) (hring : SameRing s.rst t.rst)
    (hctx : t.ctx = s.ctx := by rfl) (hlnp : t.lnp = s.lnp := by rfl) (hcap : t.cap = s.cap := by rfl)
    (hpending : t.pending = s.pending := by rfl) : I.Holds t := by
  have hstore : I.Holds { s with rst := t.rst } := hI.store h hring
  exact free_keeps hstore hctx hlnp hcap rfl hpending

theorem checkSettings_keeps (hI : SettingsFree I) (h : I.Holds s) : I.Holds (checkSettings s) := by
  have hbad {x : State} {n : Nat} {b : Bool} (hx : I.Holds x) : I.Holds (settingsBad n b x) :=
    ite_keeps (logFault_keeps hx) hx
  have hcap : I.Holds { s with cap := s.cap.takeProgram (programOfStored s.rst.captureBlock) } :=
    hI.cap _ h fun _ => takeProgram_memory ..
  exact hbad (hbad (hbad (hI.store hcap ⟨rfl, rfl, rfl, rfl⟩)))

theorem SettingsFree.rules (hI : SettingsFree I) : SettingsRules I where
  bank h := by
    refine ite_keeps (free_keeps h) (ite_keeps (free_keeps h) ?_)
    split
    · exact free_keeps h
    · exact hI.write h (mapBank_ring ..).settings
  capture h := by
    refine ite_keeps (free_keeps h) (ite_keeps (free_keeps h) ?_)
    split
    · exact free_keeps h
    · exact hI.write h ⟨rfl, rfl, rfl, rfl⟩
  scheduleEnd h := by
    unfold endScheduleWrite
    split
    · exact ite_keeps (hI.write h (mapBank_ring ..).settings) (failWrite_keeps (hI.write h (mapBank_ring ..).settings))
    · exact h
  captureEnd {s _} h := by
    have hprogram {x : State} {p : Program} (hx : I.Holds x) : I.Holds (programWritten p x) :=
      ite_keeps (hI.cap _ hx id) (hI.cap _ hx fun _ => takeProgram_memory ..)
    unfold endCaptureWrite
    split
    · refine ite_keeps (free_keeps (hprogram ?_)) (failWrite_keeps (hI.write h ⟨rfl, rfl, rfl, rfl⟩))
      exact hI.store (r := { s.rst with write := none, captureBlock := _ }) h ⟨rfl, rfl, rfl, rfl⟩
    · exact h

end

section
variable {I : Invariant} {s : State} (hI : SettingsRules I)
include hI

theorem handOver_keeps {g : Staging} (h : I.Holds s) : I.Holds (handOver g s) := by
  unfold handOver
  dsimp only
  split
  · exact hI.bank (free_keeps h)
  · exact hI.bank (free_keeps h)
  · exact hI.capture (free_keeps h)

theorem loadTransfer_keeps {k : LoadKind} {c : SvpCommand} (h : I.Holds s) : I.Holds (loadTransfer k c s) := by
  have happend {x : State} {g : Staging} {data : List Byte} {ends : Bool} (hx : I.Holds x) :
      I.Holds (appendStaging g data ends x) :=
    ite_keeps (free_keeps hx) (ite_keeps (handOver_keeps hI hx) (free_keeps hx))
  refine ite_keeps (happend (free_keeps h)) ?_
  split
  · exact ite_keeps (happend h) (free_keeps h)
  · exact free_keeps h

theorem carryOut_keeps {c : SvpCommand} (hClears : c.kind = 8 → Clears I) (h : I.Holds s) : I.Holds (carryOut c s) := by
  by_cases h1 : c.kind = 1
  · simpa only [carryOut, h1] using loadTransfer_keeps hI h
  by_cases h2 : c.kind = 2
  · simpa only [carryOut, h2] using loadTransfer_keeps hI h
  by_cases h3 : c.kind = 3
  · simpa only [carryOut, h3] using loadTransfer_keeps hI h
  by_cases h8 : c.kind = 8
  · have hclear : I.Holds (clearLog s) := ite_keeps (announceChange_keeps (hClears h8 _ h)) (hClears h8 _ h)
    have hcleared : I.Holds (clearFaultLog s) := free_keeps hclear
    simpa only [carryOut, h8] using hcleared
  exact port_keeps (carryOut_port c s h1 h2 h3 h8) h

theorem writeTransfer_keeps {want : Byte → Bool} {t : WriteTransfer}
    (hClears : ∀ b, want b = true → commandKind b = 8 → Clears I) (h : I.Holds s) :
    I.Holds (writeTransfer want t s) := by
  rcases writeTransfer_cases want t s with hport | ⟨b, c, p, hb, hkind, hout⟩
  · exact port_keeps hport h
  · exact hout ▸ carryOut_keeps hI (fun h8 => hClears b hb (hkind ▸ h8)) (free_keeps h)

/-- What the meaning of a command other than the resets and the ends of a program and an erase works out, before the
gate. -/
theorem exec_keeps_settings {c : Instr} (hEnds : mayEnd c = true → Ends I) (hAccepts : takesFrame c = true → Accepts I)
    (hClears : clearsLog c = true → Clears I) (hc : writesRing c = false) (h : I.Holds s) :
    ∃ x, exec c s = finish x ∧ I.Holds x := by
  by_cases hstore : writesStore c = false
  · exact exec_keeps hEnds hAccepts hstore h
  cases c
  case scheduleWriteEnd ok => exact ⟨_, rfl, hI.scheduleEnd h⟩
  case captureWriteEnd ok => exact ⟨_, rfl, hI.captureEnd h⟩
  case loadBankA x => exact ⟨_, rfl, writeTransfer_keeps hI (fun b hb h8 => by simp [h8] at hb) h⟩
  case loadBankB x => exact ⟨_, rfl, writeTransfer_keeps hI (fun b hb h8 => by simp [h8] at hb) h⟩
  case loadCapture x => exact ⟨_, rfl, writeTransfer_keeps hI (fun b hb h8 => by simp [h8] at hb) h⟩
  case beginStaging x => exact ⟨_, rfl, writeTransfer_keeps hI (fun b hb h8 => by simp [h8, isLoadKind] at hb) h⟩
  case endStaging x => exact ⟨_, rfl, writeTransfer_keeps hI (fun b hb h8 => by simp [h8, isLoadKind] at hb) h⟩
  case clearFaults x => exact ⟨_, rfl, writeTransfer_keeps hI (fun _ _ _ => hClears rfl) h⟩
  case supplyReset | lineReset | commitEnd | eraseEnd => cases hc
  all_goals exact absurd rfl hstore

/-- What a step leaves when nothing but the commands on the ring needs an argument of its own. -/
theorem step_keeps_settings (hClears : Clears I)
    (hpending : ∀ {s : State} (q : List Instr), I.Holds s → I.Holds { s with pending := q })
    (hEnds : Ends I) (hAccepts : Accepts I)
    (hring : ∀ {x : State} {c : Instr}, writesRing c = true → I.Holds x → ∃ y, exec c x = finish y ∧ I.Holds y)
    {t : State} (hout : step s = .next t) (h : I.Holds s) : I.Holds t := by
  rcases step_cases hout with rfl | ⟨c, rest, -, hexec⟩
  · exact h
  have hx : ∃ y, exec c { s with pending := rest } = finish y ∧ I.Holds y := by
    by_cases hc : writesRing c = true
    · exact hring hc (hpending rest h)
    · exact exec_keeps_settings hI (fun _ => hEnds) (fun _ => hAccepts) (fun _ => hClears) (by simpa using hc)
        (hpending rest h)
  obtain ⟨y, hy, hkept⟩ := hx
  exact Host.Outcome.next.inj (hy.symm.trans hexec) ▸ gateCurrent_keeps hkept

end

/-- An invariant that reads of the store its fault log alone, and of the capture its memory alone. -/
structure StoreFree (I : Invariant) : Prop where
  store : ∀ {s : State} {r : Rst}, I.Holds s → r.log = s.rst.log → I.Holds { s with rst := r }
  /-- Trace memory in its canonical form. -/
  cap   : ∀ {s : State} (x : Cap), I.Holds s → (s.cap.memory.wf = true → x.memory.wf = true) →
    I.Holds { s with cap := x }
  /-- A weld context that ends, or begins with a fault list within its bounds. -/
  ctx   : ∀ {s : State} (x : Option WeldCtx), I.Holds s → faultsOk x = true → I.Holds { s with ctx := x }

theorem StoreFree.settings {I : Invariant} (hI : StoreFree I) : SettingsFree I where
  store h hring := hI.store h hring.log
  cap := hI.cap

section
variable {I : Invariant} {s : State} (hI : StoreFree I)
include hI

theorem StoreFree.ends : Ends I := by
  intro s h
  have hhanded : I.Holds (handRecord s) := by
    unfold handRecord
    split
    · exact h
    · exact hI.store h (by rw [place_eq])
  unfold endContext
  split
  · exact hhanded
  · have hcap : I.Holds { handRecord s with cap := { (handRecord s).cap.takeWaiting with tick := none } } :=
      hI.cap _ hhanded (takeWaiting_memory _)
    exact free_keeps (hI.ctx none hcap faultsOk_none)

theorem StoreFree.accepts : Accepts I := by
  intro bank mode args s h _ _ _
  have hcap : I.Holds { s with cap := s.cap.accept } := hI.cap _ h fun _ => accept_memory _
  have hctx : I.Holds { s with cap := s.cap.accept, ctx := some (newContext bank mode args s) } :=
    hI.ctx _ hcap (by simp [faultsOk, newContext])
  exact free_keeps (hI.store (r := { s.rst with nextWeld := s.rst.nextWeld + 1 }) hctx rfl)

/-- The blocks that a reset leaves: no weld, and a line and a trace within their bounds. -/
theorem StoreFree.reset {t : State} (h : I.Holds s) (hctx : t.ctx = none) (hline : BoundsKept s.lnp t.lnp)
    (hcap : s.cap.memory.wf = true → t.cap.memory.wf = true) (hlog : t.rst.log = s.rst.log)
    (hpending : t.pending = s.pending) : I.Holds t := by
  have hended : I.Holds { s with ctx := none } := hI.ctx none h faultsOk_none
  have hlined : I.Holds { s with ctx := none, lnp := t.lnp } := I.line hended hline
  exact free_keeps (hI.store (r := t.rst) (hI.cap t.cap hlined hcap) hlog) hctx rfl rfl rfl hpending

theorem markBad_keeps {n : Nat} (h : I.Holds s) : I.Holds (markBad n s) :=
  hI.store (logFault_keeps (hI.store h rfl)) (by rw [testErase_eq])

theorem endCommit_keeps {ok : Bool} (h : I.Holds s) : I.Holds (endCommit ok s) := by
  unfold endCommit
  split
  · exact ite_keeps h (ite_keeps (hI.store h (by rw [testErase_eq]; rfl))
      (hI.store (markBad_keeps hI (hI.store h rfl)) (by rw [tryCommit_eq])))
  · exact h

theorem endErase_keeps {ok : Bool} (h : I.Holds s) : I.Holds (endErase ok s) := by
  unfold endErase
  split
  · exact h
  · exact ite_keeps (hI.store h (by rw [testErase_eq, tryCommit_eq]; rfl))
      (hI.store (markBad_keeps hI (hI.store h rfl)) (by rw [tryCommit_eq]))

/-- An invariant that does not read the store but for its log is kept by every command, the two that clear the log
included where that keeps it. -/
theorem exec_keeps_all {t : State} {c : Instr} (hClears : clearsLog c = true → Clears I) (hout : exec c s = .next t)
    (h : I.Holds s) : I.Holds t := by
  have hfinish {x : State} (hx : exec c s = finish x) (hkept : I.Holds x) : I.Holds t :=
    Host.Outcome.next.inj (hx.symm.trans hout) ▸ gateCurrent_keeps hkept
  by_cases hc : writesRing c = false
  · obtain ⟨x, hx, hkept⟩ :=
      exec_keeps_settings hI.settings.rules (fun _ => hI.ends) (fun _ => hI.accepts) hClears hc h
    exact hfinish hx hkept
  cases c
  case supplyReset w =>
    have hreset : I.Holds (powerUp w s) :=
      hI.reset (hClears rfl _ h) rfl ⟨fun _ => queueOk_nil, fun _ => callsOk_nil⟩ (fun _ => rfl) rfl rfl
    exact hfinish rfl (checkSettings_keeps hI.settings (hI.store hreset (by rw [testErase_eq]; rfl)))
  case lineReset =>
    exact hfinish rfl (hI.reset h (t := resetLine s) rfl ⟨fun _ => queueOk_nil, fun _ => callsOk_nil⟩
      (takeWaiting_memory _) (lineReset_log _) rfl)
  case commitEnd ok => exact hfinish rfl (endCommit_keeps hI h)
  case eraseEnd ok => exact hfinish rfl (endErase_keeps hI h)
  all_goals exact absurd rfl hc

end

/-! ### The queue of commands -/

/-- The queue of commands stands. -/
def pendingInvariant (q : List Instr) : Invariant where
  Holds s := s.pending = q
  free h _ _ _ _ hp := hp.trans h
  ctx h _ := h
  fault _ _ h _ := h
  activate src h := (activate_pending src _).trans h
  tick _ h := h
  filed _ h := h
  line h _ := h

theorem pendingInvariant_storeFree (q : List Instr) : StoreFree (pendingInvariant q) where
  store h _ := h
  cap _ h _ := h
  ctx _ h _ := h

/-- Every meaning ends in a next state. -/
theorem exec_finishes (c : Instr) (s : State) : ∃ t, exec c s = .next t := by
  cases c <;> exact ⟨_, rfl⟩

/-- Settles O2: every meaning ends in `finish`, and no small update writes the queue of commands. -/
theorem everyCommandCompletes : Obligations.EveryCommandCompletes := by
  intro c s
  obtain ⟨t, hout⟩ := exec_finishes c s
  exact ⟨t, hout, exec_keeps_all (pendingInvariant_storeFree s.pending) (fun _ _ h => h) hout rfl⟩

/-! ### The line and the trace -/

/-- R148, R150: the queue and the calls within their bounds. -/
def lineInvariant : Invariant where
  Holds s := queueOk s.lnp.queue = true ∧ callsOk s.lnp.calls = true
  free h _ hl _ _ _ := by rwa [hl]
  ctx h _ := h
  fault _ _ h _ := h
  activate _ h := by simpa using h
  tick _ h := h
  filed _ h := h
  line h hl := ⟨hl.queue h.1, hl.calls h.2⟩

theorem lineInvariant_storeFree : StoreFree lineInvariant where
  store h _ := h
  cap _ h _ := h
  ctx _ h _ := h

theorem lineFits_iff (s : State) : LineFits s ↔ lineInvariant.Holds s := by
  simp only [lineInvariant, queueOk, callsOk, Bool.and_eq_true, decide_eq_true_eq]
  exact ⟨fun h => ⟨⟨h.queue, h.announce⟩, h.calls, h.dests⟩, fun h => ⟨h.1.1, h.1.2, h.2.1, h.2.2⟩⟩

/-- Trace memory in its canonical form. -/
def traceInvariant : Invariant where
  Holds s := TraceFits s
  free h _ _ hc _ _ := by unfold TraceFits; rw [hc]; exact h
  ctx h _ := h
  fault _ _ h _ := h
  activate src h := activate_memory src _ h
  tick _ h := h
  filed _ h := h
  line h _ := h

theorem traceInvariant_storeFree : StoreFree traceInvariant where
  store h _ := h
  cap _ h hx := hx h
  ctx _ h _ := h

/-! ### The fault list -/

/-- R71: the fault list of the weld context within its bounds. -/
def listInvariant : Invariant where
  Holds s := faultsOk s.ctx = true
  free h hctx _ _ _ _ := by rwa [hctx]
  ctx h hf := (faultsOk_map _ _ fun c => (hf c).faults).trans h
  fault k p h hc := addFault_ok k p _ (hc ▸ h)
  activate src h := (activate_ctx_faults src _).trans h
  tick _ h := h
  filed _ h := h
  line h _ := h

theorem listInvariant_storeFree : StoreFree listInvariant where
  store h _ := h
  cap _ h _ := h
  ctx _ _ hx := hx

theorem listFits_iff (s : State) : ListFits s ↔ listInvariant.Holds s := by
  simp only [listInvariant, faultsOk, Option.all_eq_true, Bool.and_eq_true, decide_eq_true_eq, List.all_eq_true]
  exact ⟨fun h c hc => ⟨⟨h.length c hc, h.kinds c hc⟩, h.counts c hc⟩,
    fun h => ⟨fun c hc => (h c hc).1.1, fun c hc => (h c hc).1.2, fun c hc => (h c hc).2⟩⟩

/-- An invariant that does not read the store and the queue of commands is kept by every step. -/
theorem step_keeps {I : Invariant} (hI : StoreFree I) (hClears : Clears I)
    (hpending : ∀ {s : State} (q : List Instr), I.Holds s → I.Holds { s with pending := q }) {s t : State}
    (hout : step s = .next t) (h : I.Holds s) : I.Holds t := by
  rcases step_cases hout with rfl | ⟨c, rest, -, hexec⟩
  · exact h
  · exact exec_keeps_all hI (fun _ => hClears) hexec (hpending rest h)

/-- A kind is listed where the search for it finds its entry, the only one of that kind. -/
theorem find?_kind_some {k : FaultKind} {fs : List FaultEntry} {e : FaultEntry} (hn : (fs.map (·.kind)).Nodup)
    (h : fs.find? (fun e => e.kind == k) = some e) : e ∈ fs ∧ e.kind = k ∧ ∀ x ∈ fs, x.kind = k → x = e := by
  have hmem := List.mem_of_find?_eq_some h
  have hkind : e.kind = k := by simpa using List.find?_some h
  exact ⟨hmem, hkind, fun x hx hxk => List.inj_on_of_nodup_map hn hx hmem (hxk.trans hkind.symm)⟩

/-- R71: a kind that is listed already. -/
theorem addFault_again {k : FaultKind} {p : SeqState} {c : WeldCtx} {e : FaultEntry} (hn : (c.faults.map (·.kind)).Nodup)
    (h : c.faults.find? (fun e => e.kind == k) = some e) :
    c.addFault k p = ({ c with faults := c.faults.map (fun e =>
      if e.kind = k then { e with count := if e.count < 255 then e.count + 1 else e.count } else e) },
      decide (e.count < 255)) := by
  obtain ⟨-, -, honly⟩ := find?_kind_some hn h
  simp only [WeldCtx.addFault, h]
  split
  next hlt =>
    have hmap : c.faults.map (fun e => if e.kind == k then { e with count := e.count + 1 } else e)
        = c.faults.map (fun e => if e.kind = k then { e with count := if e.count < 255 then e.count + 1 else e.count } else e) :=
      List.map_congr_left fun x hx => by
        by_cases hxk : x.kind = k
        · simp [honly x hx hxk, hlt]
        · simp [hxk]
    rw [hmap, decide_eq_true hlt]
  next hge =>
    have hmap : c.faults.map (fun e => if e.kind = k then { e with count := if e.count < 255 then e.count + 1 else e.count } else e)
        = c.faults :=
      (List.map_congr_left fun x hx => by
        by_cases hxk : x.kind = k
        · rw [if_pos hxk, honly x hx hxk, if_neg hge]
        · rw [if_neg hxk]).trans (List.map_id' _)
    rw [hmap, decide_eq_false hge]

/-- R71: a kind that is not listed. -/
theorem addFault_new {k : FaultKind} {p : SeqState} {c : WeldCtx} (h : c.faults.find? (fun e => e.kind == k) = none) :
    c.addFault k p = if c.faults.length < 8 then
        ({ c with faults := c.faults ++ [{ kind := k, phase := p, count := 1 }] }, true)
      else ({ c with overflow := true }, false) := by
  simp only [WeldCtx.addFault, h]

/-- R71: the three ways a kind is taken, each with whether FAULT is raised. -/
theorem addFault_listed (k : FaultKind) (p : SeqState) (c : WeldCtx) (hn : (c.faults.map (·.kind)).Nodup) :
    FaultListed k p c (c.addFault k p).1
    ∧ ((c.addFault k p).2 = true ↔ (∃ e ∈ c.faults, e.kind = k ∧ e.count < 255)
      ∨ (k ∉ c.faults.map (·.kind) ∧ c.faults.length < 8)) := by
  cases hfind : c.faults.find? (fun e => e.kind == k) with
  | some e =>
    obtain ⟨hmem, hkind, honly⟩ := find?_kind_some hn hfind
    have hlisted : k ∈ c.faults.map (·.kind) := List.mem_map.mpr ⟨e, hmem, hkind⟩
    rw [addFault_again hn hfind]
    refine ⟨⟨fun _ => rfl, fun hnot => absurd hlisted hnot, fun hnot => absurd hlisted hnot⟩, ?_⟩
    rw [decide_eq_true_eq]
    refine ⟨fun hlt => .inl ⟨e, hmem, hkind, hlt⟩, ?_⟩
    rintro (⟨x, hx, hxk, hlt⟩ | ⟨hnot, -⟩)
    · exact honly x hx hxk ▸ hlt
    · exact absurd hlisted hnot
  | none =>
    have hnot : k ∉ c.faults.map (·.kind) := by simpa using hfind
    have hno : ¬∃ e ∈ c.faults, e.kind = k ∧ e.count < 255 :=
      fun ⟨e, he, hk, _⟩ => hnot (List.mem_map.mpr ⟨e, he, hk⟩)
    rw [addFault_new hfind]
    split
    next hroom =>
      exact ⟨⟨fun hin => absurd hin hnot, fun _ _ => rfl, fun _ hfull => absurd hroom (by omega)⟩,
        fun _ => .inr ⟨hnot, hroom⟩, fun _ => rfl⟩
    next hfull =>
      exact ⟨⟨fun hin => absurd hin hnot, fun _ hroom => absurd hroom hfull, fun _ _ => rfl⟩,
        fun hraised => absurd hraised Bool.false_ne_true, fun hor => absurd hor (not_or.mpr ⟨hno, fun hr => hfull hr.2⟩)⟩

/-- Settles O55: the line and the fault list are invariants that read neither the store nor the queue of commands, and a
kind is taken in the three ways of R71. -/
theorem everyStepKeepsQueueCallsAndFaultList : Obligations.EveryStepKeepsQueueCallsAndFaultList := by
  refine ⟨fun s t h hout => ?_, addFault_listed, fun s t h hout => ?_⟩
  · exact (lineFits_iff t).mpr (step_keeps lineInvariant_storeFree (fun _ h => h) (fun _ h => h) hout ((lineFits_iff s).mp h))
  · exact (listFits_iff t).mpr (step_keeps listInvariant_storeFree (fun _ h => h) (fun _ h => h) hout ((listFits_iff s).mp h))

end Sys2Proof.Proofs.Steps

/-! The fault log through every command (R183), and the statement FirstFaultStandsUntilCleared. -/
namespace Sys2Proof.Proofs.FaultLogs
open Sys2Proof Sys2Proof.Machine Sys2Proof.Proofs.Invariants Sys2Proof.Proofs.Steps

set_option Elab.async false

/-- R183: the counts of a log after a fault is filed in one that holds its first. -/
theorem file_counts (f : FirstFault) (log : FaultLog) (h : log.first.isSome = true) :
    log.file f = { log with
      counts := log.counts.set (f.kind.code - 1) (min (log.counts.getD (f.kind.code - 1) 0 + 1) 255) } := by
  unfold FaultLog.file
  split
  next hnone => rw [hnone] at h; cases h
  next => rfl

theorem file_empty (f : FirstFault) (log : FaultLog) (h : log.first = none) :
    log.file f = { first := some f, counts := log.counts } := by
  simp [FaultLog.file, h]

theorem kind_code_bounds (k : FaultKind) : 1 ≤ k.code ∧ k.code ≤ 35 := by
  cases k <;> decide

/-- What setting one count does to each of them. -/
theorem getD_set (xs : List Nat) (n i v : Nat) :
    (xs.set n v).getD i 0 = if i = n ∧ n < xs.length then v else xs.getD i 0 := by
  simp only [List.getD_eq_getElem?_getD, List.getElem?_set]
  split
  next h => subst h; split <;> simp_all
  next h => rw [if_neg fun hi => h hi.1.symm]

/-- R183: what a log keeps while it is not cleared: its first fault, and counts that only rise, up to 255. -/
structure LogGrown (a b : FaultLog) : Prop where
  first  : ∀ f, a.first = some f → b.first = some f
  counts : ∀ i, a.counts.getD i 0 ≤ 255 → a.counts.getD i 0 ≤ b.counts.getD i 0 ∧ b.counts.getD i 0 ≤ 255

theorem LogGrown.refl (a : FaultLog) : LogGrown a a := ⟨fun _ h => h, fun _ h => ⟨le_refl _, h⟩⟩

theorem LogGrown.file {a b : FaultLog} (h : LogGrown a b) (f : FirstFault) : LogGrown a (b.file f) := by
  refine ⟨fun g hg => file_first_some f g b (h.first g hg), fun i hi => ?_⟩
  obtain ⟨hle, hmax⟩ := h.counts i hi
  cases hfirst : b.first with
  | none => rw [file_empty f b hfirst]; exact ⟨hle, hmax⟩
  | some g =>
    rw [file_counts f b (by simp [hfirst])]
    dsimp only
    rw [getD_set]
    split
    next heq => obtain ⟨rfl, -⟩ := heq; omega
    next => exact ⟨hle, hmax⟩

/-- The fault log as it stood, with whatever has been filed since. -/
def logInvariant (log : FaultLog) : Invariant where
  Holds s := LogGrown log s.rst.log
  free h _ _ _ hr _ := by rw [hr]; exact h
  ctx h _ := h
  fault _ _ h _ := h
  activate src h := by rw [activate_rst]; exact h
  tick _ h := h
  filed f h := h.file f
  line h _ := h

theorem logInvariant_storeFree (log : FaultLog) : StoreFree (logInvariant log) where
  store {s r} h hlog := show LogGrown log r.log by rw [hlog]; exact h
  cap _ h _ := h
  ctx _ h _ := h

/-- Settles O58: every command but the two that clear the log only files faults in it. -/
theorem firstFaultStandsUntilCleared : Obligations.FirstFaultStandsUntilCleared := by
  refine ⟨fun c s t hout hreset hclear => ?_, fun f log hlength => ⟨file_empty f log, fun hfirst => ?_⟩⟩
  · have hkeeps : clearsLog c = true → Clears (logInvariant s.rst.log) := by
      intro hc
      cases c
      case supplyReset w => exact absurd rfl (hreset w)
      case clearFaults w => exact absurd rfl (hclear w)
      all_goals cases hc
    obtain ⟨hfirst, hcounts⟩ :=
      exec_keeps_all (logInvariant_storeFree s.rst.log) hkeeps hout (LogGrown.refl s.rst.log)
    exact ⟨hfirst, hcounts⟩
  · rw [file_counts f log hfirst]
    obtain ⟨hlow, hhigh⟩ := kind_code_bounds f.kind
    refine ⟨rfl, by simpa using hlength, fun i => ?_⟩
    dsimp only
    rw [getD_set]
    by_cases hi : i + 1 = f.kind.code
    · rw [if_pos (by omega), if_pos hi, ← hi, Nat.add_sub_cancel]
    · rw [if_neg (by omega), if_neg hi]

end Sys2Proof.Proofs.FaultLogs

/-! The weld numbers through every command (R178, R181), and the statement EveryStepKeepsRecordsAndTrace. -/
namespace Sys2Proof.Proofs.Records
open Sys2Proof Sys2Proof.Machine Sys2Proof.Proofs.Invariants Sys2Proof.Proofs.Steps

set_option Elab.async false

/-! ### The blocks of the ring -/

/-- A record is held in some block of the ring, and read there. -/
theorem held_mem_iff (r : Rst) (w : WeldRecord) : .held (some w) ∈ r.blocks ↔ ∃ n, r.block n = .held (some w) := by
  constructor
  · intro h
    obtain ⟨n, hn, hw⟩ := List.getElem_of_mem h
    exact ⟨n, by simp [Rst.block, List.getD_eq_getElem?_getD, List.getElem?_eq_getElem hn, hw]⟩
  · rintro ⟨n, hn⟩
    rw [Rst.block, List.getD_eq_getElem?_getD] at hn
    cases hget : r.blocks[n]? with
    | none => rw [hget] at hn; cases hn
    | some b =>
      rw [hget, Option.getD_some] at hn
      exact hn ▸ List.mem_of_getElem? hget

/-- What setting one block does to each of them. -/
theorem block_setBlock (r : Rst) (n m : Nat) (b : Block) :
    (r.setBlock n b).block m = if m = n ∧ n < r.blocks.length then b else r.block m := by
  simp only [Rst.block, Rst.setBlock, List.getD_eq_getElem?_getD, List.getElem?_set]
  split
  next h => subst h; split <;> simp_all
  next h => rw [if_neg fun hi => h hi.1.symm]

/-- A block that is set to no record holds none. -/
theorem held_of_setBlock {r : Rst} {n m : Nat} {b : Block} {w : WeldRecord} (hb : b ≠ .held (some w))
    (h : (r.setBlock n b).block m = .held (some w)) : r.block m = .held (some w) := by
  rw [block_setBlock] at h
  split at h
  · exact absurd h hb
  · exact h

/-! ### The newest block and the scan -/

/-- R181: the better of the newest block so far and the next one. -/
def newer (best : Option (Nat × Nat)) (x : Nat × Option Nat) : Option (Nat × Nat) :=
  match x.2, best with
  | some w, some (_, v) => if v < w then some (x.1, w) else best
  | some w, none => some (x.1, w)
  | none, _ => best

theorem newestBlock_eq (blocks : List Block) :
    newestBlock blocks
      = (blocks.mapIdx (fun n b => (n, b.record?.map (·.weldNumber)))).foldl newer none := rfl

/-- The fold of `newer` answers one of its candidates, and none of them is above it. -/
theorem foldl_newer (xs : List (Nat × Option Nat)) (best : Option (Nat × Nat)) :
    (∀ n w, xs.foldl newer best = some (n, w) → best = some (n, w) ∨ (n, some w) ∈ xs)
    ∧ ∀ n w, best = some (n, w) ∨ (n, some w) ∈ xs → ∃ m v, xs.foldl newer best = some (m, v) ∧ w ≤ v := by
  induction xs generalizing best with
  | nil => exact ⟨fun n w h => .inl h, fun n w h => ⟨n, w, h.resolve_right List.not_mem_nil, le_refl w⟩⟩
  | cons x xs ih =>
    obtain ⟨hfrom, habove⟩ := ih (newer best x)
    have hnewer : (∀ n w, newer best x = some (n, w) → best = some (n, w) ∨ (n, some w) = x)
        ∧ ∀ n w, best = some (n, w) ∨ (n, some w) = x → ∃ m v, newer best x = some (m, v) ∧ w ≤ v := by
      obtain ⟨i, o⟩ := x
      rcases o with _ | u <;> rcases best with _ | ⟨m, v⟩ <;> simp [newer]
      split <;> simp <;> omega
    refine ⟨fun n w h => ?_, fun n w h => ?_⟩
    · rcases hfrom n w h with hbest | hmem
      · exact (hnewer.1 n w hbest).imp_right fun hx => by rw [hx]; exact List.mem_cons_self
      · exact .inr (List.mem_cons_of_mem _ hmem)
    · rcases h with hbest | hmem
      · obtain ⟨m, v, hm, hle⟩ := hnewer.2 n w (.inl hbest)
        obtain ⟨m', v', hm', hle'⟩ := habove m v (.inl hm)
        exact ⟨m', v', hm', hle.trans hle'⟩
      · rcases List.mem_cons.mp hmem with hx | hx
        · obtain ⟨m, v, hm, hle⟩ := hnewer.2 n w (.inr hx)
          obtain ⟨m', v', hm', hle'⟩ := habove m v (.inl hm)
          exact ⟨m', v', hm', hle.trans hle'⟩
        · exact habove n w (.inr hx)

/-- What the newest block is chosen from: the blocks that hold a record, each with its number. -/
theorem mem_numbered_iff (blocks : List Block) (n w : Nat) :
    (n, some w) ∈ blocks.mapIdx (fun n b => (n, b.record?.map (·.weldNumber)))
      ↔ ∃ r, blocks[n]? = some (.held (some r)) ∧ r.weldNumber = w := by
  simp only [List.mem_mapIdx, Prod.mk.injEq]
  constructor
  · rintro ⟨i, hi, rfl, hw⟩
    obtain ⟨r, hr, hn⟩ := Option.map_eq_some_iff.mp hw
    refine ⟨r, ?_, hn⟩
    rw [List.getElem?_eq_getElem hi]
    cases hb : blocks[i] <;> simp_all [Block.record?]
  · rintro ⟨r, hr, rfl⟩
    obtain ⟨hi, hget⟩ := List.getElem?_eq_some_iff.mp hr
    exact ⟨n, hi, rfl, by simp [hget, Block.record?]⟩

/-- R181, R188: the newest block holds the highest weld number. -/
theorem newestBlock_some (blocks : List Block) (n w : Nat) (h : newestBlock blocks = some (n, w)) :
    (∃ r, blocks[n]? = some (.held (some r)) ∧ r.weldNumber = w)
    ∧ ∀ r, .held (some r) ∈ blocks → r.weldNumber ≤ w := by
  rw [newestBlock_eq] at h
  obtain ⟨hfrom, habove⟩ := foldl_newer (blocks.mapIdx (fun n b => (n, b.record?.map (·.weldNumber)))) none
  refine ⟨(mem_numbered_iff blocks n w).mp ((hfrom n w h).resolve_left (by simp)), fun r hr => ?_⟩
  obtain ⟨i, hi⟩ := List.mem_iff_getElem?.mp hr
  obtain ⟨m, v, hm, hle⟩ := habove i r.weldNumber (.inr ((mem_numbered_iff blocks i _).mpr ⟨r, hi, rfl⟩))
  rw [hm] at h
  obtain ⟨-, rfl⟩ := Prod.mk.inj (Option.some.inj h)
  exact hle

/-- R181: there is no newest block exactly where no block holds a record. -/
theorem newestBlock_none_iff (blocks : List Block) :
    newestBlock blocks = none ↔ ∀ r, .held (some r) ∉ blocks := by
  obtain ⟨-, habove⟩ := foldl_newer (blocks.mapIdx (fun n b => (n, b.record?.map (·.weldNumber)))) none
  constructor
  · intro h r hr
    obtain ⟨i, hi⟩ := List.mem_iff_getElem?.mp hr
    obtain ⟨m, v, hm, -⟩ := habove i r.weldNumber (.inr ((mem_numbered_iff blocks i _).mpr ⟨r, hi, rfl⟩))
    rw [newestBlock_eq, hm] at h
    cases h
  · intro h
    cases hnewest : newestBlock blocks with
    | none => rfl
    | some x =>
      obtain ⟨⟨r, hr, -⟩, -⟩ := newestBlock_some blocks x.1 x.2 hnewest
      exact absurd (List.mem_of_getElem? hr) (h r)

/-- R181: the next weld number of the scan is above every one held. -/
theorem scanned_above (r : Rst) (w : WeldRecord) (h : .held (some w) ∈ r.scanned.blocks) :
    w.weldNumber < r.scanned.nextWeld := by
  show _ < (newestBlock r.scanned.blocks).elim 1 (fun x => x.2 + 1)
  cases hnewest : newestBlock r.scanned.blocks with
  | none => exact absurd h ((newestBlock_none_iff _).mp hnewest w)
  | some x => exact Nat.lt_succ_of_le ((newestBlock_some _ x.1 x.2 hnewest).2 w h)

/-- R181: the scan as a function of one block. -/
theorem scanned_block (r : Rst) (n : Nat) : r.scanned.block n = scanBlock r.erase r.programmingBlock n (r.block n) := by
  show r.scannedBlocks.getD n .bad = _
  simp only [Rst.scannedBlocks, List.getD_eq_getElem?_getD, List.getElem?_mapIdx, Rst.block]
  cases r.blocks[n]? <;> rfl

/-- R181: the scan makes no record. -/
theorem held_of_scanned {r : Rst} {n : Nat} {w : WeldRecord} (h : r.scanned.block n = .held (some w)) :
    r.block n = .held (some w) := by
  rw [scanned_block] at h
  unfold scanBlock at h
  split at h
  · cases h
  · split at h
    · cases h
    · exact h

/-! ### What keeps the records fit -/

/-- R178, R181: no new number appears: the weld, the slot and the blocks hold no records but those they held. -/
theorem recordsFit_mono {s t : State} (h : RecordsFit s) (hslot : t.ctx.isSome = true → t.rst.slot = none)
    (hctx : ∀ c', t.ctx = some c' → ∃ c, s.ctx = some c ∧ c'.weldNumber = c.weldNumber)
    (hrecord : ∀ p', t.rst.slot = some p' → ∃ p, s.rst.slot = some p ∧ p'.record = p.record)
    (hnext : t.rst.nextWeld = s.rst.nextWeld)
    (hblock : ∀ n w, t.rst.block n = .held (some w) → s.rst.block n = .held (some w)) : RecordsFit t := by
  have hheld : ∀ w, .held (some w) ∈ t.rst.blocks → .held (some w) ∈ s.rst.blocks := by
    intro w hw
    obtain ⟨n, hn⟩ := (held_mem_iff _ _).mp hw
    exact (held_mem_iff _ _).mpr ⟨n, hblock n w hn⟩
  refine ⟨hslot, fun c' hc' => ?_, fun p' hp' => ?_, fun w hw => hnext ▸ h.held w (hheld w hw), ?_⟩
  · obtain ⟨c, hc, hnumber⟩ := hctx c' hc'
    obtain ⟨hlt, habove⟩ := h.flight c hc
    rw [hnext, hnumber]
    exact ⟨hlt, fun w hw => habove w (hheld w hw)⟩
  · obtain ⟨p, hp, hsame⟩ := hrecord p' hp'
    obtain ⟨hlt, habove⟩ := h.placed p hp
    rw [hnext, hsame]
    exact ⟨hlt, fun w hw => habove w (hheld w hw)⟩
  · exact fun n m v w hnm hv hw => h.apart n m v w hnm (hblock n v hv) (hblock m w hw)

/-- The weld numbers read the weld's own, the slot, the next number and the ring. -/
theorem recordsFit_of_eq {s t : State} (h : RecordsFit s)
    (hctx : t.ctx.map (·.weldNumber) = s.ctx.map (·.weldNumber)) (hslot : t.rst.slot = s.rst.slot)
    (hnext : t.rst.nextWeld = s.rst.nextWeld) (hblocks : t.rst.blocks = s.rst.blocks) : RecordsFit t := by
  refine recordsFit_mono h ?_ ?_ (fun p hp => ⟨p, hslot ▸ hp, rfl⟩) hnext (fun n w hw => ?_)
  · rw [hslot, ← Option.isSome_map (f := (·.weldNumber)), hctx, Option.isSome_map]
    exact h.slot
  · intro c' hc'
    rw [hc', Option.map_some] at hctx
    obtain ⟨c, hc, hnumber⟩ := Option.map_eq_some_iff.mp hctx.symm
    exact ⟨c, hc, hnumber.symm⟩
  · rwa [Rst.block, ← hblocks]

/-- R178, R181: the weld numbers apart and below the next. -/
def recordsInvariant : Invariant where
  Holds := RecordsFit
  free h hctx _ _ hr _ := recordsFit_of_eq h (by rw [hctx]) (by rw [hr]) (by rw [hr]) (by rw [hr])
  ctx {s f} h hf := recordsFit_of_eq h (by cases hs : s.ctx <;> simp [hs, (hf _).number]) rfl rfl rfl
  fault {s c} k p h hc := recordsFit_of_eq h (by
    have hnumber : (c.addFault k p).1.weldNumber = c.weldNumber := by
      unfold WeldCtx.addFault
      repeat' split
      all_goals rfl
    simp [hc, hnumber]) rfl rfl rfl
  activate {s} src h := recordsFit_of_eq h (by
    obtain ⟨b, hctx⟩ := activate_ctx src s
    rw [hctx]
    cases s.ctx <;> rfl) (by rw [activate_rst]) (by rw [activate_rst]) (by rw [activate_rst])
  tick _ h := recordsFit_of_eq h rfl rfl rfl rfl
  filed _ h := recordsFit_of_eq h rfl rfl rfl rfl
  line h _ := recordsFit_of_eq h rfl rfl rfl rfl

/-- R61: the new weld takes the next number, above every one in use. -/
theorem recordsInvariant_accepts : Accepts recordsInvariant := by
  intro bank mode args s h _ hslot _
  refine ⟨fun _ => hslot, fun c hc => ?_, fun p hp => ?_, fun w hw => Nat.lt_succ_of_lt (h.held w hw), h.apart⟩
  · obtain rfl : newContext bank mode args s = c := Option.some.inj hc
    exact ⟨Nat.lt_succ_self _, h.held⟩
  · rw [show (createWeld bank mode args s).rst.slot = s.rst.slot from rfl, hslot] at hp
    cases hp

/-- R178: the slot after a record is placed holds that record. -/
theorem tryCommit_record (r : Rst) (p : Slot) (h : r.tryCommit.slot = some p) : ∃ q, r.slot = some q ∧ p.record = q.record := by
  unfold Rst.tryCommit at h
  split at h
  next q t hq ht =>
    split at h
    · exact ⟨q, hq, by rw [← Option.some.inj h]⟩
    · exact ⟨p, h, rfl⟩
  next => exact ⟨p, h, rfl⟩

/-- R73: the record of a weld that ends takes its number into the slot. -/
theorem recordsInvariant_ends : Ends recordsInvariant := by
  intro s h
  cases hctx : s.ctx with
  | none => simpa [endContext, handRecord, hctx] using h
  | some c =>
    have hnone : (endContext (handRecord s)).ctx = none := by simp [endContext, handRecord, hctx]
    have hrst : (endContext (handRecord s)).rst = s.rst.place (composeRecord s.lnp.side s.cap.kept c) := by
      simp [endContext, handRecord, hctx]
    obtain ⟨hlt, habove⟩ := h.flight c hctx
    rw [place_eq] at hrst
    refine ⟨fun hsome => ?_, fun c' hc' => ?_, fun p hp => ?_, ?_, ?_⟩
    · rw [hnone] at hsome; cases hsome
    · rw [hnone] at hc'; cases hc'
    · rw [hrst] at hp ⊢
      obtain ⟨q, hq, hrecord⟩ := tryCommit_record _ p hp
      obtain rfl : _ = q := Option.some.inj hq
      rw [hrecord]
      exact ⟨hlt, habove⟩
    · rw [hrst]; exact h.held
    · rw [hrst]; exact h.apart

theorem recordsInvariant_settings : SettingsFree recordsInvariant where
  store h hring := recordsFit_of_eq h rfl hring.slot hring.nextWeld hring.blocks
  cap _ h _ := recordsFit_of_eq h rfl rfl rfl rfl

/-! ### The commands on the ring -/

/-- A ring with no weld and no slot is fit where its numbers are apart and below the next. -/
theorem recordsFit_of_ring {s t : State} (h : RecordsFit s) (hctx : t.ctx = none) (hslot : t.rst.slot = none)
    (hnext : ∀ w, .held (some w) ∈ t.rst.blocks → w.weldNumber < t.rst.nextWeld)
    (hblock : ∀ n w, t.rst.block n = .held (some w) → s.rst.block n = .held (some w)) : RecordsFit t where
  slot _ := hslot
  flight c hc := by rw [hctx] at hc; cases hc
  placed p hp := by rw [hslot] at hp; cases hp
  held := hnext
  apart n m v w hnm hv hw := h.apart n m v w hnm (hblock n v hv) (hblock m w hw)

theorem powerUp_scanned_fits (w : ResetWires) {s : State} (h : RecordsFit s) : RecordsFit (scanRing (powerUp w s)) := by
  have hrst : (scanRing (powerUp w s)).rst = (powerUp w s).rst.scanned.testErase := rfl
  rw [testErase_eq] at hrst
  refine recordsFit_of_ring h rfl (by rw [hrst]; rfl) (by rw [hrst]; exact scanned_above _) fun n v hv => ?_
  rw [hrst] at hv
  exact held_of_scanned (r := (powerUp w s).rst) hv

/-- R182: the ring after a line reset holds the records it held. -/
theorem lineReset_fits {s : State} (h : RecordsFit s) : RecordsFit (resetLine s) := by
  have hslot : (resetLine s).rst.slot = none := by
    show s.rst.lineReset.slot = none
    unfold Rst.lineReset
    split <;> rfl
  have hnext : (resetLine s).rst.nextWeld = s.rst.nextWeld := by
    show s.rst.lineReset.nextWeld = _
    unfold Rst.lineReset
    split <;> rfl
  refine recordsFit_mono h (fun hsome => absurd hsome (by simp [resetLine])) (fun c hc => absurd hc (by simp [resetLine]))
    (fun p hp => absurd (hslot.symm.trans hp) (by simp)) hnext fun n w hw => ?_
  have hline : s.rst.lineReset.block n = .held (some w) := hw
  unfold Rst.lineReset at hline
  split at hline
  · exact held_of_setBlock (by simp) hline
  · exact hline

/-- A block that is set to no record, and the erase-ahead and commit tests, leave the records fit. -/
theorem setBlock_fits {s t : State} {n : Nat} {b : Block} (h : RecordsFit s) (hb : ∀ w, b ≠ .held (some w))
    (hctx : t.ctx = s.ctx) (hblocks : t.rst.blocks = (s.rst.setBlock n b).blocks)
    (hslot : ∀ p', t.rst.slot = some p' → ∃ p, s.rst.slot = some p ∧ p'.record = p.record)
    (hnext : t.rst.nextWeld = s.rst.nextWeld) : RecordsFit t := by
  refine recordsFit_mono h (fun hsome => ?_) (fun c hc => ⟨c, hctx ▸ hc, rfl⟩) hslot hnext fun m w hw => ?_
  · cases hp : t.rst.slot with
    | none => rfl
    | some p' =>
      obtain ⟨p, hp, -⟩ := hslot p' hp
      rw [h.slot (hctx ▸ hsome)] at hp
      cases hp
  · rw [Rst.block, hblocks] at hw
    exact held_of_setBlock (hb w) hw

theorem markBad_fits {s : State} {n : Nat} (h : RecordsFit s) : RecordsFit (markBad n s) := by
  have hbad : RecordsFit { s with rst := s.rst.setBlock n .bad } :=
    setBlock_fits (n := n) h (fun w => by simp) rfl rfl (fun p hp => ⟨p, hp, rfl⟩) rfl
  have hlogged : recordsInvariant.Holds _ :=
    logFault_keeps (I := recordsInvariant) (k := .storeFault) (w := s.weldNumber?) (i := some (100 + n : Nat)) hbad
  refine recordsFit_of_eq hlogged rfl ?_ ?_ ?_
  all_goals unfold markBad; dsimp only; rw [testErase_eq]; rfl

theorem tryCommit_fits {s : State} (h : RecordsFit s) : RecordsFit { s with rst := s.rst.tryCommit } := by
  have hrst := tryCommit_eq s.rst
  refine recordsFit_mono h (fun hsome => ?_) (fun c hc => ⟨c, hc, rfl⟩) (tryCommit_record s.rst) (by rw [hrst])
    (fun n w hw => by rwa [hrst] at hw)
  show s.rst.tryCommit.slot = none
  simp only [Rst.tryCommit, h.slot hsome]

/-- R178: a program that ends without failure moves the record of the slot into the ring. -/
theorem committed_fits {s t : State} {p : Slot} {n : Nat} (h : RecordsFit s) (hp : s.rst.slot = some p)
    (hctx : t.ctx = s.ctx) (hslot : t.rst.slot = none) (hnext : t.rst.nextWeld = s.rst.nextWeld)
    (hblocks : t.rst.blocks = (s.rst.setBlock n (.held (some p.record))).blocks) : RecordsFit t := by
  have hnone : t.ctx = none := by
    rw [hctx]
    cases hc : s.ctx with
    | none => rfl
    | some c =>
      rw [h.slot (by simp [hc])] at hp
      cases hp
  obtain ⟨hlt, habove⟩ := h.placed p hp
  have hblock : ∀ m w, t.rst.block m = .held (some w) →
      (m = n ∧ w = p.record) ∨ s.rst.block m = .held (some w) := by
    intro m w hw
    rw [Rst.block, hblocks, ← Rst.block, block_setBlock] at hw
    split at hw
    next hm => exact .inl ⟨hm.1, by simpa using hw.symm⟩
    next => exact .inr hw
  have hbelow : ∀ m w, s.rst.block m = .held (some w) → w.weldNumber < p.record.weldNumber := fun m w hw =>
    habove w ((held_mem_iff _ _).mpr ⟨m, hw⟩)
  refine ⟨fun _ => hslot, fun c hc => ?_, fun q hq => ?_, fun w hw => ?_, fun m k v w hmk hv hw => ?_⟩
  · rw [hnone] at hc; cases hc
  · rw [hslot] at hq; cases hq
  · obtain ⟨m, hm⟩ := (held_mem_iff _ _).mp hw
    rw [hnext]
    rcases hblock m w hm with ⟨-, rfl⟩ | hold
    · exact hlt
    · exact (hbelow m w hold).trans hlt
  · rcases hblock m v hv with ⟨rfl, rfl⟩ | hv' <;> rcases hblock k w hw with ⟨rfl, rfl⟩ | hw'
    · exact absurd rfl hmk
    · exact (hbelow k w hw').ne'
    · exact (hbelow m v hv').ne
    · exact h.apart m k v w hmk hv' hw'

theorem endCommit_fits {s : State} {ok : Bool} (h : RecordsFit s) : RecordsFit (endCommit ok s) := by
  unfold endCommit
  split
  next p n hp hn =>
    split_ifs
    · exact h
    · refine committed_fits (n := n) h hp rfl (testErase_slot _) (testErase_nextWeld _)
        (testErase_blocks _)
    · have hwaits : RecordsFit { s with rst := { s.rst with slot := some { p with programming := false } } } :=
        recordsFit_mono h (fun hsome => absurd (h.slot hsome) (by simp [hp])) (fun c hc => ⟨c, hc, rfl⟩)
          (fun q hq => ⟨p, hp, by rw [← Option.some.inj hq]⟩) rfl fun _ _ hw => hw
      exact tryCommit_fits (markBad_fits hwaits)
  next => exact h

theorem endErase_fits {s : State} {ok : Bool} (h : RecordsFit s) : RecordsFit (endErase ok s) := by
  unfold endErase
  split
  · exact h
  next n hn =>
    split_ifs
    · have hslot : ∀ p', (({ s.rst with erase := none }.setBlock n .erased).tryCommit).testErase.slot = some p' →
          ∃ p, s.rst.slot = some p ∧ p'.record = p.record := by
        intro p' hp'
        obtain ⟨q, hq, hsame⟩ := tryCommit_record _ p' ((testErase_slot _).symm.trans hp')
        exact ⟨q, hq, hsame⟩
      exact setBlock_fits (n := n) (b := .erased) h (fun w => by simp) rfl
        ((testErase_blocks _).trans (tryCommit_blocks _)) hslot ((testErase_nextWeld _).trans (tryCommit_nextWeld _))
    · have hstopped : RecordsFit { s with rst := { s.rst with erase := none } } := recordsFit_of_eq h rfl rfl rfl rfl
      exact tryCommit_fits (markBad_fits hstopped)

/-- R178 to R182: the commands on the ring keep the records fit. -/
theorem exec_ring_fits {c : Instr} {s : State} (hc : writesRing c = true) (h : recordsInvariant.Holds s) :
    ∃ y, exec c s = finish y ∧ recordsInvariant.Holds y := by
  cases c
  case supplyReset w =>
    exact ⟨_, rfl, checkSettings_keeps recordsInvariant_settings (powerUp_scanned_fits w h)⟩
  case lineReset => exact ⟨_, rfl, lineReset_fits h⟩
  case commitEnd ok => exact ⟨_, rfl, endCommit_fits h⟩
  case eraseEnd ok => exact ⟨_, rfl, endErase_fits h⟩
  all_goals cases hc

/-- Settles O57: the weld numbers are an invariant of every operation, and trace memory of its own. -/
theorem everyStepKeepsRecordsAndTrace : Obligations.EveryStepKeepsRecordsAndTrace := by
  refine ⟨fun s t h hout => ?_, fun s t h hout => ?_⟩
  · exact step_keeps_settings (I := recordsInvariant) recordsInvariant_settings.rules
      (fun _ hx => recordsFit_of_eq hx rfl rfl rfl rfl) (fun _ hx => recordsFit_of_eq hx rfl rfl rfl rfl)
      recordsInvariant_ends recordsInvariant_accepts exec_ring_fits hout h
  · exact step_keeps traceInvariant_storeFree (fun _ hx => hx) (fun _ hx => hx) hout h

end Sys2Proof.Proofs.Records

/-! The bound bank through every step (R17, R26, R32), and the statement EveryStepKeepsTheBoundBank. -/
namespace Sys2Proof.Proofs.BoundBank
open Sys2Proof Sys2Proof.Machine Sys2Proof.Proofs.Invariants Sys2Proof.Proofs.Steps

set_option Elab.async false

/-! ### Banks by name -/

theorem mapBank_same (n : BankName) (f : Bank → Bank) (s t : State) (h : t.rst.bankA = (s.rst.mapBank n f).bankA)
    (h' : t.rst.bankB = (s.rst.mapBank n f).bankB) : t.bank n = f (s.bank n) := by
  cases n
  · exact h
  · exact h'

theorem mapBank_other {n m : BankName} (hnm : m ≠ n) (f : Bank → Bank) (s t : State)
    (h : t.rst.bankA = (s.rst.mapBank n f).bankA) (h' : t.rst.bankB = (s.rst.mapBank n f).bankB) :
    t.bank m = s.bank m := by
  cases n <;> cases m
  · exact absurd rfl hnm
  · exact h'
  · exact h
  · exact absurd rfl hnm

theorem bank_of_eq {s t : State} (ha : t.rst.bankA = s.rst.bankA) (hb : t.rst.bankB = s.rst.bankB) (n : BankName) :
    t.bank n = s.bank n := by
  cases n
  · exact ha
  · exact hb

/-- R17: a bank that is ready has its marker clear. -/
theorem ready_not_installing {b : Bank} (h : b.ready = true) : b.installing = false := by
  simpa using (Bool.and_eq_true_iff.mp h).2

/-! ### The bound bank -/

/-- R17, R32: the banks fit; and a weld bound to a bank as it stood stays bound to it, unless it may be over, while the
bank stands. -/
structure BankBound (o : Option (BankName × Bank)) (ended : Prop) (s : State) : Prop where
  fits : BanksFit s
  ends : ∀ x, o = some x → s.ctx = none → ended
  same : ∀ x c, o = some x → s.ctx = some c → c.bank = x.1 ∧ s.bank x.1 = x.2

variable {o : Option (BankName × Bank)} {ended : Prop}

theorem BankBound.of_eq {s t : State} (h : BankBound o ended s) (hctx : t.ctx.map (·.bank) = s.ctx.map (·.bank))
    (hbank : ∀ n, t.bank n = s.bank n) (hwrite : t.rst.write = s.rst.write) : BankBound o ended t := by
  have hback : ∀ c', t.ctx = some c' → ∃ c, s.ctx = some c ∧ c.bank = c'.bank := by
    intro c' hc'
    rw [hc', Option.map_some] at hctx
    exact Option.map_eq_some_iff.mp hctx.symm
  refine ⟨⟨fun c' hc' => ?_, fun n image hw => ?_⟩, fun x hx hnone => ?_, fun x c' hx hc' => ?_⟩
  · obtain ⟨c, hc, hsame⟩ := hback c' hc'
    rw [hbank, ← hsame]
    exact h.fits.bound c hc
  · rw [hbank]
    exact h.fits.writing n image (hwrite ▸ hw)
  · rw [hnone, Option.map_none] at hctx
    exact h.ends x hx (Option.map_eq_none_iff.mp hctx.symm)
  · obtain ⟨c, hc, hsame⟩ := hback c' hc'
    rw [hbank, ← hsame]
    exact h.same x c hx hc

/-- A bank that is not bound takes a new state, with its marker set where the write that is then under way is its own. -/
theorem BankBound.mapBank {s t : State} {n : BankName} {f : Bank → Bank} (h : BankBound o ended s)
    (hfree : ∀ c, s.ctx = some c → c.bank ≠ n) (hctx : t.ctx = s.ctx)
    (hbankA : t.rst.bankA = (s.rst.mapBank n f).bankA) (hbankB : t.rst.bankB = (s.rst.mapBank n f).bankB)
    (hwrite : ∀ m image, t.rst.write = some (.schedule m image) → m = n ∧ (f (s.bank n)).installing = true) :
    BankBound o ended t := by
  refine ⟨⟨fun c hc => ?_, fun m image hw => ?_⟩, fun x hx hnone => h.ends x hx (hctx ▸ hnone), fun x c hx hc => ?_⟩
  · rw [hctx] at hc
    rw [mapBank_other (hfree c hc) f s t hbankA hbankB]
    exact h.fits.bound c hc
  · obtain ⟨rfl, hinstalling⟩ := hwrite m image hw
    rwa [mapBank_same m f s t hbankA hbankB]
  · rw [hctx] at hc
    obtain ⟨hname, hsame⟩ := h.same x c hx hc
    rw [mapBank_other (hname ▸ hfree c hc) f s t hbankA hbankB]
    exact ⟨hname, hsame⟩

/-- The bank of the weld through the operations that do not begin or end one. -/
def boundInvariant (o : Option (BankName × Bank)) (ended : Prop) : Invariant where
  Holds := BankBound o ended
  free h hctx _ _ hr _ := h.of_eq (by rw [hctx]) (bank_of_eq (by rw [hr]) (by rw [hr])) (by rw [hr])
  ctx {s f} h hf := h.of_eq (by cases hs : s.ctx <;> simp [hs, (hf _).bank]) (fun _ => rfl) rfl
  fault {s c} k p h hc := h.of_eq (by
    have hbank : (c.addFault k p).1.bank = c.bank := by
      unfold WeldCtx.addFault
      repeat' split
      all_goals rfl
    simp [hc, hbank]) (fun _ => rfl) rfl
  activate {s} src h := h.of_eq (by
    obtain ⟨b, hctx⟩ := activate_ctx src s
    rw [hctx]
    cases s.ctx <;> rfl) (bank_of_eq (by rw [activate_rst]) (by rw [activate_rst])) (by rw [activate_rst])
  tick _ h := h.of_eq rfl (fun _ => rfl) rfl
  filed _ h := h.of_eq rfl (fun _ => rfl) rfl
  line h _ := h.of_eq rfl (fun _ => rfl) rfl

/-- R26: a write of the settings area that is no bank's leaves the banks. -/
theorem BankBound.write {s t : State} (h : BankBound o ended s) (hctx : t.ctx = s.ctx)
    (hbankA : t.rst.bankA = s.rst.bankA) (hbankB : t.rst.bankB = s.rst.bankB)
    (hwrite : ∀ n image, t.rst.write ≠ some (.schedule n image)) : BankBound o ended t := by
  have hbank := bank_of_eq hbankA hbankB
  refine ⟨⟨fun c hc => ?_, fun n image hw => absurd hw (hwrite n image)⟩, fun x hx hnone => h.ends x hx (hctx ▸ hnone),
    fun x c hx hc => ?_⟩
  · rw [hbank]
    exact h.fits.bound c (hctx ▸ hc)
  · rw [hbank]
    exact h.same x c hx (hctx ▸ hc)

/-- R26: a bank whose image is being written is not the bound one. -/
theorem writing_not_bound {s : State} {n : BankName} {image : List Byte} (h : BanksFit s)
    (hw : s.rst.write = some (.schedule n image)) : ∀ c, s.ctx = some c → c.bank ≠ n := by
  rintro c hc rfl
  have hinstalling := h.writing c.bank image hw
  rw [ready_not_installing (h.bound c hc)] at hinstalling
  cases hinstalling

theorem boundInvariant_settings : SettingsRules (boundInvariant o ended) where
  bank {s n image} h := by
    unfold installBank
    split
    next => exact free_keeps h
    next hbound =>
      refine ite_keeps (free_keeps h) ?_
      split
      · exact free_keeps h
      · refine BankBound.mapBank (n := n) (f := fun b => { b with installing := true }) h (fun c hc hn => hbound ?_)
          rfl rfl rfl fun m image hw => ?_
        · simp [State.bound, hc, hn]
        · cases hw
          exact ⟨rfl, rfl⟩
  capture h := by
    refine ite_keeps (free_keeps h) (ite_keeps (free_keeps h) ?_)
    split
    · exact free_keeps h
    · exact BankBound.write h rfl rfl rfl (by rintro n image ⟨⟩)
  scheduleEnd {s ok} h := by
    unfold endScheduleWrite
    split
    next n image hw =>
      have hfree := writing_not_bound h.fits hw
      refine ite_keeps ?_ (failWrite_keeps ?_)
      all_goals exact BankBound.mapBank h hfree rfl rfl rfl (by rintro m image ⟨⟩)
    next => exact h
  captureEnd {s ok} h := by
    unfold endCaptureWrite
    split
    next image hw =>
      refine ite_keeps ?_ (failWrite_keeps (BankBound.write h rfl rfl rfl (by rintro n image ⟨⟩)))
      have hprogram {x : State} {p : Program} (hx : BankBound o ended x) : BankBound o ended (programWritten p x) := by
        unfold programWritten
        split
        all_goals exact hx.of_eq rfl (fun _ => rfl) rfl
      exact (hprogram (BankBound.write (t := { s with rst := { s.rst with write := none, captureBlock := _ } }) h rfl
        rfl rfl (by rintro n image ⟨⟩))).of_eq rfl (fun _ => rfl) rfl
    next => exact h

/-- The banks, and a write under way, stand. -/
structure SameBanks (r r' : Rst) : Prop where
  bankA : r'.bankA = r.bankA
  bankB : r'.bankB = r.bankB
  write : r'.write = r.write

theorem SameBanks.refl (r : Rst) : SameBanks r r := ⟨rfl, rfl, rfl⟩

theorem SameBanks.testErase {r r' : Rst} (h : SameBanks r r') : SameBanks r r'.testErase := by
  rw [testErase_eq]
  exact ⟨h.bankA, h.bankB, h.write⟩

theorem SameBanks.tryCommit {r r' : Rst} (h : SameBanks r r') : SameBanks r r'.tryCommit := by
  rw [tryCommit_eq]
  exact ⟨h.bankA, h.bankB, h.write⟩

/-- R26: an update of the ring leaves the banks and their write. -/
theorem BankBound.ring {s t : State} (h : BankBound o ended s) (hctx : t.ctx = s.ctx) (hbanks : SameBanks s.rst t.rst) :
    BankBound o ended t :=
  h.of_eq (by rw [hctx]) (bank_of_eq hbanks.bankA hbanks.bankB) hbanks.write

/-! ### A weld that begins or may be over -/

theorem boundInvariant_accepts (h : ¬ended ∨ o = none) : Accepts (boundInvariant o ended) := by
  intro n mode args s hs hnone _ hready
  refine ⟨⟨fun c hc => ?_, hs.fits.writing⟩, fun x hx hno => absurd hno (by simp [createWeld]), fun x c hx _ => ?_⟩
  · obtain rfl : newContext n mode args s = c := Option.some.inj hc
    exact hready
  · rcases h with hover | hnot
    · exact absurd (hs.ends x hx hnone) hover
    · rw [hnot] at hx
      cases hx

theorem BankBound.of_over {s : State} (h : BanksFit s) (hctx : s.ctx = none) (hover : ended) : BankBound o ended s :=
  ⟨h, fun _ _ _ => hover, fun _ c _ hc => absurd (hctx.symm.trans hc) (by simp)⟩

theorem boundInvariant_ends (hover : ended) : Ends (boundInvariant o ended) := by
  intro s h
  cases hctx : s.ctx with
  | none => simpa only [endContext, handRecord, hctx] using h
  | some c =>
    have hnone : (endContext (handRecord s)).ctx = none := by simp [endContext, handRecord, hctx]
    have hrst : (endContext (handRecord s)).rst = s.rst.place (composeRecord s.lnp.side s.cap.kept c) := by
      simp [endContext, handRecord, hctx]
    rw [place_eq] at hrst
    refine BankBound.of_over ⟨fun c hc => absurd (hnone.symm.trans hc) (by simp), fun n image hw => ?_⟩ hnone hover
    rw [bank_of_eq (s := s) (by rw [hrst]) (by rw [hrst])]
    rw [hrst] at hw
    exact h.fits.writing n image hw

/-! ### The commands on the ring -/

theorem markBad_banks (n : Nat) (s : State) : (markBad n s).ctx = s.ctx ∧ SameBanks s.rst (markBad n s).rst := by
  unfold markBad
  dsimp only
  rw [logFault_eq]
  exact ⟨rfl, SameBanks.testErase ⟨rfl, rfl, rfl⟩⟩

theorem endCommit_banks (ok : Bool) (s : State) :
    (endCommit ok s).ctx = s.ctx ∧ SameBanks s.rst (endCommit ok s).rst := by
  unfold endCommit
  split
  next p n _ _ =>
    split_ifs
    · exact ⟨rfl, .refl _⟩
    · exact ⟨rfl, SameBanks.testErase ⟨rfl, rfl, rfl⟩⟩
    · obtain ⟨hctx, hbanks⟩ := markBad_banks n { s with rst := { s.rst with slot := some { p with programming := false } } }
      exact ⟨hctx, SameBanks.tryCommit ⟨hbanks.bankA, hbanks.bankB, hbanks.write⟩⟩
  next => exact ⟨rfl, .refl _⟩

theorem endErase_banks (ok : Bool) (s : State) :
    (endErase ok s).ctx = s.ctx ∧ SameBanks s.rst (endErase ok s).rst := by
  unfold endErase
  split
  next => exact ⟨rfl, .refl _⟩
  next n _ =>
    split_ifs
    · exact ⟨rfl, SameBanks.testErase (SameBanks.tryCommit ⟨rfl, rfl, rfl⟩)⟩
    · obtain ⟨hctx, hbanks⟩ := markBad_banks n { s with rst := { s.rst with erase := none } }
      exact ⟨hctx, SameBanks.tryCommit ⟨hbanks.bankA, hbanks.bankB, hbanks.write⟩⟩

/-- R31: a logged fault leaves the weld and the settings write. -/
theorem settingsBad_write (n : Nat) (bad : Bool) (s : State) :
    (settingsBad n bad s).ctx = s.ctx ∧ (settingsBad n bad s).rst.write = s.rst.write := by
  unfold settingsBad
  split
  · rw [logFault_eq]
    exact ⟨rfl, rfl⟩
  · exact ⟨rfl, rfl⟩

/-- R26, R74: a supply reset has no weld and no write under way. -/
theorem supplyReset_write (w : ResetWires) (s : State) :
    (checkSettings (scanRing (powerUp w s))).ctx = none ∧ (checkSettings (scanRing (powerUp w s))).rst.write = none := by
  simp only [checkSettings, settingsBad_write]
  exact ⟨rfl, by simp only [scanRing]; rw [testErase_eq]; rfl⟩

theorem lineReset_banks (r : Rst) : SameBanks r r.lineReset := by
  unfold Rst.lineReset
  split <;> exact ⟨rfl, rfl, rfl⟩

theorem resetLine_bound {s : State} (h : BankBound o ended s) (hended : ended) : BankBound o ended (resetLine s) := by
  have hbanks := lineReset_banks s.rst
  refine BankBound.of_over ⟨fun c hc => (by cases hc), fun n image hw => ?_⟩ rfl hended
  rw [bank_of_eq (s := s) hbanks.bankA hbanks.bankB]
  exact h.fits.writing n image (hbanks.write ▸ hw)

theorem exec_ring_bound {c : Instr} {s : State} (hc : writesRing c = true) (hended : ended)
    (h : (boundInvariant o ended).Holds s) : ∃ y, exec c s = finish y ∧ (boundInvariant o ended).Holds y := by
  cases c
  case supplyReset w =>
    obtain ⟨hctx, hwrite⟩ := supplyReset_write w s
    refine ⟨_, rfl, BankBound.of_over ⟨fun c hc => ?_, fun n image hw => ?_⟩ hctx hended⟩
    · rw [hctx] at hc; cases hc
    · rw [hwrite] at hw; cases hw
  case lineReset => exact ⟨_, rfl, resetLine_bound h hended⟩
  case commitEnd ok => exact ⟨_, rfl, h.ring (endCommit_banks ok s).1 (endCommit_banks ok s).2⟩
  case eraseEnd ok => exact ⟨_, rfl, h.ring (endErase_banks ok s).1 (endErase_banks ok s).2⟩
  all_goals cases hc

/-- The bank of the weld, if there is one, as it stands. -/
def boundBank (s : State) : Option (BankName × Bank) := s.ctx.map fun c => (c.bank, s.bank c.bank)

/-- A command keeps the bound bank; only a sample, UNCLAMP_SLOW and a reset may end its weld. -/
theorem exec_bound {c : Instr} {s t : State} (hout : exec c s = .next t) (h : BanksFit s) :
    BankBound (boundBank s) (mayEnd c = true ∨ writesRing c = true) t := by
  have hs : (boundInvariant (boundBank s) (mayEnd c = true ∨ writesRing c = true)).Holds s := by
    refine ⟨h, fun x hx hnone => ?_, fun x c hx hc => ?_⟩
    · rw [boundBank, hnone] at hx; cases hx
    · rw [boundBank, hc] at hx
      cases hx
      exact ⟨rfl, rfl⟩
  obtain ⟨y, hy, hkept⟩ : ∃ y, exec c s = finish y ∧ (boundInvariant (boundBank s) _).Holds y := by
    by_cases hring : writesRing c = true
    · exact exec_ring_bound hring (.inr hring) hs
    · refine exec_keeps_settings boundInvariant_settings (fun hend => boundInvariant_ends (.inl hend))
        (fun hframe => boundInvariant_accepts (.inl ?_)) (fun _ _ hx => BankBound.ring hx rfl ⟨rfl, rfl, rfl⟩)
        (by simpa using hring) hs
      cases c <;> simp_all [takesFrame, mayEnd]
  exact Host.Outcome.next.inj (hy.symm.trans hout) ▸ gateCurrent_keeps hkept

/-- Settles O56: no operation touches the bank a weld is bound to: an install refuses it, and a write under way is
another's. -/
theorem everyStepKeepsTheBoundBank : Obligations.EveryStepKeepsTheBoundBank := by
  intro s t h hout
  rcases step_cases hout with rfl | ⟨c, rest, -, hexec⟩
  · exact ⟨h, fun c c' hc hc' => by rw [hc] at hc'; cases hc'; exact ⟨rfl, rfl⟩⟩
  · have hbound := exec_bound hexec (s := { s with pending := rest }) ⟨h.bound, h.writing⟩
    refine ⟨hbound.fits, fun c c' hc hc' => hbound.same (c.bank, s.bank c.bank) c' ?_ hc'⟩
    show s.ctx.map _ = _
    rw [hc]
    rfl

end Sys2Proof.Proofs.BoundBank

/-! The weld context, the sequencer state, the claim step and the gate watch through every step (R47, R115, R136), and
the statement EveryStepKeepsContextAndState. -/
namespace Sys2Proof.Proofs.Control
open Sys2Proof Sys2Proof.Machine Sys2Proof.Proofs.Invariants Sys2Proof.Proofs.Steps

set_option Elab.async false

/-! ### The control fields -/

/-- The fields of the state that `WeldFits` reads. -/
structure Ctl where
  mode  : Option Mode
  seq   : SeqState
  tuc   : Bool
  step  : ClaimStep
  watch : Watch

/-- A claim that is not yet granted (R116 to R119). -/
def Asks (c : ClaimStep) : Prop := c = .waiting ∨ c = .sending ∨ c = .settling ∨ c = .backoff

/-- The states in which a claim may stand (R115, R127). -/
def MayClaim (q : SeqState) : Prop := q = .power ∨ q = .preheat ∨ q = .flash ∨ q = .boost ∨ q = .upset

/-- `WeldFits`, of the control fields alone. -/
structure Ctl.Fits (c : Ctl) : Prop where
  context : c.mode.isSome = c.seq.welding
  claim   : c.step ≠ .idle → MayClaim c.seq
  asking  : Asks c.step → c.seq = .power ∧ c.watch ≠ .heatEntry
  heat    : c.seq = .upset → c.tuc = true → c.step = .idle
  watch   : c.watch = .heatEntry → (c.seq = .power ∨ c.seq = .preheat) ∧ c.mode = some .tensioned

/-- The control fields of a state. -/
def control (s : State) : Ctl where
  mode  := s.ctx.map (·.mode)
  seq   := s.wsq.seq
  tuc   := s.wsq.tucExpired
  step  := s.clu.step
  watch := s.tnl.watch

@[simp] theorem control_mode (s : State) : (control s).mode = s.ctx.map (·.mode) := rfl
@[simp] theorem control_seq (s : State) : (control s).seq = s.wsq.seq := rfl
@[simp] theorem control_tuc (s : State) : (control s).tuc = s.wsq.tucExpired := rfl
@[simp] theorem control_step (s : State) : (control s).step = s.clu.step := rfl
@[simp] theorem control_watch (s : State) : (control s).watch = s.tnl.watch := rfl

theorem tensioned_iff (s : State) : s.tensioned = true ↔ (control s).mode = some .tensioned := by
  unfold State.tensioned
  cases hc : s.ctx <;> simp [hc]

theorem weldFits_iff (s : State) : WeldFits s ↔ (control s).Fits := by
  constructor
  · intro h
    refine ⟨?_, h.claim, h.asking, h.heat, fun hw => ?_⟩
    · rw [control_mode, Option.isSome_map]
      exact h.context
    · exact ⟨(h.watch hw).1, (tensioned_iff s).mp (h.watch hw).2⟩
  · intro h
    refine ⟨?_, h.claim, h.asking, h.heat, fun hw => ?_⟩
    · have hcontext := h.context
      rwa [control_mode, Option.isSome_map] at hcontext
    · exact ⟨(h.watch hw).1, (tensioned_iff s).mpr (h.watch hw).2⟩

/-! ### Moves of the control fields -/

/-- R68: entry to STOPPING gives the claim back and ends the watch. -/
def Ctl.stop (c : Ctl) : Ctl := { c with seq := .stopping, step := .idle, watch := .none }

/-- R66: a fault aborts in CLAMP to UPSET and moves nothing elsewhere. -/
def Ctl.fault (c : Ctl) : Ctl := if c.seq.abortable then c.stop else c

theorem Ctl.Fits.stop {c : Ctl} (h : c.Fits) (hq : c.seq.welding = true) : c.stop.Fits where
  context := h.context.trans hq
  claim h := absurd rfl h
  asking h := by rcases h with h | h | h | h <;> cases h
  heat h := by cases h
  watch h := by cases h

theorem abortable_welding {q : SeqState} (h : q.abortable = true) : q.welding = true := by
  cases q <;> first | rfl | cases h

theorem Ctl.Fits.fault {c : Ctl} (h : c.Fits) : c.fault.Fits := by
  unfold Ctl.fault
  split
  next hq => exact h.stop (abortable_welding hq)
  next => exact h

/-- A claim that stands may go on: asked anew where it asks, or granted or shed. -/
theorem Ctl.Fits.claimed {c : Ctl} {st : ClaimStep} (h : c.Fits) (hstands : c.step ≠ .idle) (hasks : Asks st → Asks c.step) :
    { c with step := st }.Fits where
  context := h.context
  claim _ := h.claim hstands
  asking hst := h.asking (hasks hst)
  heat hq ht := absurd (h.heat hq ht) hstands
  watch := h.watch

/-- R116: in POWER, the gate of heat entry unwatched, the claim may take any step. -/
theorem Ctl.Fits.asked {c : Ctl} (st : ClaimStep) (h : c.Fits) (hq : c.seq = .power) (hw : c.watch ≠ .heatEntry) :
    { c with step := st }.Fits where
  context := h.context
  claim _ := .inl hq
  asking _ := ⟨hq, hw⟩
  heat hu := by rw [hq] at hu; cases hu
  watch := h.watch

/-- R127: a claim given back. -/
theorem Ctl.Fits.idled {c : Ctl} (h : c.Fits) : { c with step := .idle }.Fits where
  context := h.context
  claim h := absurd rfl h
  asking h := by rcases h with h | h | h | h <;> cases h
  heat _ _ := rfl
  watch := h.watch

/-- A watch that is not that of heat entry. -/
theorem Ctl.Fits.watched {c : Ctl} {w : Watch} (h : c.Fits) (hw : w ≠ .heatEntry) : { c with watch := w }.Fits where
  context := h.context
  claim := h.claim
  asking hst := ⟨(h.asking hst).1, hw⟩
  heat := h.heat
  watch h := absurd h hw

/-- The next state of a weld, with no claim asked for and no gate awaited. -/
theorem Ctl.Fits.entered {c : Ctl} {q : SeqState} (h : c.Fits) (hq : c.seq.welding = q.welding)
    (hstep : c.step ≠ .idle → ¬Asks c.step ∧ MayClaim q ∧ (q = .upset → c.tuc = false)) (hw : c.watch ≠ .heatEntry) :
    { c with seq := q }.Fits where
  context := h.context.trans hq
  claim hst := (hstep hst).2.1
  asking hst := by
    by_cases hidle : c.step = .idle
    · have hidle' : Asks .idle := hidle ▸ hst
      rcases hidle' with h | h | h | h <;> cases h
    · exact absurd hst (hstep hidle).1
  heat hu ht := by
    by_contra hidle
    have hfalse := (hstep hidle).2.2 hu
    rw [show c.tuc = true from ht] at hfalse
    cases hfalse
  watch h := absurd h hw

/-! ### Operations that leave the control fields -/

/-- The mode of the weld. -/
def modeInvariant (m : Option Mode) : Invariant where
  Holds s := s.ctx.map (·.mode) = m
  free h hctx _ _ _ _ := by rwa [hctx]
  ctx {s f} h hf := by
    rw [← h]
    cases hs : s.ctx <;> simp [hs, (hf _).mode]
  fault {s c} k p h hc := by
    have hmode : (c.addFault k p).1.mode = c.mode := by
      unfold WeldCtx.addFault
      repeat' split
      all_goals rfl
    rw [← h, hc, Option.map_some, Option.map_some, hmode]
  activate {s} src h := by
    obtain ⟨b, hctx⟩ := activate_ctx src s
    rw [hctx, ← h]
    cases s.ctx <;> rfl
  tick _ h := h
  filed _ h := h
  line h _ := h

/-- An operation that keeps every invariant keeps the mode. -/
theorem mode_of {s t : State}
    (h : (modeInvariant (s.ctx.map (·.mode))).Holds s → (modeInvariant (s.ctx.map (·.mode))).Holds t) :
    t.ctx.map (·.mode) = s.ctx.map (·.mode) := h rfl

/-- An operation whose `Invariant` rule is known and that leaves the three control units leaves the control fields. -/
theorem control_of {s t : State} (h : (modeInvariant (s.ctx.map (·.mode))).Holds s → (modeInvariant (s.ctx.map (·.mode))).Holds t)
    (hseq : t.wsq.seq = s.wsq.seq := by simp) (htuc : t.wsq.tucExpired = s.wsq.tucExpired := by simp)
    (hstep : t.clu.step = s.clu.step := by simp) (hwatch : t.tnl.watch = s.tnl.watch := by simp) :
    control t = control s := by
  unfold control
  rw [mode_of h, hseq, htuc, hstep, hwatch]

section
variable (s : State)

@[simp] theorem control_activate (src : Source) : control (activate src s) = control s :=
  control_of fun h => (modeInvariant _).activate src h
@[simp] theorem control_announceChange : control (announceChange s) = control s := control_of announceChange_keeps
@[simp] theorem control_requestAnnounce : control (requestAnnounce s) = control s := control_of requestAnnounce_keeps
@[simp] theorem control_logFault (k : FaultKind) (n : Option Nat) (i : Option Int) : control (logFault k n i s) = control s :=
  control_of logFault_keeps
@[simp] theorem control_offer (f : OutFrame) : control (offer f s) = control s := by
  simp [control]
@[simp] theorem control_enterFaultAs (q : SeqState) (k : FaultKind) (i : Option Int) :
    control (enterFaultAs q k i s) = control s := control_of enterFaultAs_keeps
@[simp] theorem control_enterFault (k : FaultKind) (i : Option Int) : control (enterFault k i s) = control s :=
  control_of enterFault_keeps
@[simp] theorem control_enterState (q : SeqState) : control (enterState q s) = { control s with seq := q } := by
  unfold control
  rw [mode_of enterState_keeps]
  simp
@[simp] theorem control_mapSet (f : Outputs → Outputs) : control (s.mapSet f) = control s := rfl
@[simp] theorem control_mapProgress (f : Progress → Progress) : control (s.mapProgress f) = control s :=
  control_of mapProgress_keeps
@[simp] theorem control_stopRegulation : control (stopRegulation s) = control s := control_of stopRegulation_keeps
@[simp] theorem control_requestCall (d : Nat) (b : CallBody) : control (requestCall d b s) = control s :=
  control_of requestCall_keeps (hwatch := by rw [requestCall_tnl])
@[simp] theorem control_sendLetGo : control (sendLetGo s) = control s :=
  control_of sendLetGo_keeps (hwatch := by rw [sendLetGo_tnl])
@[simp] theorem control_gateCurrent : control (gateCurrent s) = control s := control_of gateCurrent_keeps
@[simp] theorem control_setOwnClaim (v : Nat) : control (setOwnClaim v s) = control s :=
  control_of setOwnClaim_keeps (hstep := by unfold setOwnClaim; split <;> simp)
@[simp] theorem control_yieldOwnClaim : control (yieldOwnClaim s) = { control s with step := .idle } := by
  unfold control
  rw [mode_of yieldOwnClaim_keeps, (yieldOwnClaim_clu s).1]
  simp
@[simp] theorem control_makeSafe : control (makeSafe s) = { control s with step := .idle, watch := .none } := by
  unfold control
  rw [mode_of makeSafe_keeps, makeSafe_wsq, (makeSafe_clu s).1, (makeSafe_tnl s).1]

@[simp] theorem control_mapCtx {f : WeldCtx → WeldCtx} (hf : ∀ c, (f c).mode = c.mode) :
    control (s.mapCtx f) = control s := by
  unfold control
  rw [mapCtx_ctx, Option.map_map, show (fun c : WeldCtx => c.mode) ∘ f = (·.mode) from funext hf]
  simp

/-- R66: an abort, of the control fields. -/
@[simp] theorem control_abortWeld (k : FaultKind) (i : Option Int) : control (abortWeld k i s) = (control s).stop := by
  simp [abortWeld, Ctl.stop]

@[simp] theorem control_takeFault (k : FaultKind) (i : Option Int) : control (takeFault k i s) = (control s).fault := by
  unfold takeFault Ctl.fault
  rw [control_seq]
  repeat' split
  all_goals simp

@[simp] theorem control_enterLate (k : FaultKind) (i : Option Int) : control (enterLate k i s) = control s := by
  simp [enterLate]

@[simp] theorem control_stopWeld (k : FaultKind) : control (stopWeld k s) = (control s).fault := by
  unfold stopWeld Ctl.fault
  rw [control_seq]
  repeat' split
  all_goals simp

@[simp] theorem control_takeStationFault (k : FaultKind) (i : Option Int) :
    control (takeStationFault k i s) = (control s).fault := by
  unfold takeStationFault Ctl.fault
  rw [control_seq]
  repeat' split
  all_goals simp

@[simp] theorem control_losePower (i : Option Int) : control (losePower i s) = (control s).fault := by
  simp [losePower]

@[simp] theorem control_holdBroken : control (holdBroken s) = control s := by
  unfold holdBroken
  split
  · rfl
  · exact control_enterFault s .holdBroken s.pairedForce

@[simp] theorem control_dropRecord (d : Nat) : control (dropRecord d s) = control s := by
  unfold dropRecord
  dsimp only
  repeat' split
  · rfl
  · rw [control_requestCall]; rfl
  · rfl

@[simp] theorem control_beginApproach : control (beginApproach s) = control s := rfl

@[simp] theorem control_beginContact : control (beginContact s) = control s := by
  simp only [beginContact, control_activate, control_mapCtx, implies_true]
  rfl

@[simp] theorem control_writePreheatBurn : control (writePreheatBurn s) = control s := control_mapProgress ..

@[simp] theorem control_endStroke (short : Bool) : control (endStroke short s) = control s := by
  have hactivate : control (activate .upsetPeak { s.mapSet (fun o => { o with velocity := 0 }) with
      wsq := { s.wsq with stroke := .ended } }) = control s := by rw [control_activate]; rfl
  unfold endStroke
  dsimp only
  split
  · rw [control_enterFault]
    exact hactivate
  · exact hactivate

@[simp] theorem control_workStroke : control (workStroke s) = control s := control_mapProgress ..

@[simp] theorem control_strokeSample : control (strokeSample s) = control s := by
  unfold strokeSample
  dsimp only
  repeat' split
  all_goals simp

@[simp] theorem control_setRow (n : Nat) (r : PeerRow) : control (s.setRow n r) = control s := control_of setRow_keeps

@[simp] theorem control_setHaltLatch : control (setHaltLatch s) = control s := by
  unfold setHaltLatch
  split
  · rfl
  · rw [control_announceChange]; rfl

@[simp] theorem control_answerCall (d n : Nat) (code : AnswerCode) (v : Nat) : control (answerCall d n code v s) = control s :=
  control_offer ..

@[simp] theorem control_settleEnergy : control (settleEnergy s) = control s := by
  unfold settleEnergy
  dsimp only
  repeat' split
  all_goals simp

@[simp] theorem control_settleNeutral : control (settleNeutral s) = control s := by
  unfold settleNeutral
  dsimp only
  repeat' split
  all_goals simp

@[simp] theorem control_settleVerdict : control (settleVerdict s) = control s := by
  simp [settleVerdict]

@[simp] theorem control_tickAll : control (tickAll s) = control s := rfl

@[simp] theorem control_takeProgress : control (takeProgress s) = control s := by
  unfold takeProgress
  split
  all_goals simp

@[simp] theorem control_takeSlip : control (takeSlip s) = control s := by
  unfold takeSlip
  repeat' split
  all_goals rfl

@[simp] theorem control_measure (raw : Samples) : control (Machine.measure raw s) = control s := by
  rw [Machine.measure, control_takeProgress, control_takeSlip]
  unfold takeEnergy
  split <;> simp only [takeStall, takeShort, takeInputs, driveOutputs]
  all_goals exact control_gateCurrent _

end

/-! ### The claim -/

theorem claimSent_fits {n : Nat} {s : State} (h : (control s).Fits) : (control (claimSent n s)).Fits := by
  unfold claimSent
  split
  next hc =>
    refine h.claimed (st := .settling) ?_ fun _ => .inr (.inl hc.1)
    rw [control_step, hc.1]
    simp
  next => exact h

/-- R117: a CLAIM that is offered moves the claim at most from SENDING to SETTLING. -/
theorem sendClaim_control (s : State) :
    control (sendClaim s) = control s
    ∨ s.clu.step = .sending ∧ control (sendClaim s) = { control s with step := .settling } := by
  unfold sendClaim
  dsimp only
  have hoffer : control (offer (.claim s.clu.ownClaim s.weldNumber (s.clu.serial + 1)) { s with
      clu := { s.clu with serial := s.clu.serial + 1 }
      lnp := { s.lnp with claimDropped := !offerTaken s } }) = control s := by rw [control_offer]; rfl
  split
  next hv =>
    unfold claimSent
    split
    next hc =>
      have hstep : s.clu.step = .sending := by simpa using hc.1
      exact .inr ⟨hstep, by rw [← hoffer]; rfl⟩
    next => exact .inl hoffer
  next => exact .inl hoffer

theorem sendClaim_fits {s : State} (h : (control s).Fits) : (control (sendClaim s)).Fits := by
  rcases sendClaim_control s with hsame | ⟨hstep, hsettles⟩
  · rwa [hsame]
  · rw [hsettles]
    exact h.claimed (by rw [control_step, hstep]; simp) fun _ => .inr (.inl hstep)

/-- The claim asked anew, and nothing else of the control fields moved. -/
def Reasked (s t : State) : Prop := control t = control s ∨ ∃ st, Asks st ∧ control t = { control s with step := st }

theorem Reasked.of_power {s t : State} (h : Reasked s t) (hs : (control s).Fits) (hq : s.wsq.seq = .power)
    (hw : s.tnl.watch ≠ .heatEntry) : (control t).Fits := by
  rcases h with hsame | ⟨st, -, hst⟩
  · rwa [hsame]
  · rw [hst]
    exact hs.asked st hq hw

theorem Reasked.of_asks {s t : State} (h : Reasked s t) (hs : (control s).Fits) (ha : Asks s.clu.step) :
    (control t).Fits :=
  h.of_power hs (hs.asking ha).1 (hs.asking ha).2

theorem claimAmount_control (a : Nat) (s : State) :
    ∃ st, Asks st ∧ control (claimAmount a s) = { control s with step := st } := by
  have hown : control (setOwnClaim a { s with clu := { s.clu with step := .sending } })
      = { control s with step := .sending } := by rw [control_setOwnClaim]; rfl
  unfold claimAmount
  rcases sendClaim_control (setOwnClaim a { s with clu := { s.clu with step := .sending } }) with hsame | ⟨-, hsettles⟩
  · exact ⟨.sending, .inr (.inl rfl), hsame.trans hown⟩
  · exact ⟨.settling, .inr (.inr (.inl rfl)), by rw [hsettles, hown]⟩

theorem decideClaim_reasked (s : State) : Reasked s (decideClaim s) := by
  unfold decideClaim
  split
  · exact .inl rfl
  · dsimp only
    split
    · obtain ⟨st, hasks, hst⟩ := claimAmount_control _ { s with clu := { s.clu with room := s.room } }
      exact .inr ⟨st, hasks, hst⟩
    · exact .inr ⟨.waiting, .inl rfl, rfl⟩

theorem redecideClaim_reasked (s : State) : Reasked s (redecideClaim s) := by
  unfold redecideClaim
  split
  · exact .inl rfl
  · dsimp only
    split
    · obtain ⟨st, hasks, hst⟩ := claimAmount_control _ { s with clu := { s.clu with room := s.room, settleTimer := none } }
      exact .inr ⟨st, hasks, hst⟩
    · exact .inr ⟨.waiting, .inl rfl, by rw [control_offer, control_setOwnClaim]; rfl⟩

theorem yieldToLower_reasked (s : State) : Reasked s (yieldToLower s) :=
  .inr ⟨.backoff, .inr (.inr (.inr rfl)), by unfold yieldToLower; rw [control_offer, control_setOwnClaim]; rfl⟩

/-- R122: a claim that is shrunk stands. -/
theorem shrinkClaim_control (a : Nat) (s : State) (h : s.clu.step ≠ .sending) :
    control (shrinkClaim a s) = control s := by
  unfold shrinkClaim
  dsimp only
  rw [control_enterFault]
  have hown : control (setOwnClaim a (s.mapCtx fun c => { c with granted := a, share := shareOf a c.demand })) = control s := by
    simp
  rcases sendClaim_control (setOwnClaim a (s.mapCtx fun c => { c with granted := a, share := shareOf a c.demand }))
    with hsame | ⟨hsending, -⟩
  · exact hsame.trans hown
  · exact absurd ((congrArg Ctl.step hown).symm.trans hsending) h

theorem shortfall_fits {s : State} (h : (control s).Fits) (hstands : s.clu.step ≠ .idle) (hsending : s.clu.step ≠ .sending) :
    (control (shortfall s)).Fits := by
  unfold shortfall
  split
  · rw [control_losePower]
    exact h.fault
  · dsimp only
    have hshed : { control s with step := .shed }.Fits := h.claimed hstands fun ha => by rcases ha with h | h | h | h <;> cases h
    split
    · have hsame := shrinkClaim_control s.leastPower s hsending
      rw [← hsame] at hshed
      exact hshed
    · exact hshed

theorem checkSpare_fits {s : State} (h : (control s).Fits) (hstands : s.clu.step ≠ .idle) (hsending : s.clu.step ≠ .sending) :
    (control (checkSpare s)).Fits := by
  unfold checkSpare
  repeat' split
  · exact h
  · rwa [shrinkClaim_control _ _ hsending]
  · exact shortfall_fits h hstands hsending

theorem endShed_fits {s : State} (h : (control s).Fits) (hstands : s.clu.step ≠ .idle) : (control (endShed s)).Fits :=
  h.claimed (st := .granted) hstands fun ha => by rcases ha with h | h | h | h <;> cases h

theorem checkShed_fits {s : State} (h : (control s).Fits) (hstands : s.clu.step ≠ .idle) : (control (checkShed s)).Fits := by
  unfold checkShed
  repeat' split
  · exact endShed_fits h hstands
  · rw [control_losePower]
    exact h.fault
  · exact h

theorem settleNotice_fits {n : Nat} {rose fell : Bool} {s : State} (h : (control s).Fits) (ha : Asks s.clu.step) :
    (control (settleNotice n rose fell s)).Fits := by
  unfold settleNotice
  repeat' split
  · exact (yieldToLower_reasked s).of_asks h ha
  · exact (redecideClaim_reasked s).of_asks h ha
  · exact h

theorem cluNotice_fits {before : State} {n : Nat} {s : State} (h : (control s).Fits) :
    (control (cluNotice before n s)).Fits := by
  have hite {x y : State} {p : Prop} [Decidable p] (hx : (control x).Fits) (hy : (control y).Fits) :
      (control (if p then x else y)).Fits := by
    split
    · exact hx
    · exact hy
  unfold cluNotice
  extract_lets _ s1 sums lost rose fell
  have h1 : (control s1).Fits := by
    show (control (if _ then _ else _)).Fits
    exact hite h h
  have hlose : (control (losePower none s1)).Fits := by
    rw [control_losePower]
    exact h1.fault
  cases hst : s1.clu.step
  case idle => exact h1
  case backoff => exact h1
  case waiting => exact hite ((decideClaim_reasked s1).of_asks h1 (.inl hst)) h1
  case sending => exact settleNotice_fits h1 (.inr (.inl hst))
  case settling => exact settleNotice_fits h1 (.inr (.inr (.inl hst)))
  case granted => exact hite hlose (hite (checkSpare_fits h1 (by simp [hst]) (by simp [hst])) h1)
  case shed => exact hite hlose (hite (checkShed_fits h1 (by simp [hst])) h1)

theorem tellRoom_fits {s : State} (h : (control s).Fits) : (control (tellRoom s)).Fits := by
  unfold tellRoom
  dsimp only
  repeat' split
  · exact sendClaim_fits (s := { s with lnp := { s.lnp with claimDropped := false } }) h
  · exact h
  · exact h

theorem claimDiscarded_fits {n : Nat} {s : State} (h : (control s).Fits) : (control (claimDiscarded n s)).Fits := by
  unfold claimDiscarded
  split
  · exact sendClaim_fits h
  · exact h

theorem cluCleared_fits {s : State} (h : (control s).Fits) : (control (cluCleared s)).Fits := by
  unfold cluCleared
  split
  next => exact sendClaim_fits h
  next hst =>
    refine sendClaim_fits (s := { s with clu := { s.clu with step := .sending, settleTimer := none } }) ?_
    exact h.claimed (st := .sending) (by simp [hst]) fun _ => .inr (.inr (.inl hst))
  next => exact h

/-! ### The phases -/

/-- The claim step of a state in which no claim may stand. -/
theorem Ctl.Fits.idle {c : Ctl} (h : c.Fits) (hq : ¬MayClaim c.seq) : c.step = .idle := by
  by_contra hst
  exact hq (h.claim hst)

theorem Ctl.Fits.unwatched {c : Ctl} (h : c.Fits) (hpower : c.seq ≠ .power) (hpreheat : c.seq ≠ .preheat) :
    c.watch ≠ .heatEntry := fun hw => (h.watch hw).1.elim hpower hpreheat

/-- Out of a state in which no claim may stand, none stands in the next. -/
theorem Ctl.Fits.moved {c : Ctl} {q : SeqState} (h : c.Fits) (hq : ¬MayClaim c.seq) (hw : c.seq.welding = q.welding) :
    { c with seq := q }.Fits :=
  h.entered hw (fun hst => absurd (h.idle hq) hst)
    (h.unwatched (fun hp => hq (.inl hp)) fun hp => hq (.inr (.inl hp)))

/-- R116: POWER is entered. -/
theorem Ctl.fits_power {c : Ctl} (hm : c.mode.isSome = true) (hw : c.watch ≠ .heatEntry) :
    { c with seq := .power }.Fits where
  context := hm
  claim _ := .inl rfl
  asking _ := ⟨rfl, hw⟩
  heat h := by cases h
  watch h := absurd h hw

theorem not_asks_granted : ¬Asks .granted := by rintro (h | h | h | h) <;> cases h

/-- A claim that stands where none is asked for is over POWER, or granted in it. -/
theorem Ctl.Fits.not_asks {c : Ctl} (h : c.Fits) (hq : c.seq ≠ .power) : ¬Asks c.step := fun ha => hq (h.asking ha).1

section
variable (s : State)

@[simp] theorem control_enterFlash : control (enterFlash s) = { control s with seq := .flash } := by
  simp only [enterFlash, control_mapSet, control_mapCtx, implies_true]
  exact control_enterState s .flash

@[simp] theorem control_enterPreheat : control (enterPreheat s) = { control s with seq := .preheat } :=
  control_enterState s .preheat

@[simp] theorem control_enterBoost : control (enterBoost s) = { control s with seq := .boost } := by
  unfold enterBoost
  rw [control_mapProgress]
  exact control_enterState s .boost

@[simp] theorem control_enterUnclamp : control (enterUnclamp s) = { control s with seq := .unclamp } :=
  control_enterState s .unclamp

@[simp] theorem control_requestGate (w : Watch) : control (requestGate w s) = { control s with watch := w } := rfl

@[simp] theorem control_endWatch : control (endWatch s) = { control s with watch := .none } := rfl

@[simp] theorem control_endContact : control (endContact s) = control s := by
  simp only [endContact, control_activate]
  exact control_mapProgress s fun p => { p with contactsDone := p.contactsDone + 1 }

@[simp] theorem control_backoffSample (b : Backoff) : control (backoffSample b s) = control s := by
  unfold backoffSample
  dsimp only
  split <;> rfl

@[simp] theorem control_retreat : control (retreat s) = control s := by
  unfold retreat
  repeat' split
  all_goals rfl

end

/-- R82 to R85: FLASH is entered with the claim granted and no gate awaited. -/
theorem enterFlash_fits {s : State} (h : (control s).Fits) (hq : s.wsq.seq.welding = true)
    (hstep : s.clu.step ≠ .idle → ¬Asks s.clu.step) (hw : s.tnl.watch ≠ .heatEntry) : (control (enterFlash s)).Fits := by
  rw [control_enterFlash]
  exact h.entered hq (fun hst => ⟨hstep hst, .inr (.inr (.inl rfl)), fun h => by cases h⟩) hw

/-- R136: the gate of FLASH entry is asked for in a TENSIONED weld, the claim granted. -/
theorem requestHeatGate_fits {s : State} (h : (control s).Fits) (hq : s.wsq.seq = .power ∨ s.wsq.seq = .preheat)
    (hm : s.tensioned = true) (hstep : ¬Asks s.clu.step) : (control (requestHeatGate s)).Fits := by
  unfold requestHeatGate
  dsimp only
  split
  · refine enterFlash_fits (s := endWatch (requestGate .heatEntry s)) ?_ ?_ (fun _ => hstep) ?_
    · exact h.watched (w := .none) (by simp)
    · show s.wsq.seq.welding = true
      rcases hq with hq | hq <;> rw [hq] <;> rfl
    · simp [endWatch]
  · show { control s with watch := .heatEntry }.Fits
    exact ⟨h.context, h.claim, fun ha => absurd ha hstep, h.heat, fun _ => ⟨hq, (tensioned_iff s).mp hm⟩⟩

theorem enterPower_fits {s : State} (hm : (control s).mode.isSome = true)
    (hw : s.tnl.watch ≠ .heatEntry) : (control (enterPower s)).Fits := by
  unfold enterPower
  dsimp only
  have hcontrol : control { enterState .power s with clu := { (enterState .power s).clu with
      claimWait := startTimer ((enterState .power s).sched.claimWait * 1000) } } = { control s with seq := .power } :=
    control_enterState s .power
  refine (decideClaim_reasked _).of_power ?_ (congrArg Ctl.seq hcontrol) ?_
  · rw [hcontrol]
    exact Ctl.fits_power hm hw
  · rw [← control_watch, hcontrol]
    exact hw

theorem leavePower_fits {s : State} (h : (control s).Fits) (hq : s.wsq.seq = .power) (hstep : s.clu.step = .granted)
    (hw : s.tnl.watch ≠ .heatEntry) : (control (leavePower s)).Fits := by
  have hasks : ¬Asks s.clu.step := by
    rw [hstep]
    exact not_asks_granted
  unfold leavePower
  split_ifs with hcontacts hm
  · rw [control_enterPreheat]
    exact h.entered (by rw [control_seq, hq]; rfl) (fun _ => ⟨hasks, .inr (.inl rfl), fun h => by cases h⟩) hw
  · exact requestHeatGate_fits h (.inl hq) hm hasks
  · exact enterFlash_fits h (by rw [hq]; rfl) (fun _ => hasks) hw

theorem grantClaim_fits {s : State} (h : (control s).Fits) (hst : s.clu.step = .settling) :
    (control (grantClaim s)).Fits := by
  obtain ⟨hq, hw⟩ := h.asking (.inr (.inr (.inl hst)))
  unfold grantClaim
  extract_lets own s1 _ s2 s3
  have h2 : control s2 = { control s with step := .granted } := by
    have h1 : control s1 = control s := control_mapCtx _ fun _ => rfl
    rw [← h1]
    rfl
  have h3 : control s3 = { control s with step := .granted } := by
    rw [← h2]
    show control (if _ then _ else _) = _
    split
    · exact control_enterFault ..
    · rfl
  have hfits : (control s3).Fits := by
    rw [h3]
    exact h.claimed (by simp [hst]) fun ha => absurd ha not_asks_granted
  exact leavePower_fits hfits ((congrArg Ctl.seq h3).trans hq) (congrArg Ctl.step h3)
    (by rw [← control_watch, h3]; exact hw)

/-! ### CLOSE -/

theorem sendClosure_fits {s : State} (h : (control s).Fits) : (control (sendClosure s)).Fits := by
  unfold sendClosure
  split
  · exact h
  · dsimp only
    split
    · rw [control_takeFault, control_requestCall]
      exact h.fault
    · rw [control_requestCall]
      exact h

theorem enterClose_fits {s : State} (h : (control s).Fits) (hq : s.wsq.seq = .plan) : (control (enterClose s)).Fits := by
  have hclose : (control (enterState .close s)).Fits := by
    rw [control_enterState]
    exact h.moved (by rw [control_seq, hq]; simp [MayClaim]) (by rw [control_seq, hq]; rfl)
  unfold enterClose
  dsimp only
  split
  · exact sendClosure_fits hclose
  · exact hclose

theorem closureTaken_fits {s : State} (h : (control s).Fits) (hq : s.wsq.seq = .close) :
    (control (closureTaken s)).Fits := by
  unfold closureTaken
  dsimp only
  split
  · refine enterPower_fits (s := endWatch (requestGate .close { s with tnl := { s.tnl with closureAccepted := true } })) ?_ ?_
    · refine h.context.trans ?_
      rw [control_seq, hq]
      rfl
    · simp [endWatch]
  · exact h.watched (w := .close) (by simp)

theorem closureFreed_fits {r : CallResult} {s : State} (h : (control s).Fits) (hq : s.wsq.seq = .close) :
    (control (closureFreed r s)).Fits := by
  unfold closureFreed
  split
  · exact closureTaken_fits h hq
  all_goals
    rw [control_takeFault]
    exact h.fault

theorem owedFreed_fits {o : Owed} {r : CallResult} {s : State} (h : (control s).Fits) :
    (control (owedFreed o r s)).Fits := by
  unfold owedFreed
  dsimp only
  split
  · rw [control_requestCall]
    exact h
  · exact h

theorem tensorFreed_fits {c : TensorCall} {r : CallResult} {s : State} (h : (control s).Fits) :
    (control (tensorFreed c r s)).Fits := by
  unfold tensorFreed
  extract_lets s1
  have h1 : (control s1).Fits := by
    show (control (if _ then _ else _)).Fits
    split
    · split
      · exact owedFreed_fits h
      · split
        next hq => exact closureFreed_fits h hq
        next => exact h
    · exact h
  split
  · exact sendClosure_fits h1
  · exact h1

theorem callFreed_fits {d : Nat} {r : CallResult} {s : State} (h : (control s).Fits) :
    (control (callFreed d r s)).Fits := by
  unfold callFreed
  split
  · split
    · refine tensorFreed_fits ?_
      rw [control_dropRecord]
      exact h
    · rwa [control_dropRecord]
  · rwa [control_dropRecord]

/-! ### Hold, let-go and unclamp -/

theorem enterUnclamp_fits {s : State} (h : (control s).Fits) (hq : ¬MayClaim s.wsq.seq) (hw : s.wsq.seq.welding = true) :
    (control (enterUnclamp s)).Fits := by
  rw [control_enterUnclamp]
  exact h.moved hq hw

theorem enterLetGo_fits {s : State} (h : (control s).Fits) (hq : s.wsq.seq = .hold) : (control (enterLetGo s)).Fits := by
  unfold enterLetGo
  extract_lets s1 _ s2
  have hcontrol : control s2 = { control s with seq := .letGo } :=
    (control_sendLetGo (enterState .letGo s)).trans (control_enterState s .letGo)
  have h2 : (control s2).Fits := by
    rw [hcontrol]
    exact h.moved (by rw [control_seq, hq]; simp [MayClaim]) (by rw [control_seq, hq]; rfl)
  have hseq : s2.wsq.seq = .letGo := congrArg Ctl.seq hcontrol
  split
  · exact enterUnclamp_fits h2 (by rw [hseq]; simp [MayClaim]) (by rw [hseq]; rfl)
  · exact h2

/-- R104, R106: HOLD is entered from UPSET with heat over. -/
theorem enterHold_fits {s : State} (h : (control s).Fits) (hq : s.wsq.seq = .upset) (ht : s.wsq.tucExpired = true) :
    (control (enterHold s)).Fits := by
  unfold enterHold
  extract_lets s1 _ _ s2 s3
  have hcontrol : control s2 = { control s with seq := .hold } := by
    have h1 : control s1 = { control s with seq := .hold } :=
      (control_mapProgress ..).trans (control_enterState s .hold)
    rw [← h1]
    rfl
  have h2 : (control s2).Fits := by
    rw [hcontrol]
    refine h.entered (by rw [control_seq, hq]; rfl) (fun hst => absurd (h.heat hq ht) hst) (h.unwatched ?_ ?_)
    all_goals rw [control_seq, hq]; simp
  have h3 : (control s3).Fits := h2.watched (w := .hold) (by simp)
  split_ifs
  · exact h3
  · rwa [control_holdBroken]
  · exact h2

theorem endHold_fits {s : State} (h : (control s).Fits) (hq : s.wsq.seq = .hold) : (control (endHold s)).Fits := by
  unfold endHold
  extract_lets s1 _ s2
  have hcontrol : control s2 = { control s with watch := .none } := by
    have h1 : control s1 = control s := (control_mapProgress ..).trans (control_mapSet ..)
    rw [← h1]
    show { control (activate .holdTick _) with watch := .none } = _
    rw [control_activate]
    rfl
  have h2 : (control s2).Fits := by
    rw [hcontrol]
    exact h.watched (by simp)
  have hseq : s2.wsq.seq = .hold := (congrArg Ctl.seq hcontrol).trans hq
  split
  · exact enterLetGo_fits h2 hseq
  · exact enterUnclamp_fits h2 (by rw [hseq]; simp [MayClaim]) (by rw [hseq]; rfl)

/-! ### Upset -/

theorem leaveUpset_fits {s : State} (h : (control s).Fits) : (control (leaveUpset s)).Fits := by
  unfold leaveUpset
  split
  next hc => exact enterHold_fits h hc.1 hc.2.2
  next => exact h

theorem heatOver_fits {s : State} (h : (control s).Fits) : (control (heatOver s)).Fits := by
  unfold heatOver
  dsimp only
  rw [control_yieldOwnClaim]
  have hidled := h.idled
  exact ⟨hidled.context, hidled.claim, hidled.asking, fun _ _ => rfl, hidled.watch⟩

/-- R98, R99: UPSET is entered, with heat on and no gate awaited. -/
theorem Ctl.Fits.upset {c : Ctl} (h : c.Fits) (hq : c.seq = .flash ∨ c.seq = .boost) :
    { c with seq := .upset, tuc := false }.Fits where
  context := by rcases hq with hq | hq <;> simpa [hq, SeqState.welding] using h.context
  claim _ := .inr (.inr (.inr (.inr rfl)))
  asking ha := by rcases hq with hq | hq <;> exact absurd ha (h.not_asks (by simp [hq]))
  heat _ ht := by cases ht
  watch hw := by rcases hq with hq | hq <;> exact absurd hw (h.unwatched (by simp [hq]) (by simp [hq]))

theorem enterUpset_fits {s : State} (h : (control s).Fits) (hq : s.wsq.seq = .flash ∨ s.wsq.seq = .boost) :
    (control (enterUpset s)).Fits := by
  unfold enterUpset
  extract_lets s1 _ _ s2 g s3 s4
  have hcontrol : control s2 = { control s with seq := .upset, tuc := false } := by
    have h1 : control s1 = { control s with seq := .upset } := control_enterState s .upset
    have h1' : { control s1 with tuc := false } = { control s with seq := .upset, tuc := false } := by rw [h1]
    rw [← h1']
    exact control_mapProgress ..
  have h2 : (control s2).Fits := by
    rw [hcontrol]
    exact h.upset hq
  have hg : (control g).Fits := h2.watched (w := .none) (by simp)
  have h3 : (control s3).Fits := by
    show (control (if _ then _ else _)).Fits
    split_ifs
    · exact hg
    · rwa [control_enterFault]
    · exact h2
  have h4 : (control s4).Fits := by
    show (control (if _ then _ else _)).Fits
    split_ifs
    · exact heatOver_fits h3
    · exact h3
  refine leaveUpset_fits ?_
  rwa [control_strokeSample, control_workStroke]

theorem endFlash_fits {s : State} (h : (control s).Fits) (hq : s.wsq.seq = .flash) : (control (endFlash s)).Fits := by
  unfold endFlash
  split
  · rw [control_enterBoost]
    refine h.entered (by rw [control_seq, hq]; rfl) (fun _ => ⟨h.not_asks (by simp [hq]), ?_, fun h => by cases h⟩)
      (h.unwatched (by simp [hq]) (by simp [hq]))
    exact .inr (.inr (.inr (.inl rfl)))
  · exact enterUpset_fits h (.inl hq)

/-! ### The changes of a row -/

theorem gateNotice_fits {s : State} (h : (control s).Fits) (hm : (control s).mode.isSome = true) :
    (control (gateNotice s)).Fits := by
  unfold gateNotice
  split
  · exact h
  · dsimp only
    split
    · exact enterPower_fits (s := { s with tnl := { s.tnl with gateMet := s.gateHolds, watch := .none, tensorWait := none } })
        hm (by simp)
    next hwatch _ =>
      obtain ⟨hq, -⟩ := h.watch hwatch
      have hasks : ¬Asks s.clu.step := fun ha => (h.asking ha).2 hwatch
      refine enterFlash_fits (s := endWatch { s with tnl := { s.tnl with gateMet := s.gateHolds } }) ?_ ?_
        (fun _ => hasks) (by simp [endWatch])
      · exact h.watched (w := .none) (by simp)
      · show s.wsq.seq.welding = true
        rcases hq with hq | hq <;> rw [control_seq] at hq <;> rw [hq] <;> rfl
    · rw [control_holdBroken]
      exact h
    · exact h

theorem closeRowLost_fits {s : State} (h : (control s).Fits) : (control (closeRowLost s)).Fits := by
  unfold closeRowLost
  split
  · split
    · rw [control_takeFault]
      exact h.fault
    · split
      · rw [control_takeFault, control_dropRecord]
        exact h.fault
      · rw [control_takeFault]
        exact h.fault
  · exact h

theorem releaseNotice_fits {s : State} (h : (control s).Fits) : (control (releaseNotice s)).Fits := by
  unfold releaseNotice
  split
  next hc => exact enterUnclamp_fits h (by rw [hc.1]; simp [MayClaim]) (by rw [hc.1]; rfl)
  next => exact h

theorem pairedNotice_fits {announced : Bool} {s : State} (h : (control s).Fits) (hm : (control s).mode.isSome = true) :
    (control (pairedNotice announced s)).Fits := by
  unfold pairedNotice
  extract_lets s1
  have h1 : control s1 = control s := by
    show control (if _ then _ else _) = _
    split
    · exact control_activate ..
    · rfl
  refine releaseNotice_fits (gateNotice_fits (closeRowLost_fits (h1.symm ▸ h)) ?_)
  rw [control_mode, mode_of closeRowLost_keeps, ← control_mode, h1]
  exact hm

theorem changeRow_fits {n : Nat} {announced : Bool} {r : PeerRow} {s : State} (h : (control s).Fits) :
    (control (changeRow n announced r s)).Fits := by
  have h1 : (control (cluNotice s n (s.setRow n r))).Fits := cluNotice_fits (by rwa [control_setRow])
  unfold changeRow
  dsimp only
  split
  next hpair =>
    refine pairedNotice_fits h1 ?_
    cases hctx : (cluNotice s n (s.setRow n r)).ctx with
    | none => simp [State.pair, hctx] at hpair
    | some c => simp [hctx]
  next => exact h1

end Sys2Proof.Proofs.Control

/-! The control fields through the outcome, the frames, the samples and every command, and the statement
EveryStepKeepsContextAndState. -/
namespace Sys2Proof.Proofs.Control
open Sys2Proof Sys2Proof.Machine Sys2Proof.Proofs.Invariants Sys2Proof.Proofs.Steps

set_option Elab.async false

theorem ite_fits {p : Prop} [Decidable p] {s t : State} (hs : (control s).Fits) (ht : (control t).Fits) :
    (control (if p then s else t)).Fits := by
  split
  · exact hs
  · exact ht

/-- An update of the blocks that the control fields are not read of. -/
theorem fits_of_eq {s t : State} (h : (control s).Fits) (hctx : t.ctx = s.ctx := by rfl)
    (hseq : t.wsq.seq = s.wsq.seq := by rfl) (htuc : t.wsq.tucExpired = s.wsq.tucExpired := by rfl)
    (hstep : t.clu.step = s.clu.step := by rfl) (hwatch : t.tnl.watch = s.tnl.watch := by rfl) : (control t).Fits := by
  have hcontrol : control t = control s := by
    unfold control
    rw [hctx, hseq, htuc, hstep, hwatch]
  rwa [hcontrol]

theorem takeFault_fits {k : FaultKind} {i : Option Int} {s : State} (h : (control s).Fits) :
    (control (takeFault k i s)).Fits := by
  rw [control_takeFault]
  exact h.fault

theorem stopWeld_fits {k : FaultKind} {s : State} (h : (control s).Fits) : (control (stopWeld k s)).Fits := by
  rw [control_stopWeld]
  exact h.fault

theorem activate_fits {src : Source} {s : State} (h : (control s).Fits) : (control (activate src s)).Fits := by
  rwa [control_activate]

/-! ### The outcome -/

theorem restState_idle (s : State) : s.restState.welding = false ∧ ¬MayClaim s.restState := by
  unfold State.restState
  repeat' split
  all_goals exact ⟨rfl, by simp [MayClaim]⟩

/-- R73: the outcome ends the context as the sequencer leaves UNCLAMP or STOPPING, where no claim may stand. -/
theorem buildOutcome_fits {s : State} (h : (control s).Fits) (hq : ¬MayClaim s.wsq.seq) (hw : s.wsq.seq.welding = true) :
    (control (buildOutcome s)).Fits := by
  have hsettled : control (settleVerdict (settleNeutral (settleEnergy s))) = control s := by simp
  unfold buildOutcome
  extract_lets s1
  have hctx : (settleVerdict (settleNeutral (settleEnergy s))).ctx.isSome = true := by
    rw [← Option.isSome_map (f := (·.mode)), ← control_mode, hsettled]
    exact h.context.trans hw
  obtain ⟨c, hc⟩ := Option.isSome_iff_exists.mp hctx
  have h1 : control s1 = { control s with mode := none, watch := .none } := by
    rw [← hsettled]
    simp only [s1, endContext, handRecord, hc]
    rfl
  obtain ⟨hrest, hidle⟩ := restState_idle s1
  have hstep : s.clu.step = .idle := h.idle hq
  rw [control_enterState, h1]
  refine ⟨hrest.symm, fun hst => absurd hstep hst, fun ha => ?_, fun hu => ?_, fun hw => by cases hw⟩
  · exact absurd (show Asks s.clu.step from ha) (by rw [hstep]; rintro (h | h | h | h) <;> cases h)
  · exact fun _ => hstep

/-! ### Frames received -/

theorem freeCalls_fits {r : CallResult} {dests : List Nat} {s : State} (h : (control s).Fits) :
    (control (freeCalls r dests s)).Fits := by
  unfold freeCalls
  exact List.foldlRecOn (motive := fun x => (control x).Fits) dests _ h fun _ hx _ _ => callFreed_fits hx

theorem freeHeld_fits {r : CallResult} {s : State} (h : (control s).Fits) : (control (freeHeld r s)).Fits := by
  unfold freeHeld
  dsimp only
  split
  · exact ite_fits (tensorFreed_fits (fits_of_eq h)) (fits_of_eq h)
  · exact fits_of_eq h

theorem silenceLine_fits {s : State} (h : (control s).Fits) : (control (silenceLine s)).Fits :=
  freeCalls_fits (freeHeld_fits (fits_of_eq h))

theorem duplicateFound_fits {s : State} (h : (control s).Fits) : (control (duplicateFound s)).Fits := by
  unfold duplicateFound
  extract_lets _ s1
  refine ite_fits h (silenceLine_fits ?_)
  have h1 : (control s1).Fits := by
    show (control (takeStationFault _ _ _)).Fits
    rw [control_takeStationFault]
    exact Ctl.Fits.fault (fits_of_eq h)
  split
  next hq =>
    rw [control_enterState]
    exact h1.moved (by rw [control_seq, hq]; simp [MayClaim]) (by rw [control_seq, hq]; rfl)
  next hq =>
    rw [control_enterState]
    exact h1.moved (by rw [control_seq, hq]; simp [MayClaim]) (by rw [control_seq, hq]; rfl)
  next => exact h1

/-- R61: the weld begins where none stood, in CLAMP. -/
theorem acceptWeld_fits {source number : Nat} {bank : BankName} {mode : Mode} {args : StartArgs} {s : State}
    (h : (control s).Fits) (hctx : s.ctx = none) : (control (acceptWeld source number bank mode args s)).Fits := by
  have hwelding : s.wsq.seq.welding = false := by
    have hcontext := h.context
    rw [control_mode, hctx] at hcontext
    exact hcontext.symm
  have hq : ¬MayClaim s.wsq.seq := by rintro (hq | hq | hq | hq | hq) <;> rw [hq] at hwelding <;> cases hwelding
  have hstep : s.clu.step = .idle := h.idle hq
  unfold acceptWeld
  rw [control_answerCall]
  have hclamp : control (enterClamp (createWeld bank mode args s)) = { control s with mode := some mode, seq := .clamp } :=
    control_enterState (createWeld bank mode args s) .clamp
  rw [hclamp]
  refine Ctl.Fits.mk rfl (fun hst => absurd hstep hst) (fun ha => ?_) (fun hu => by cases hu) (fun hw => ?_)
  · exact absurd (show Asks s.clu.step from ha) (by rw [hstep]; rintro (h | h | h | h) <;> cases h)
  · exact absurd hw (h.unwatched (fun hp => hq (.inl hp)) fun hp => hq (.inr (.inl hp)))

theorem takeWeldStart_fits {source number : Nat} {args : StartArgs} {s : State} (h : (control s).Fits) :
    (control (takeWeldStart source number args s)).Fits := by
  unfold takeWeldStart
  split
  · split
    next => rwa [control_answerCall]
    next bank mode htest =>
      obtain ⟨-, hctx, -⟩ := startTest_ok htest
      exact acceptWeld_fits h hctx
  · rwa [control_answerCall]

theorem takeWeldStop_fits {source number : Nat} {s : State} (h : (control s).Fits) :
    (control (takeWeldStop source number s)).Fits := by
  unfold takeWeldStop
  dsimp only
  split
  · rw [control_answerCall]
    exact stopWeld_fits h
  · rwa [control_answerCall]

theorem takeClear_fits {source : Nat} {s : State} (h : (control s).Fits) : (control (takeClear source s)).Fits := by
  have hclear : (control (clearCalls (clearQueue s))).Fits := by
    refine fits_of_eq (s := clearQueue s) (cluCleared_fits ?_)
    exact fits_of_eq h
  have hlatch : (control (if s.isConsole source then clearHaltLatch (clearCalls (clearQueue s))
      else clearCalls (clearQueue s))).Fits := ite_fits (fits_of_eq hclear) hclear
  unfold takeClear
  dsimp only
  split
  · exact tensorFreed_fits hlatch
  · exact hlatch

theorem takeClaim_fits {source amount : Nat} {s : State} (h : (control s).Fits) :
    (control (takeClaim source amount s)).Fits := by
  unfold takeClaim
  split
  · exact changeRow_fits h
  · exact h

theorem takeBody_fits {source : Nat} {body : RxBody} {s : State} (h : (control s).Fits) :
    (control (takeBody source body s)).Fits := by
  cases body with
  | announce side role => exact changeRow_fits h
  | claim amount => exact takeClaim_fits h
  | yieldClaim => exact takeClaim_fits h
  | weldStart number args => exact takeWeldStart_fits h
  | weldStop number => exact takeWeldStop_fits h
  | setClosure number => exact (control_answerCall s source number .unsupported 0).symm ▸ h
  | letGo number => exact (control_answerCall s source number .unsupported 0).symm ▸ h
  | unknownCall number => exact (control_answerCall s source number .unsupported 0).symm ▸ h
  | answer number outcome result => exact ite_fits (callFreed_fits h) h
  | halt => exact stopWeld_fits (by rwa [control_setHaltLatch])
  | clearAll => exact takeClear_fits h

theorem receive_fits {want : RxBody → Bool} {bytes : List Byte} {s : State} (h : (control s).Fits) :
    (control (receive want bytes s)).Fits := by
  unfold receive
  split
  · split
    · exact h
    · split
      · exact h
      · exact duplicateFound_fits h
      · exact ite_fits (takeBody_fits h) h
  · exact h

theorem staleRow_fits {n : Nat} {s : State} (h : (control s).Fits) : (control (staleRow n s)).Fits := by
  unfold staleRow
  split
  · exact ite_fits (changeRow_fits h) h
  · exact h

theorem emptyRow_fits {n : Nat} {s : State} (h : (control s).Fits) : (control (emptyRow n s)).Fits := by
  unfold emptyRow
  split
  · exact ite_fits (changeRow_fits h) h
  · exact h

/-! ### Frames sent -/

theorem winAttempt_fits {s : State} (h : (control s).Fits) : (control (winAttempt s)).Fits := by
  unfold winAttempt
  split
  next f rest _ _ =>
    have htold : (control (tellRoom
        { s with lnp := { s.lnp with attempt := none, queue := rest, attemptCount := 0 } })).Fits :=
      tellRoom_fits (fits_of_eq h)
    cases f with
    | announce => exact ite_fits (by rw [control_requestAnnounce]; exact fits_of_eq htold) htold
    | claim a w serial => exact claimSent_fits htold
    | yieldClaim w => exact htold
    | call d n body => exact fits_of_eq htold
    | answer d n code v => exact htold
  next => exact h

theorem frameDiscarded_fits {f : OutFrame} {s : State} (h : (control s).Fits) : (control (frameDiscarded f s)).Fits := by
  cases f with
  | announce => exact h
  | claim a w serial => exact claimDiscarded_fits h
  | yieldClaim w => exact h
  | call d n body => exact ite_fits (callFreed_fits h) h
  | answer d n code v => exact h

theorem loseAttempt_fits {s : State} (h : (control s).Fits) : (control (loseAttempt s)).Fits := by
  unfold loseAttempt
  split
  · dsimp only
    refine ite_fits (frameDiscarded_fits ?_) (fits_of_eq h)
    rw [lineFault, control_logFault]
    exact tellRoom_fits (fits_of_eq h)
  · exact h

/-! ### Samples -/

theorem takeSensorRange_fits {v : Option Int} {s : State} (h : (control s).Fits) :
    (control (takeSensorRange v s)).Fits := by
  unfold takeSensorRange
  extract_lets _ s1
  have h1 : (control s1).Fits := by
    show (control (takeStationFault _ _ _)).Fits
    rw [control_takeStationFault]
    exact Ctl.Fits.fault (fits_of_eq h)
  split
  next hq =>
    rw [control_enterState]
    exact h1.moved (by rw [control_seq, hq]; simp [MayClaim]) (by rw [control_seq, hq]; rfl)
  next => exact h1

theorem takeRangeNotice_fits {i : Input} {s : State} (h : (control s).Fits) : (control (takeRangeNotice i s)).Fits := by
  unfold takeRangeNotice
  split
  · exact h
  · exact takeSensorRange_fits (fits_of_eq h)

theorem takeFreezeNotice_fits {s : State} (h : (control s).Fits) : (control (takeFreezeNotice s)).Fits := by
  have hfreeze {x : State} (hx : (control x).Fits) : (control (takeFreeze x)).Fits := by
    have hcounted : (control (activate .freeze (x.mapProgress fun p => { p with freezeCount := p.freezeCount + 1 }))).Fits := by
      rwa [control_activate, control_mapProgress]
    exact ite_fits (takeFault_fits hcounted) (fits_of_eq hcounted)
  exact ite_fits h (ite_fits (hfreeze (fits_of_eq h)) (fits_of_eq h))

theorem takeClampSlip_fits {s : State} (h : (control s).Fits) : (control (takeClampSlip s)).Fits := by
  unfold takeClampSlip
  split
  · exact h
  · exact takeFault_fits (fits_of_eq h)

theorem takePlatenStall_fits {found : Option Int} {s : State} (h : (control s).Fits) :
    (control (takePlatenStall found s)).Fits := by
  unfold takePlatenStall
  split
  · exact h
  · exact ite_fits (takeFault_fits (fits_of_eq h)) (fits_of_eq h)

theorem clampSample_fits {s : State} (h : (control s).Fits) (hq : s.wsq.seq = .clamp) : (control (clampSample s)).Fits := by
  unfold clampSample
  refine ite_fits (fits_of_eq (s := enterState .plan s) ?_) h
  rw [control_enterState]
  exact h.moved (by rw [control_seq, hq]; simp [MayClaim]) (by rw [control_seq, hq]; rfl)

theorem preheatSample_fits {s : State} (h : (control s).Fits) : (control (preheatSample s)).Fits := by
  unfold preheatSample
  split
  · exact ite_fits (by rwa [control_beginContact]) h
  · exact fits_of_eq h
  · rwa [control_retreat]
  · exact fits_of_eq h
  · exact h

theorem flashSample_fits {s : State} (h : (control s).Fits) (hq : s.wsq.seq = .flash) : (control (flashSample s)).Fits := by
  unfold flashSample
  dsimp only
  split
  · rw [control_backoffSample]
    exact h
  · refine ite_fits (endFlash_fits ?_ hq) (fits_of_eq h)
    exact h

theorem boostSample_fits {s : State} (h : (control s).Fits) (hq : s.wsq.seq = .boost) : (control (boostSample s)).Fits := by
  unfold boostSample
  dsimp only
  split
  · rw [control_backoffSample]
    exact h
  · refine ite_fits (enterUpset_fits ?_ (.inr hq)) (fits_of_eq h)
    exact h

theorem upsetSample_fits {s : State} (h : (control s).Fits) : (control (upsetSample s)).Fits := by
  refine leaveUpset_fits ?_
  rw [control_strokeSample]
  exact ite_fits h (fits_of_eq h)

theorem unclampSample_fits {s : State} (h : (control s).Fits) (hq : s.wsq.seq = .unclamp ∨ s.wsq.seq = .stopping) :
    (control (unclampSample s)).Fits := by
  refine ite_fits (buildOutcome_fits h ?_ ?_) h
  all_goals rcases hq with hq | hq <;> simp [hq, MayClaim, SeqState.welding]

theorem takePhase_fits {start : SeqState} {s : State} (h : (control s).Fits) : (control (takePhase start s)).Fits := by
  unfold takePhase
  split
  next hq =>
    split
    · exact clampSample_fits h hq
    · exact preheatSample_fits h
    · exact flashSample_fits h hq
    · exact boostSample_fits h hq
    · exact upsetSample_fits h
    · exact unclampSample_fits h (.inl hq)
    · exact unclampSample_fits h (.inr hq)
    · exact h
  next => exact h

theorem takeFinding_fits {start : SeqState} {stall : Option Int} {f : Finding} {s : State} (h : (control s).Fits) :
    (control (takeFinding start stall s f)).Fits := by
  cases f with
  | stall => exact takePlatenStall_fits h
  | limit => exact ite_fits (takeFault_fits h) h
  | phase => exact takePhase_fits h
  | freeze => exact takeFreezeNotice_fits h
  | slip => exact takeClampSlip_fits h
  | range input => exact takeRangeNotice_fits h

theorem takeSample_fits {raw : Samples} {order : SampleOrder} {s : State} (h : (control s).Fits) :
    (control (takeSample raw order s)).Fits := by
  unfold takeSample takeFindings
  refine ite_fits h (List.foldlRecOn (motive := fun x => (control x).Fits) _ _ ?_ fun _ hx _ _ => takeFinding_fits hx)
  rwa [control_measure]

/-! ### The plan and the timers -/

theorem takePlan_fits {c : WeldCtx} {tR g0 : Int} {s : State} (h : (control s).Fits) (hq : s.wsq.seq = .plan) :
    (control (takePlan c tR g0 s)).Fits := by
  unfold takePlan
  extract_lets r s1
  have hcontrol : control s1 = control s := control_mapCtx _ fun _ => rfl
  have h1 : (control s1).Fits := hcontrol.symm ▸ h
  have hq1 : s1.wsq.seq = .plan := (congrArg Ctl.seq hcontrol).trans hq
  split
  · exact takeFault_fits h1
  · split
    · exact enterPower_fits (h1.context.trans (by rw [control_seq, hq1]; rfl))
        (h1.unwatched (by simp [hq1]) (by simp [hq1]))
    · unfold pairTensor
      split
      · exact takeFault_fits h1
      · refine enterClose_fits ?_ ?_
        · simp only [control_mapCtx, implies_true]
          exact h1
        · exact hq1
      · exact takeFault_fits h1

theorem takePlanning_fits {s : State} (h : (control s).Fits) : (control (takePlanning s)).Fits := by
  unfold takePlanning
  split
  · dsimp only
    split
    · split
      next hq => exact takePlan_fits (fits_of_eq h) hq
      next => exact fits_of_eq h
    · exact fits_of_eq h
  · exact h

/-- R82, R83: the last open ends in FLASH, or in the wait for the gate of a TENSIONED weld. -/
theorem endPreheat_fits {s : State} (h : (control s).Fits) (hq : s.wsq.seq = .preheat) :
    (control (endPreheat s)).Fits := by
  have hasks : ¬Asks s.clu.step := h.not_asks (by simp [hq])
  unfold endPreheat
  dsimp only
  split
  next hm => exact requestHeatGate_fits (fits_of_eq h) (.inr hq) hm hasks
  next hm =>
    refine enterFlash_fits (fits_of_eq h) ?_ (fun _ => hasks) fun hw => hm ?_
    · show s.wsq.seq.welding = true
      rw [hq]
      rfl
    · exact (tensioned_iff s).mpr (h.watch hw).2

theorem endOpen_fits {s : State} (h : (control s).Fits) (hq : s.wsq.seq = .preheat) : (control (endOpen s)).Fits := by
  have hburn : control (writePreheatBurn s) = control s := control_writePreheatBurn s
  have h1 : (control (writePreheatBurn s)).Fits := hburn.symm ▸ h
  unfold endOpen
  exact ite_fits (by rwa [control_beginApproach]) (endPreheat_fits h1 ((congrArg Ctl.seq hburn).trans hq))

theorem endWindow_fits {s : State} (h : (control s).Fits) : (control (endWindow s)).Fits := by
  unfold endWindow
  dsimp only
  refine ite_fits (takeFault_fits ?_) ?_
  all_goals exact activate_fits (fits_of_eq h)

theorem expireShed_fits {s : State} (h : (control s).Fits) (hst : s.clu.step = .shed) :
    (control (expireShed s)).Fits := by
  refine ite_fits (endShed_fits h (by simp [hst])) ?_
  rw [control_losePower]
  exact h.fault

theorem leaveOffline_fits {s : State} (h : (control s).Fits) (hq : s.wsq.seq = .offline) :
    (control (leaveOffline s)).Fits := by
  unfold leaveOffline
  dsimp only
  rw [control_requestAnnounce]
  refine fits_of_eq (s := enterState (if s.wsq.lock then .locked else .ready) s) ?_
  rw [control_enterState]
  refine h.moved (by rw [control_seq, hq]; simp [MayClaim]) ?_
  rw [control_seq, hq]
  split <;> rfl

/-! ### The store -/

theorem logFault_fits {k : FaultKind} {n : Option Nat} {i : Option Int} {s : State} (h : (control s).Fits) :
    (control (logFault k n i s)).Fits := by
  rwa [control_logFault]

theorem installOutcome_fits {code : StatusCode} {field : Nat} {s : State} (h : (control s).Fits) :
    (control (installOutcome code field s)).Fits := h

theorem failWrite_fits {area : Nat} {s : State} (h : (control s).Fits) : (control (failWrite area s)).Fits :=
  installOutcome_fits (logFault_fits h)

theorem installBank_fits {n : BankName} {image : List Byte} {s : State} (h : (control s).Fits) :
    (control (installBank n image s)).Fits := by
  refine ite_fits (fits_of_eq h) (ite_fits (fits_of_eq h) ?_)
  split
  all_goals exact fits_of_eq h

theorem installCapture_fits {image : List Byte} {s : State} (h : (control s).Fits) :
    (control (installCapture image s)).Fits := by
  refine ite_fits (fits_of_eq h) (ite_fits (fits_of_eq h) ?_)
  split
  all_goals exact fits_of_eq h

theorem loadTransfer_fits {k : LoadKind} {c : SvpCommand} {s : State} (h : (control s).Fits) :
    (control (loadTransfer k c s)).Fits := by
  have hover {g : Staging} {x : State} (hx : (control x).Fits) : (control (handOver g x)).Fits := by
    unfold handOver
    dsimp only
    split
    · exact installBank_fits (fits_of_eq hx)
    · exact installBank_fits (fits_of_eq hx)
    · exact installCapture_fits (fits_of_eq hx)
  have happend {x : State} {g : Staging} {data : List Byte} {ends : Bool} (hx : (control x).Fits) :
      (control (appendStaging g data ends x)).Fits :=
    ite_fits (fits_of_eq hx) (ite_fits (hover hx) (fits_of_eq hx))
  refine ite_fits (happend (fits_of_eq h)) ?_
  split
  · exact ite_fits (happend h) (fits_of_eq h)
  · exact fits_of_eq h

theorem clearFaultLog_fits {s : State} (h : (control s).Fits) : (control (clearFaultLog s)).Fits := by
  refine fits_of_eq (s := clearLog s) (ite_fits ?_ (fits_of_eq h))
  rw [control_announceChange]
  exact h

theorem writeTransfer_fits {want : Byte → Bool} {t : WriteTransfer} {s : State} (h : (control s).Fits) :
    (control (writeTransfer want t s)).Fits := by
  rcases writeTransfer_cases want t s with ⟨p, hport⟩ | ⟨b, c, p, -, -, hout⟩
  · rw [hport]
    exact h
  · rw [hout]
    have h1 : (control { s with svp := p }).Fits := h
    by_cases hone : c.kind = 1
    · simpa only [carryOut, hone] using loadTransfer_fits h1
    by_cases htwo : c.kind = 2
    · simpa only [carryOut, htwo] using loadTransfer_fits h1
    by_cases hthree : c.kind = 3
    · simpa only [carryOut, hthree] using loadTransfer_fits h1
    by_cases height : c.kind = 8
    · simpa only [carryOut, height] using clearFaultLog_fits h1
    obtain ⟨q, hq⟩ := carryOut_port c { s with svp := p } hone htwo hthree height
    rw [hq]
    exact h

theorem endScheduleWrite_fits {ok : Bool} {s : State} (h : (control s).Fits) :
    (control (endScheduleWrite ok s)).Fits := by
  unfold endScheduleWrite
  split
  · exact ite_fits (fits_of_eq h) (failWrite_fits (fits_of_eq h))
  · exact h

theorem endCaptureWrite_fits {ok : Bool} {s : State} (h : (control s).Fits) : (control (endCaptureWrite ok s)).Fits := by
  have hprogram {x : State} {p : Program} (hx : (control x).Fits) : (control (programWritten p x)).Fits :=
    ite_fits (fits_of_eq hx) (fits_of_eq hx)
  unfold endCaptureWrite
  split
  · exact ite_fits (installOutcome_fits (hprogram (fits_of_eq h))) (failWrite_fits (fits_of_eq h))
  · exact h

theorem markBad_fits {n : Nat} {s : State} (h : (control s).Fits) : (control (markBad n s)).Fits :=
  fits_of_eq (s := logFault .storeFault _ _ { s with rst := s.rst.setBlock n .bad }) (logFault_fits (fits_of_eq h))

theorem tryCommit_fits {s : State} (h : (control s).Fits) :
    (control { s with rst := s.rst.tryCommit }).Fits := h

theorem endCommit_fits {ok : Bool} {s : State} (h : (control s).Fits) : (control (endCommit ok s)).Fits := by
  unfold endCommit
  split
  · refine ite_fits h (ite_fits (fits_of_eq h) ?_)
    exact tryCommit_fits (markBad_fits (fits_of_eq h))
  · exact h

theorem endErase_fits {ok : Bool} {s : State} (h : (control s).Fits) : (control (endErase ok s)).Fits := by
  unfold endErase
  split
  · exact h
  · exact ite_fits (fits_of_eq h) (tryCommit_fits (markBad_fits (fits_of_eq h)))

theorem checkSettings_fits {s : State} (h : (control s).Fits) : (control (checkSettings s)).Fits := by
  have hbad {n : Nat} {b : Bool} {x : State} (hx : (control x).Fits) : (control (settingsBad n b x)).Fits :=
    ite_fits (logFault_fits hx) hx
  exact hbad (hbad (hbad (fits_of_eq h)))

/-- R50, R115: the control fields of a reset. -/
theorem reset_fits {s : State} (h : control s = control State.reset) : (control s).Fits := by
  rw [h]
  refine ⟨rfl, fun hst => absurd rfl hst, fun ha => ?_, fun hu => (by cases hu), fun hw => (by cases hw)⟩
  rcases ha with ha | ha | ha | ha <;> cases ha

/-! ### Every command -/

/-- What the meaning of a command works out, before the gate. -/
theorem exec_fits (c : Instr) {s : State} (h : (control s).Fits) : ∃ x, exec c s = finish x ∧ (control x).Fits := by
  cases c with
  | supplyReset w => exact ⟨_, rfl, checkSettings_fits (reset_fits rfl)⟩
  | lineReset => exact ⟨_, rfl, reset_fits rfl⟩
  | lineResetRelease n side => exact ⟨_, rfl, ite_fits (fits_of_eq h) h⟩
  | lineOkRise => exact ⟨_, rfl, fits_of_eq h⟩
  | lineOkFall => exact ⟨_, rfl, fits_of_eq h⟩
  | offlineExit =>
    refine ⟨_, rfl, ?_⟩
    split
    next hover =>
      simp only [State.offlineOver, Bool.and_eq_true, beq_iff_eq] at hover
      exact leaveOffline_fits h hover.1.1.1.1
    next => exact h
  | headStop => exact ⟨_, rfl, ite_fits h (stopWeld_fits (fits_of_eq h))⟩
  | headStopRelease => exact ⟨_, rfl, fits_of_eq h⟩
  | sample raw order => exact ⟨_, rfl, takeSample_fits h⟩
  | sensorRange input => exact ⟨_, rfl, takeRangeNotice_fits h⟩
  | freezeNotice => exact ⟨_, rfl, takeFreezeNotice_fits h⟩
  | clampSlip => exact ⟨_, rfl, takeClampSlip_fits h⟩
  | planningMeasurement => exact ⟨_, rfl, takePlanning_fits h⟩
  | clampFail => exact ⟨_, rfl, ite_fits (takeFault_fits h) h⟩
  | contactEnd => exact ⟨_, rfl, ite_fits (by rwa [control_endContact]) h⟩
  | openEnd =>
    refine ⟨_, rfl, ?_⟩
    split
    next hopen => exact endOpen_fits h hopen.1
    next => exact h
  | noContact => exact ⟨_, rfl, ite_fits (takeFault_fits h) h⟩
  | windowEnd => exact ⟨_, rfl, ite_fits (endWindow_fits h) h⟩
  | backoffLimit => exact ⟨_, rfl, ite_fits (fits_of_eq h) h⟩
  | tUcExpiry => exact ⟨_, rfl, ite_fits (leaveUpset_fits (heatOver_fits h)) h⟩
  | upsetLimit => exact ⟨_, rfl, ite_fits (leaveUpset_fits (by rwa [control_endStroke])) h⟩
  | holdTick => exact ⟨_, rfl, ite_fits (activate_fits (fits_of_eq h)) h⟩
  | holdTimerExpiry =>
    refine ⟨_, rfl, ?_⟩
    split
    next hhold => exact endHold_fits h hhold.1
    next => exact h
  | tensorSlow =>
    refine ⟨_, rfl, ?_⟩
    split
    next hslow =>
      refine enterUnclamp_fits (by rwa [control_enterFault]) ?_ ?_
      all_goals rw [enterFault_wsq, hslow.1]; simp [MayClaim, SeqState.welding]
    next => exact h
  | unclampSlow =>
    refine ⟨_, rfl, ?_⟩
    split
    next hslow =>
      have hq : ¬MayClaim s.wsq.seq ∧ s.wsq.seq.welding = true := by
        cases hseq : s.wsq.seq <;> simp [hseq, SeqState.unclamping, MayClaim, SeqState.welding] at hslow ⊢
      exact buildOutcome_fits (by rwa [control_enterFault]) (by rw [enterFault_wsq]; exact hq.1)
        (by rw [enterFault_wsq]; exact hq.2)
    next => exact h
  | tick10ms => exact ⟨_, rfl, ite_fits (activate_fits (fits_of_eq h)) h⟩
  | announceFrame bytes => exact ⟨_, rfl, receive_fits h⟩
  | claimFrame bytes => exact ⟨_, rfl, receive_fits h⟩
  | yieldFrame bytes => exact ⟨_, rfl, receive_fits h⟩
  | weldStart bytes => exact ⟨_, rfl, receive_fits h⟩
  | weldStop bytes => exact ⟨_, rfl, receive_fits h⟩
  | setClosureCall bytes => exact ⟨_, rfl, receive_fits h⟩
  | letGoCall bytes => exact ⟨_, rfl, receive_fits h⟩
  | unknownCallKind bytes => exact ⟨_, rfl, receive_fits h⟩
  | answerFrame bytes => exact ⟨_, rfl, receive_fits h⟩
  | haltFrame bytes => exact ⟨_, rfl, receive_fits h⟩
  | clearFrame bytes => exact ⟨_, rfl, receive_fits h⟩
  | duplicateStation bytes => exact ⟨_, rfl, receive_fits h⟩
  | rowStale n => exact ⟨_, rfl, staleRow_fits h⟩
  | rowEmpty n => exact ⟨_, rfl, emptyRow_fits h⟩
  | announceTimer => exact ⟨_, rfl, ite_fits (by rw [control_requestAnnounce]; exact h) h⟩
  | attemptStart n =>
    refine ⟨_, rfl, ?_⟩
    unfold beginAttempt
    split
    · exact h
    · exact ite_fits (fits_of_eq h) h
  | attemptWon => exact ⟨_, rfl, winAttempt_fits h⟩
  | attemptLost => exact ⟨_, rfl, loseAttempt_fits h⟩
  | callDeadline n => exact ⟨_, rfl, ite_fits (callFreed_fits h) h⟩
  | settleTimerExpiry =>
    refine ⟨_, rfl, ?_⟩
    split
    next hdue => exact grantClaim_fits h hdue.1
    next => exact h
  | backoffTimerExpiry =>
    refine ⟨_, rfl, ?_⟩
    split
    next hdue => exact (decideClaim_reasked _).of_asks (fits_of_eq h) (.inr (.inr (.inr hdue.1)))
    next => exact h
  | shedTimerExpiry =>
    refine ⟨_, rfl, ?_⟩
    split
    next hdue => exact expireShed_fits h hdue.1
    next => exact h
  | powerDenied => exact ⟨_, rfl, ite_fits (takeFault_fits h) h⟩
  | tensorTimeout => exact ⟨_, rfl, ite_fits (takeFault_fits h) h⟩
  | tensorLost => exact ⟨_, rfl, ite_fits (takeFault_fits h) h⟩
  | commitEnd ok => exact ⟨_, rfl, endCommit_fits h⟩
  | eraseEnd ok => exact ⟨_, rfl, endErase_fits h⟩
  | scheduleWriteEnd ok => exact ⟨_, rfl, endScheduleWrite_fits h⟩
  | captureWriteEnd ok => exact ⟨_, rfl, endCaptureWrite_fits h⟩
  | loadBankA t => exact ⟨_, rfl, writeTransfer_fits h⟩
  | loadBankB t => exact ⟨_, rfl, writeTransfer_fits h⟩
  | loadCapture t => exact ⟨_, rfl, writeTransfer_fits h⟩
  | beginStaging t => exact ⟨_, rfl, writeTransfer_fits h⟩
  | endStaging t => exact ⟨_, rfl, writeTransfer_fits h⟩
  | selectRecord t => exact ⟨_, rfl, writeTransfer_fits h⟩
  | readData t => exact ⟨_, rfl, writeTransfer_fits h⟩
  | readStatus t => exact ⟨_, rfl, writeTransfer_fits h⟩
  | readFaults t => exact ⟨_, rfl, writeTransfer_fits h⟩
  | clearFaults t => exact ⟨_, rfl, writeTransfer_fits h⟩
  | fetchDone =>
    obtain ⟨p, hport⟩ := endFetch_port s
    exact ⟨_, rfl, by rw [hport]; exact h⟩
  | readTransfer t =>
    obtain ⟨p, hport⟩ := readTransfer_port t s
    exact ⟨_, rfl, by rw [hport]; exact h⟩
  | clockLowTimeout => exact ⟨_, rfl, ite_fits h (fits_of_eq h)⟩
  | unknownCommandKind t => exact ⟨_, rfl, writeTransfer_fits h⟩

/-- Settles O54: the weld context, the sequencer state, the claim step and the gate watch move together in every
operation. -/
theorem everyStepKeepsContextAndState : Obligations.EveryStepKeepsContextAndState := by
  intro s t h hout
  rw [weldFits_iff] at h ⊢
  rcases step_cases hout with rfl | ⟨c, rest, -, hexec⟩
  · exact h
  · obtain ⟨x, hx, hfits⟩ := exec_fits c (s := { s with pending := rest }) h
    obtain rfl : gateCurrent x = t := Host.Outcome.next.inj (hx.symm.trans hexec)
    rwa [control_gateCurrent]

end Sys2Proof.Proofs.Control

/-! Resets (R15, R16, R31, R50, R74, R75, R97, R112, R128, R169, R181, R182, R191): the state each leaves, written out,
and the statements SupplyResetSetsEveryBlock, SupplyResetChecksTheSettings, SupplyResetScansTheRing,
LineResetKeepsTheStore and ResetStateKeepsTheInvariant. -/
namespace Sys2Proof.Proofs.Resets
open Sys2Proof Sys2Proof.Machine Sys2Proof.Proofs.Invariants Sys2Proof.Proofs.Steps Sys2Proof.Proofs.Records

set_option Elab.async false

/-! ### The settings check -/

/-- R72, R146: while the announce timer does not run, a fault that is logged changes the log alone. -/
theorem logFault_quiet (k : FaultKind) (n : Option Nat) (i : Option Int) (s : State) (h : s.lnp.announceTimer = none) :
    logFault k n i s = { s with
      rst := { s.rst with log := s.rst.log.file { kind := k, state := s.wsq.seq, weldNumber := n, input := i } } } := by
  unfold logFault announceChange
  simp [h]

/-- R31: the log after the check of one area, in OFFLINE. -/
def checkedArea (area : Int) (bad : Bool) (log : FaultLog) : FaultLog :=
  if bad then log.file { kind := .settingsBad, state := .offline, weldNumber := none, input := some area } else log

theorem settingsBad_eq (area : Nat) (bad : Bool) (s : State) (h : s.lnp.announceTimer = none) (hq : s.wsq.seq = .offline) :
    settingsBad area bad s = { s with rst := { s.rst with log := checkedArea area bad s.rst.log } } := by
  unfold settingsBad checkedArea
  split
  · rw [logFault_quiet _ _ _ _ h, hq]
  · rfl

/-- R31: the settings check of a head that stands in OFFLINE with its announce timer stopped. -/
theorem checkSettings_eq (s : State) (h : s.lnp.announceTimer = none) (hq : s.wsq.seq = .offline) :
    checkSettings s = { s with
      cap := s.cap.takeProgram (programOfStored s.rst.captureBlock)
      rst := { s.rst with
        bankA := bankOfStored s.rst.scheduleBlock.a
        bankB := bankOfStored s.rst.scheduleBlock.b
        log := checkedArea 3 (!s.rst.captureBlock.checks)
          (checkedArea 2 (!(bankOfStored s.rst.scheduleBlock.b).valid)
            (checkedArea 1 (!(bankOfStored s.rst.scheduleBlock.a).valid) s.rst.log)) } } := by
  unfold checkSettings
  dsimp only
  rw [settingsBad_eq 1 _ _ (by exact h) (by exact hq), settingsBad_eq 2 _ _ (by exact h) (by exact hq),
    settingsBad_eq 3 _ _ (by exact h) (by exact hq)]
  rfl

/-- R74: the state a supply reset leaves. -/
def afterSupplyReset (w : ResetWires) (s : State) : State :=
  { powerUp w s with
    cap := Cap.takeProgram (programOfStored s.rst.captureBlock) {}
    rst := { (powerUp w s).rst.scanned with
      bankA := bankOfStored s.rst.scheduleBlock.a
      bankB := bankOfStored s.rst.scheduleBlock.b
      erase := (powerUp w s).rst.scanned.testErase.erase
      log := checkedArea 3 (!s.rst.captureBlock.checks)
        (checkedArea 2 (!(bankOfStored s.rst.scheduleBlock.b).valid)
          (checkedArea 1 (!(bankOfStored s.rst.scheduleBlock.a).valid) {})) } }

theorem supplyReset_exec (w : ResetWires) (s : State) : exec (.supplyReset w) s = .next (afterSupplyReset w s) := by
  show finish (checkSettings (scanRing (powerUp w s))) = _
  rw [checkSettings_eq _ rfl rfl]
  unfold scanRing
  rw [testErase_eq]
  rfl

/-- R162: the run states after a program has taken effect. -/
theorem takeProgram_runs (p : Program) (c : Cap) : FreshRuns (c.takeProgram p) := by
  intro d
  have hruns : (c.takeProgram p).runs = p.descriptors.map (fun d => d.elim {} (fun d => { pos := d.start, remaining := d.reload })) :=
    rfl
  have hprogram : (c.takeProgram p).program = p := rfl
  rw [hruns, hprogram, List.getD_eq_getElem?_getD, List.getD_eq_getElem?_getD, List.getElem?_map]
  cases p.descriptors[d]? with
  | none => rfl
  | some o => cases o <;> rfl

/-- Settles O3. -/
theorem supplyResetSetsEveryBlock : Obligations.SupplyResetSetsEveryBlock := by
  intro w s
  refine ⟨_, supplyReset_exec w s, rfl, rfl, rfl, fun i => ?_, rfl, rfl, rfl, rfl, rfl, rfl, rfl, rfl, rfl,
    takeProgram_runs _ _, rfl, rfl, rfl, rfl⟩
  cases i <;> rfl

/-- R31: a stored half makes its bank VALID exactly where its check matches and its fields are good. -/
theorem firstBadField_isNone_iff (k : Schedule) :
    (firstBadField k).isNone = true ↔ ∀ i, 1 ≤ i → i ≤ 54 → fieldGood k i = true := by
  simp only [firstBadField, Option.isNone_iff_eq_none, List.find?_eq_none, List.mem_range'_1, Bool.not_eq_true',
    Bool.not_eq_false, and_imp]
  exact forall_congr' fun i => forall_congr' fun _ => ⟨fun h hi => h (by omega), fun h hi => h (by omega)⟩

/-- R31: a stored half that passes both checks. -/
def HalfGood (m : StoredImage) : Prop :=
  m.checks = true ∧ ∀ i, 1 ≤ i → i ≤ 54 → fieldGood (scheduleOfImage m.image) i = true

theorem bankOfStored_good {m : StoredImage} (h : HalfGood m) :
    bankOfStored m = { image := scheduleOfImage m.image, valid := true, installing := false } := by
  have hgood := (firstBadField_isNone_iff _).mpr h.2
  simp [bankOfStored, h.1, hgood]

theorem bankOfStored_bad {m : StoredImage} (h : ¬HalfGood m) :
    bankOfStored m = { image := { fields := List.replicate 54 0 }, valid := false, installing := false } := by
  have hbad : ¬(m.checks && (firstBadField (scheduleOfImage m.image)).isNone) = true := by
    rwa [Bool.and_eq_true, firstBadField_isNone_iff]
  rw [bankOfStored, if_neg hbad]

theorem programOfStored_vectors {m : StoredImage} (h : m.checks = false) : ∀ v ∈ (programOfStored m).vectors, v = none := by
  intro v hv
  rw [programOfStored, h] at hv
  exact (List.mem_replicate.mp hv).2

/-- R31: the areas that fail reach the cleared log in order. -/
theorem checkedAreas_eq (a b p : Bool) :
    checkedArea 3 (!p) (checkedArea 2 (!b) (checkedArea 1 (!a) {}))
      = ((if a then [] else ([1] : List Int)) ++ (if b then [] else [2]) ++ (if p then [] else [3])).foldl
        (fun (log : FaultLog) (area : Int) => log.file
          { kind := .settingsBad, state := .offline, weldNumber := none, input := some area })
        { first := none, counts := List.replicate 35 0 } := by
  cases a <;> cases b <;> cases p <;> rfl

/-- Settles O4. -/
theorem supplyResetChecksTheSettings : Obligations.SupplyResetChecksTheSettings := by
  intro w s
  refine ⟨_, supplyReset_exec w s, fun h => bankOfStored_good h, fun h => bankOfStored_bad h, fun h => bankOfStored_good h,
    fun h => bankOfStored_bad h, fun h => ?_, fun h => programOfStored_vectors h, ?_⟩
  · show programOfStored s.rst.captureBlock = _
    rw [programOfStored, h]
    rfl
  · exact checkedAreas_eq _ _ _

/-! ### The scan -/

theorem programmingBlock_iff (r : Rst) (n : Nat) :
    r.programmingBlock = some n ↔ r.slot.any (·.programming) = true ∧ r.targetBlock = some n := by
  unfold Rst.programmingBlock
  cases r.slot with
  | none => simp
  | some p => cases hp : p.programming <;> simp [hp]

/-- R181: what the scan makes of a block. -/
theorem scanBlock_eq (erasing programming : Option Nat) (n : Nat) (x : Block) :
    scanBlock erasing programming n x
      = if x = .bad then .bad else if erasing = some n ∨ programming = some n then .held none else x := by
  cases x <;> simp [scanBlock]

/-- R181: the next number and the write position of the scan come from the newest block, if a record is held. -/
theorem scanned_next (r : Rst) :
    (∃ n w, n < r.scanned.blocks.length ∧ r.scanned.block n = .held (some w) ∧ r.scanned.nextWeld = w.weldNumber + 1
        ∧ r.scanned.writePos = (n + 1) % 32)
    ∨ ((∀ w, .held (some w) ∉ r.scanned.blocks) ∧ r.scanned.nextWeld = 1 ∧ r.scanned.writePos = 0) := by
  have hnext : r.scanned.nextWeld = (newestBlock r.scanned.blocks).elim 1 (fun x => x.2 + 1) := rfl
  have hpos : r.scanned.writePos = (newestBlock r.scanned.blocks).elim 0 (fun x => (x.1 + 1) % 32) := rfl
  cases hnewest : newestBlock r.scanned.blocks with
  | none =>
    rw [hnewest] at hnext hpos
    exact .inr ⟨(newestBlock_none_iff _).mp hnewest, hnext, hpos⟩
  | some x =>
    rw [hnewest] at hnext hpos
    obtain ⟨⟨w, hw, hnumber⟩, -⟩ := newestBlock_some _ x.1 x.2 hnewest
    obtain ⟨hlt, -⟩ := List.getElem?_eq_some_iff.mp hw
    refine .inl ⟨x.1, w, hlt, ?_, by rw [hnumber]; exact hnext, hpos⟩
    rw [Rst.block, List.getD_eq_getElem?_getD, hw]
    rfl

/-- R179: with no erase in progress, the test begins the erase of a HELD target block. -/
theorem testErase_erase_iff (r : Rst) (h : r.erase = none) (n : Nat) :
    r.testErase.erase = some n ↔ r.targetBlock = some n ∧ (r.block n).isHeld = true := by
  unfold Rst.testErase
  rw [h]
  cases ht : r.targetBlock with
  | none => simp [h]
  | some m =>
    dsimp only
    split
    next hheld => simp only [Option.some.injEq]; exact ⟨fun hm => ⟨hm, hm ▸ hheld⟩, fun hm => hm.1⟩
    next hheld =>
      simp only [h, Option.some.injEq]
      exact ⟨fun hm => by simp at hm, fun hm => absurd (hm.1 ▸ hm.2) hheld⟩

/-- Settles O5. -/
theorem supplyResetScansTheRing : Obligations.SupplyResetScansTheRing := by
  intro w s
  refine ⟨_, supplyReset_exec w s, ?_, fun n => ?_, fun r hr => scanned_above (powerUp w s).rst r hr,
    scanned_next (powerUp w s).rst, rfl, fun n => testErase_erase_iff (powerUp w s).rst.scanned rfl n⟩
  · show (s.rst.blocks.mapIdx _).length = _
    exact List.length_mapIdx
  · have hblock : (afterSupplyReset w s).rst.block n = scanBlock s.rst.erase s.rst.programmingBlock n (s.rst.block n) :=
      scanned_block (powerUp w s).rst n
    simp only [hblock, scanBlock_eq, programmingBlock_iff]

/-! ### A line reset -/

theorem lineReset_exec (s : State) : exec .lineReset s = .next (resetLine s) := rfl

/-- R182: what a line reset does to the ring. -/
theorem lineReset_blocks (r : Rst) : ∃ blocks, r.lineReset = { r with slot := none, blocks := blocks }
    ∧ (r.slot.any (·.programming) = false → blocks = r.blocks)
    ∧ ∀ n, r.slot.any (·.programming) = true → r.targetBlock = some n → blocks = r.blocks.set n (.held none) := by
  unfold Rst.lineReset
  split
  next t ht =>
    obtain ⟨hslot, htarget⟩ := (programmingBlock_iff r t).mp ht
    refine ⟨_, rfl, fun hnot => absurd (hslot.symm.trans hnot) (by simp), fun n _ hn => ?_⟩
    obtain rfl : t = n := Option.some.inj (htarget.symm.trans hn)
    rfl
  next ht =>
    refine ⟨r.blocks, rfl, fun _ => rfl, fun n hslot hn => ?_⟩
    rw [(programmingBlock_iff r n).mpr ⟨hslot, hn⟩] at ht
    cases ht

/-- Settles O6. -/
theorem lineResetKeepsTheStore : Obligations.LineResetKeepsTheStore := by
  intro s
  refine ⟨_, lineReset_exec s, rfl, rfl, rfl, rfl, rfl, rfl, rfl, rfl, rfl, rfl, ?_, ?_, fun h => ?_, fun h => ?_,
    lineReset_blocks s.rst, rfl⟩
  · show s.cap.takeWaiting.waiting = none
    cases h : s.cap.waiting <;> simp [Cap.takeWaiting, Cap.takeProgram, h]
  · show s.cap.takeWaiting.program = _
    cases h : s.cap.waiting <;> simp [Cap.takeWaiting, Cap.takeProgram, h]
  · show { s.cap.takeWaiting with tick := none } = _
    simp [Cap.takeWaiting, h]
  · obtain ⟨p, hp⟩ := Option.isSome_iff_exists.mp h
    show s.cap.takeWaiting.memory = []
    simp [Cap.takeWaiting, Cap.takeProgram, hp]

/-! ### The state after reset -/

/-- The wires and straps of the state after reset (log 5). -/
def lowWires : ResetWires := { station := 0#4, side := .left, lineOk := false, headStop := false, lineReset := false }

/-- R144: one bit of the check keeps a register that is not 0 from 0. -/
theorem crc16Bit_ne_zero {c : BitVec 16} (h : c ≠ 0#16) : crc16Bit c ≠ 0#16 := by
  unfold crc16Bit
  split
  next =>
    intro hzero
    have hbit := congrArg (fun x : BitVec 16 => x.getLsbD 0) hzero
    simp at hbit
  next hmsb =>
    intro hzero
    have hhigh : 2 * c.toNat < 2 ^ 16 := BitVec.msb_eq_false_iff_two_mul_lt.mp (by simpa using hmsb)
    have hshift : c.toNat <<< 1 % 2 ^ 16 = 0 := by
      simpa using congrArg BitVec.toNat hzero
    refine h (BitVec.eq_of_toNat_eq ?_)
    rw [Nat.shiftLeft_eq] at hshift
    show c.toNat = 0
    omega

theorem crc16_zeros_ne_zero (n : Nat) : crc16 (List.replicate n 0#8) ≠ 0#16 := by
  have hfold : ∀ n (c : BitVec 16), c ≠ 0#16 → (List.replicate n (0#8 : Byte)).foldl crc16Byte c ≠ 0#16 := by
    intro n
    induction n with
    | zero => exact fun c h => h
    | succ n ih =>
      refine fun c h => ih _ ?_
      have hbyte : c ^^^ ((0#8 : Byte).setWidth 16 <<< 8) = c := by simp
      unfold crc16Byte
      rw [hbyte]
      iterate 8 apply crc16Bit_ne_zero
      exact h
  exact hfold n _ (by decide)

/-- The check of an image of zeros is not the 0 that stands with it (log 7). -/
theorem blankImage_checks (n : Nat) : (blankImage n).checks = false := by
  simpa [StoredImage.checks, blankImage] using crc16_zeros_ne_zero n

theorem blank_bank : bankOfStored (blankImage 112) = {} :=
  bankOfStored_bad fun h => Bool.false_ne_true ((blankImage_checks 112).symm.trans h.1)

/-- R181: the scan of an empty ring. -/
theorem reset_scanned : (powerUp lowWires State.reset).rst.scanned = { State.reset.rst with log := {} } := by
  have hblocks : (powerUp lowWires State.reset).rst.scannedBlocks = List.replicate 32 .erased := by decide +kernel
  have hnewest : newestBlock (List.replicate 32 .erased) = none := by decide +kernel
  unfold Rst.scanned
  dsimp only
  rw [hblocks, hnewest]
  rfl

theorem reset_testErase : (Rst.testErase { State.reset.rst with log := {} }).erase = none := by decide +kernel

/-- R31, R181: the check of a module as delivered finds its three areas bad and its ring empty. -/
theorem afterSupplyReset_delivered : afterSupplyReset lowWires State.reset = State.reset := by
  have hprogram : programOfStored (blankImage 348) = {} := by simp [programOfStored, blankImage_checks]
  have hbank : bankOfStored State.reset.rst.scheduleBlock.a = {} ∧ bankOfStored State.reset.rst.scheduleBlock.b = {} :=
    ⟨blank_bank, blank_bank⟩
  unfold afterSupplyReset
  rw [reset_scanned, reset_testErase, hbank.1, hbank.2, show State.reset.rst.captureBlock = blankImage 348 from rfl, hprogram,
    blankImage_checks]
  rfl

theorem reset_inv : Inv State.reset where
  weld := (Control.weldFits_iff _).mpr (Control.reset_fits rfl)
  line := ⟨by decide, by decide, by decide, by decide⟩
  banks := ⟨fun c hc => (by cases hc), fun n image hw => (by cases hw)⟩
  trace := rfl
  records := by
    have hblocks : ∀ w, .held (some w) ∉ State.reset.rst.blocks := fun w hw => by
      cases (List.mem_replicate.mp hw).2
    exact ⟨fun h => (by cases h), fun c hc => (by cases hc), fun p hp => (by cases hp), fun w hw => absurd hw (hblocks w),
      fun n m v w _ hv _ => absurd ((held_mem_iff _ _).mpr ⟨n, hv⟩) (hblocks v)⟩
  list := ⟨fun c hc => (by cases hc), fun c hc => (by cases hc), fun c hc => (by cases hc)⟩
  current := .inr (.inr (.inr (.inr rfl)))

/-- Settles O53. -/
theorem resetStateKeepsTheInvariant : Obligations.ResetStateKeepsTheInvariant := by
  refine ⟨reset_inv, ?_⟩
  have hexec := supplyReset_exec lowWires State.reset
  rwa [afterSupplyReset_delivered] at hexec

end Sys2Proof.Proofs.Resets

/-! The commands that act on a wire, and the commands that wait for a timer: the statements StepRunsTheFrontCommand,
TrainWiresAct, OfflineIsLeft, HeadStopActsByState and ExpiriesWaitForTheirTimers (R51, R62, R146, R157, R158). -/
namespace Sys2Proof.Proofs.Wires
open Sys2Proof Sys2Proof.Machine

set_option Elab.async false

/-- Settles O1: `step` takes the head of the queue by definition. -/
theorem stepRunsTheFrontCommand : Obligations.StepRunsTheFrontCommand := fun _ _ _ => rfl

/-! ### The train's wires -/

/-- Settles O7: each edge writes its own fields; a fall abandons an attempt that is in progress. -/
theorem trainWiresAct : Obligations.TrainWiresAct := by
  refine ⟨fun station side s hheld => ?_, fun station side s hfree => ?_, fun s => rfl, fun s hattempt => ?_,
    fun s hattempt => ?_⟩
  · show finish (releaseLine station side s) = _
    rw [releaseLine, if_pos hheld]
    rfl
  · show finish (releaseLine station side s) = _
    rw [releaseLine, if_neg (by simp [hfree])]
    rfl
  · show finish { s with pins := { s.pins with lineOk := false }, lnp := abandonAttempt s.lnp } = _
    rw [abandonAttempt, if_pos hattempt]
    rfl
  · show finish { s with pins := { s.pins with lineOk := false }, lnp := abandonAttempt s.lnp } = _
    rw [abandonAttempt, if_neg (by simp [hattempt])]
    rfl

/-! ### Leaving OFFLINE -/

/-- R160: without a weld context an activation does nothing. -/
theorem activate_idle (src : Source) (s : State) (h : s.ctx = none) : activate src s = s := by simp [activate, h]

theorem offlineOver_iff (s : State) : s.offlineOver = true ↔ s.wsq.seq = .offline ∧ s.lnp.lineOkRisen = true
    ∧ 1 ≤ s.lnp.station ∧ s.lnp.station ≤ 14 ∧ s.wsq.silence = false ∧ s.pins.lineReset = false := by
  simp [State.offlineOver, Lnp.strapValid, and_assoc]

/-- R50: out of a weld a change of state leaves the trace as it is. -/
theorem enterState_idle_cap (st : SeqState) (s : State) (h : s.ctx = none) : (enterState st s).cap = s.cap := by
  unfold enterState
  rw [activate_idle _ _ (by simp [h])]
  simp

/-- R146: a change of state that finds room in the queue leaves room for an ANNOUNCE, or an ANNOUNCE. -/
theorem enterState_room (st : SeqState) (s : State) (h : s.lnp.queue.length < queueLimit) :
    (enterState st s).lnp.queue.length < queueLimit ∨ .announce ∈ (enterState st s).lnp.queue := by
  unfold enterState announceChange requestAnnounce Lnp.wantAnnounce
  repeat' split
  all_goals simp_all

theorem leaveOffline_wsq (s : State) :
    (leaveOffline s).wsq = { s.wsq with seq := if s.wsq.lock then .locked else .ready } := by simp [leaveOffline]

theorem leaveOffline_announces (s : State) (hs : s.wsq.silence = false) (h : s.lnp.queue.length < 8) :
    .announce ∈ (leaveOffline s).lnp.queue :=
  requestAnnounce_mem _ (by simp [hs]) (enterState_room _ s h)

/-- Settles O8: the state is entered without a context, so the capture stands; the ANNOUNCE finds the room there was. -/
theorem offlineIsLeft : Obligations.OfflineIsLeft := by
  refine ⟨fun s hseq hctx hrise hlow hhigh hsilence hreset => ?_, fun s hnot => ?_⟩
  · have hover : s.offlineOver = true := (offlineOver_iff s).mpr ⟨hseq, hrise, hlow, hhigh, hsilence, hreset⟩
    have hexec : exec .offlineExit s = .next (gateCurrent (leaveOffline s)) := by
      show finish (if s.offlineOver then leaveOffline s else s) = _
      rw [if_pos hover]
      rfl
    refine ⟨_, hexec, by simp [leaveOffline_wsq], ?_, fun hroom => ?_, ?_, ?_, ?_, ?_, ?_, ?_, ?_, ?_, ?_⟩
    · simp [leaveOffline, startTimer]
    · simpa using leaveOffline_announces s hsilence hroom
    · simpa [leaveOffline, enterState] using activate_none .phaseEntry _ (by simp [hctx])
    · simp [leaveOffline]
    · simp [leaveOffline]
    · simp [leaveOffline]
    · simpa [leaveOffline] using enterState_idle_cap _ s hctx
    · simp [leaveOffline]
    · simp [leaveOffline]
    · simp [leaveOffline]
    · constructor <;> simp [leaveOffline]
  · have hover : ¬s.offlineOver = true := by
      rw [offlineOver_iff]
      rintro ⟨hseq, hrise, hlow, hhigh, hsilence, hreset⟩
      simp [hseq, hrise, hsilence, hreset] at hnot
      omega
    show finish (if s.offlineOver then leaveOffline s else s) = _
    rw [if_neg hover]
    rfl

/-! ### HEAD_STOP -/

/-- Settles O9: a rise of the wire is the stop HEAD_STOP, taken by state; at a wire already high nothing is taken. -/
theorem headStopActsByState : Obligations.HeadStopActsByState := by
  have hrises (s : State) (h : s.pins.headStop = false) : exec .headStop s =
      .next (gateCurrent (stopWeld .headStop { s with pins := { s.pins with headStop := true } })) := by
    show finish (assertHeadStop s) = _
    rw [assertHeadStop, if_neg (by simp [h])]
    rfl
  refine ⟨fun s c hlow hctx habort => ?_, fun s c hlow hctx hhold => ?_, fun s hlow habort hhold => ?_, fun s hhigh => ?_,
    fun s => rfl⟩
  · refine ⟨_, hrises s hlow, ?_⟩
    rw [stopWeld, if_pos (by exact habort)]
    exact abortWeld_aborted _ _ _ c hctx
  · refine ⟨_, ?_, enterFault_entered _ _ _ c (by exact hctx)⟩
    rw [hrises s hlow, stopWeld, if_neg (by simp [hhold, SeqState.abortable]), if_pos (by exact hhold)]
  · rw [hrises s hlow, stopWeld, if_neg (by simp [habort]), if_neg (by exact hhold)]
  · show finish (assertHeadStop s) = _
    rw [assertHeadStop, if_pos hhigh]
    rfl

/-! ### Expiries out of turn -/

theorem timerDue_iff (x : Option Timer) : timerDue x = true ↔ ∃ w, x = some w ∧ (w.length : Int) ≤ w.elapsed + 1 := by
  cases x <;> simp [timerDue, Timer.due]

theorem timerReached_iff (x : Option Timer) (ms : Nat) :
    timerReached x ms = true ↔ ∃ w, x = some w ∧ (ms : Int) ≤ w.elapsed + 1 := by
  cases x <;> simp [timerReached]

/-- A command whose condition fails ends with the current gate alone. -/
theorem finish_ite_neg {p : Prop} [Decidable p] {t s : State} (h : ¬p) :
    finish (if p then t else s) = .next (gateCurrent s) := by
  rw [if_neg h]
  rfl

/-- An expiry of one state whose state or timer does not stand. -/
theorem finish_out_of_turn {p : Prop} [Decidable p] {due : Bool} {t s : State} (h : ¬p ∨ due = false) :
    finish (if p ∧ due then t else s) = .next (gateCurrent s) :=
  finish_ite_neg fun ⟨hp, hdue⟩ => h.elim (· hp) (by simp [hdue])

/-- An expiry of one step of a state. -/
theorem finish_out_of_step {p q : Prop} [Decidable p] [Decidable q] {due : Bool} {t s : State}
    (h : ¬p ∨ ¬q ∨ due = false) : finish (if p ∧ q ∧ due then t else s) = .next (gateCurrent s) :=
  finish_ite_neg fun ⟨hp, hq, hdue⟩ => h.elim (· hp) (·.elim (· hq) (by simp [hdue]))

theorem backoffLimit_early (s : State) (h : ∀ b, s.frg.backoff = some b → b.timer.elapsed + 1 < b.timer.length) :
    exec .backoffLimit s = .next (gateCurrent s) := by
  refine finish_ite_neg ?_
  cases hb : s.frg.backoff with
  | none => simp
  | some b =>
    have := h b hb
    simp [Timer.due]
    omega

theorem tUcExpiry_early (s : State) (h : s.wsq.seq ≠ .upset ∨ s.wsq.tucExpired = true
    ∨ ∃ c, s.ctx = some c ∧ timerReached s.wsq.upsetTimer (s.bank c.bank).image.tUc = false) :
    exec .tUcExpiry s = .next (gateCurrent s) := by
  refine finish_ite_neg ?_
  rintro ⟨hseq, hheat, hdue⟩
  rcases h with h | h | ⟨c, hctx, h⟩
  · exact h hseq
  · simp [h] at hheat
  · simp [State.sched, hctx, h] at hdue

theorem unclampSlow_early (s : State)
    (h : (s.wsq.seq ≠ .unclamp ∧ s.wsq.seq ≠ .stopping) ∨ timerDue s.wsq.clampTimer = false) :
    exec .unclampSlow s = .next (gateCurrent s) := by
  refine finish_ite_neg ?_
  rcases h with ⟨h1, h2⟩ | h
  · cases hseq : s.wsq.seq <;> simp_all [SeqState.unclamping]
  · simp [h]

theorem tensorLost_early (s : State)
    (h : (s.wsq.seq ≠ .preheat ∧ s.wsq.seq ≠ .power) ∨ timerDue s.frg.gateTimer = false) :
    exec .tensorLost s = .next (gateCurrent s) :=
  finish_out_of_turn (h.imp_left fun ⟨h1, h2⟩ h => h.elim h1 h2)

theorem attempt_ends_idle (s : State) (h : s.lnp.attempt = none) :
    exec .attemptWon s = .next (gateCurrent s) ∧ exec .attemptLost s = .next (gateCurrent s) := by
  have hwon : winAttempt s = s := by simp [winAttempt, h]
  have hlost : loseAttempt s = s := by simp [loseAttempt, h]
  exact ⟨congrArg finish hwon, congrArg finish hlost⟩

theorem clampSlip_idle (s : State) (h : s.mfe.slipNotice = none) : exec .clampSlip s = .next (gateCurrent s) :=
  congrArg finish (by simp [takeClampSlip, h] : takeClampSlip s = s)

/-- Settles O25: each expiry is guarded by its state, its step and its timer. -/
theorem expiriesWaitForTheirTimers : Obligations.ExpiriesWaitForTheirTimers :=
  ⟨fun x ms => ⟨timerDue_iff x, timerReached_iff x ms⟩, fun s => ⟨finish_out_of_turn, clampSlip_idle s, finish_out_of_step,
    finish_out_of_step, finish_out_of_step, finish_out_of_turn, finish_out_of_turn, finish_out_of_turn, finish_out_of_turn,
    finish_out_of_turn, finish_out_of_turn, finish_out_of_turn, finish_out_of_turn, backoffLimit_early s, tUcExpiry_early s,
    finish_out_of_step, unclampSlow_early s, tensorLost_early s, attempt_ends_idle s⟩⟩

end Sys2Proof.Proofs.Wires

/-! The verdict of a weld (R174) and the arithmetic of the Closure Planner past the tension stage (R41 to R46): the
statements VerdictIsTheFirstThatApplies and BurnOffAndAchievedNeutralAreWorked. -/
namespace Sys2Proof.Proofs.Verdicts
open Sys2Proof Sys2Proof.Machine Sys2Proof.Proofs.ClosurePlanning

set_option Elab.async false

theorem reviewKind_iff (k : FaultKind) : (k.isReview || k == .tensorLost) = true ↔ k ∈ [FaultKind.powerDegraded, .holdBroken,
    .tensorSlow, .neutralOff, .energyRange, .unclampSlow, .stopInHold, .tensorLost] := by
  cases k <;> decide

/-- Settles O52: the four tests of R174 in order. -/
theorem verdictIsTheFirstThatApplies : Obligations.VerdictIsTheFirstThatApplies := by
  intro c
  have hshort : c.faults.any (fun e => e.kind == .upsetShort) = true ↔ FaultKind.upsetShort ∈ c.faults.map (·.kind) := by
    simp [List.any_eq_true, List.mem_map]
  have hreview : c.faults.any (fun e => e.kind.isReview || e.kind == .tensorLost) = true
      ↔ ∃ k, k ∈ c.faults.map (·.kind) ∧ k ∈ [FaultKind.powerDegraded, .holdBroken, .tensorSlow, .neutralOff,
        .energyRange, .unclampSlow, .stopInHold, .tensorLost] := by
    simp only [List.any_eq_true, reviewKind_iff, List.mem_map]
    constructor
    · rintro ⟨e, he, hk⟩
      exact ⟨e.kind, ⟨e, he, rfl⟩, hk⟩
    · rintro ⟨-, ⟨e, he, rfl⟩, hk⟩
      exact ⟨e, he, hk⟩
  intro listed rejected reviewed
  have hrejected : (c.abortKind.isSome || c.faults.any (fun e => e.kind == .upsetShort)) = true ↔ rejected := by
    rw [Bool.or_eq_true, hshort]
  have hreviewed : (c.overflow || c.faults.any (fun e => e.kind.isReview || e.kind == .tensorLost)) = true ↔ reviewed := by
    rw [Bool.or_eq_true, hreview]
  refine ⟨fun h => ?_, fun h hr => ?_, fun h hr hv => ?_, fun h hr hv => ?_⟩
  · simp [verdictOf, h]
  · rw [verdictOf, if_neg (by simp [h]), if_pos (hrejected.mpr hr)]
  · rw [verdictOf, if_neg (by simp [h]), if_neg (mt hrejected.mp hr), if_pos (hreviewed.mpr hv)]
  · rw [verdictOf, if_neg (by simp [h]), if_neg (mt hrejected.mp hr), if_neg (mt hreviewed.mp hv)]

/-! ### The gap and the burn-off -/

theorem clampTo_eq {lo hi v : Int} (h : lo ≤ hi) : clampTo lo hi v = max lo (min hi v) := by
  unfold clampTo
  split
  · omega
  · split <;> omega

/-- R42, R43: within the gap tolerance B_adj is B_f; else it is held to its limits, unless the residual is too great. -/
theorem adjustedBurn_cases (k : Schedule) (e : Int) (h : k.bMin ≤ k.bMax) :
    let held : Int := max k.bMin (min k.bMax (k.bF - e))
    (e.natAbs ≤ k.tauG → adjustedBurn k e = some k.bF)
    ∧ (k.tauG < e.natAbs → (((k.bF : Int) - e) - held).natAbs ≤ k.tauG → adjustedBurn k e = some held.toNat)
    ∧ (k.tauG < e.natAbs → k.tauG < (((k.bF : Int) - e) - held).natAbs → adjustedBurn k e = none) := by
  intro held
  have hheld : clampTo k.bMin k.bMax (k.bF - e) = held := clampTo_eq (by omega)
  unfold adjustedBurn
  simp only [hheld]
  refine ⟨fun h1 => if_pos h1, fun h1 h2 => ?_, fun h1 h2 => ?_⟩
  · rw [if_neg (by omega), if_pos h2]
  · rw [if_neg (by omega), if_neg (by omega)]

/-- R41 to R43: a TENSIONED plan past the tension stage, by what the burn-off comes to. -/
theorem workPlan_gap {k : Schedule} {c : WeldCtx} {tR g0 : Int} (hT : Weldable tR) (hN : NotAboveNeutral c tR)
    (hm : c.mode = .tensioned) (hF : ¬k.fLim < tension k.area k.alpha (deltaTEff c tR)) :
    let p := stretch c.pulled k.alpha (deltaTEff c tR)
    let gT : Int := p - plannedConsumption k
    let worked : Plan := { c.plan with
      tR := tR, g0 := g0, p := p, fReq := tension k.area k.alpha (deltaTEff c tR)
      cPlan := plannedConsumption k, gT := gT, e := g0 - gT }
    workPlan k c tR g0 = match adjustedBurn k (g0 - gT) with
      | some adj => { plan := { worked with bAdj := adj }, refusal := none }
      | none => { plan := worked, refusal := some (.gapOutOfRange, g0 - gT) } := by
  have hT' := mt not_weldable_iff.mpr (not_not.mpr hT)
  have hN' := mt not_notAboveNeutral_iff.mpr (not_not.mpr hN)
  simp only [workPlan, if_neg hT', if_neg hN', if_neg hF]
  simp only [hm] <;> rfl

/-- R44, R45: twice a quotient plus one, halved, is the quotient rounded half up. -/
theorem double_add_div (n : Nat) {d : Nat} (hpos : 0 < d) :
    (2 * n + d) / (2 * d) = n / d + if d ≤ 2 * (n % d) then 1 else 0 := by
  rw [add_half_div (2 * n) hpos, Nat.mul_div_mul_left _ _ (by decide), Nat.mul_mod_mul_left]

/-- Settles O22: the stages past the tension stage, by mode; the quotient of R44 is rounded as its remainder says. -/
theorem burnOffAndAchievedNeutralAreWorked : Obligations.BurnOffAndAchievedNeutralAreWorked := by
  refine ⟨fun k c tR g0 hlow hhigh hm hn hb => ?_, fun k c tR g0 hlow hhigh hm => ?_, fun k c hd => ⟨fun hm hh => ?_, ?_⟩⟩
  · intro r hlim e held
    have hT : Weldable tR := ⟨hlow, hhigh⟩
    have hN : NotAboveNeutral c tR := fun _ => hn
    have hF : ¬k.fLim < tension k.area k.alpha (deltaTEff c tR) := by
      rw [← workPlan_fReq (g0 := g0) (k := k) hT hN]
      exact Nat.not_lt.mpr hlim
    have hp : r.plan.p = stretch c.pulled k.alpha (deltaTEff c tR) := workPlan_p hT hN
    have he : g0 - ((stretch c.pulled k.alpha (deltaTEff c tR) : Int) - plannedConsumption k) = e := by
      simp only [e, hp, plannedConsumption]
      push_cast
      rfl
    have hr := workPlan_gap (g0 := g0) hT hN hm hF
    obtain ⟨hwithin, hadj, hnone⟩ := adjustedBurn_cases k e hb
    simp only [he] at hr
    have hr' : r = _ := hr
    have hG : g0 - e = (stretch c.pulled k.alpha (deltaTEff c tR) : Int) - plannedConsumption k := by omega
    refine ⟨?_, ?_, ?_, fun h1 => ?_, fun h1 h2 => ?_, fun h1 h2 => ?_⟩
    · rw [hr']; split <;> rfl
    · rw [hr', hG]; split <;> rfl
    · rw [hr']; split <;> rfl
    · rw [hr', hwithin h1]; exact ⟨rfl, rfl⟩
    · rw [hr', hadj h1 h2]
      refine ⟨Int.toNat_of_nonneg ?_, rfl⟩
      omega
    · rw [hr', hnone h1 h2]
  · have hT' := mt not_weldable_iff.mpr (not_not.mpr (⟨hlow, hhigh⟩ : Weldable tR))
    have h0 : deltaTEff c tR = 0 := by simp [deltaTEff, hm]
    have hstretch : stretch c.pulled k.alpha 0 = 0 := by simp [stretch]
    have htension : tension k.area k.alpha 0 = 0 := by simp [tension]
    simp [workPlan, hT', h0, hm, hstretch, htension, plannedConsumption]
  · intro stretch d
    rw [achievedNeutral, if_pos (by exact ⟨hm, hh⟩)]
    simp only [double_add_div _ hd]
    rfl
  · intro h
    rw [achievedNeutral, if_neg]
    rintro ⟨hm, hh⟩
    rcases h with h | h <;> simp_all

end Sys2Proof.Proofs.Verdicts

/-! One sample, by its parts: what its findings leave of the front end's readings and counts (R1 to R12), what its
measurement leaves, and what it comes to where its order takes no notice (log 9). -/
namespace Sys2Proof.Proofs.Samples
open Sys2Proof Sys2Proof.Machine Sys2Proof.Proofs.FlashBurn

set_option Elab.async false

/-! ### The front end through the operations of a weld -/

/-- The front end stands but for the outputs set and the slip's and the stall's counts (R10, R12, R13). -/
def Stands (m m' : Mfe) : Prop :=
  m' = { m with set := m'.set, slip := m'.slip, slipNotice := m'.slipNotice, stall := m'.stall }

theorem Stands.refl (m : Mfe) : Stands m m := rfl

theorem Stands.trans {m₁ m₂ m₃ : Mfe} (h : Stands m₁ m₂) (k : Stands m₂ m₃) : Stands m₁ m₃ := by
  unfold Stands at *
  rw [k, h]

theorem abortWeld_stands (k : FaultKind) (i : Option Int) (s : State) : Stands s.mfe (abortWeld k i s).mfe := by
  simp [abortWeld, Stands, makeSafe_mfe]

theorem takeFault_stands (k : FaultKind) (i : Option Int) (s : State) : Stands s.mfe (takeFault k i s).mfe := by
  unfold takeFault
  split
  · exact abortWeld_stands k i s
  · split <;> simp [Stands]

theorem takeStationFault_stands (k : FaultKind) (i : Option Int) (s : State) :
    Stands s.mfe (takeStationFault k i s).mfe := by
  unfold takeStationFault
  split
  · exact abortWeld_stands k i s
  · split <;> simp [Stands, enterLate]

theorem takePlatenStall_stands (found : Option Int) (s : State) : Stands s.mfe (takePlatenStall found s).mfe := by
  unfold takePlatenStall
  split
  · exact .refl _
  · dsimp only
    split
    · exact .trans (by simp [Stands]) (takeFault_stands _ _ _)
    · simp [Stands]

theorem takeStrokeLimit_stands (start : SeqState) (s : State) : Stands s.mfe (takeStrokeLimit start s).mfe := by
  unfold takeStrokeLimit
  split
  · exact takeFault_stands _ _ _
  · exact .refl _

theorem preheatSample_stands (s : State) : Stands s.mfe (preheatSample s).mfe := by
  unfold preheatSample retreat
  split
  · split <;> simp [Stands, beginContact]
  · simp [Stands]
  · repeat' split
    all_goals simp [Stands]
  · simp [Stands]
  · simp [Stands]

theorem backoffSample_stands (b : Backoff) (s : State) : Stands s.mfe (backoffSample b s).mfe := by
  unfold backoffSample
  dsimp only
  split <;> simp [Stands]

theorem enterHold_stands (s : State) : Stands s.mfe (enterHold s).mfe := by
  unfold enterHold holdBroken
  dsimp only
  repeat' split
  all_goals simp [Stands, requestGate]

theorem leaveUpset_stands (s : State) : Stands s.mfe (leaveUpset s).mfe := by
  unfold leaveUpset
  split
  · exact enterHold_stands s
  · exact .refl _

theorem strokeSample_stands (s : State) : Stands s.mfe (strokeSample s).mfe := by
  unfold strokeSample endStroke
  dsimp only
  repeat' split
  all_goals simp [Stands]

theorem heatOver_stands (s : State) : Stands s.mfe (heatOver s).mfe := by simp [heatOver, Stands]

theorem enterUpset_stands (s : State) : Stands s.mfe (enterUpset s).mfe := by
  unfold enterUpset
  extract_lets entered _ _ begun asked gated heated
  have hbegun : Stands s.mfe begun.mfe := by simp [begun, entered, Stands]
  have hgated : gated.mfe = begun.mfe := by
    unfold gated
    repeat' split
    all_goals simp [asked, endWatch, requestGate]
  have hheated : Stands s.mfe heated.mfe := by
    rw [← hgated] at hbegun
    unfold heated
    split
    · exact hbegun.trans (heatOver_stands _)
    · exact hbegun
  have hworked : Stands s.mfe (workStroke heated).mfe := by simpa using hheated
  exact (hworked.trans (strokeSample_stands _)).trans (leaveUpset_stands _)

theorem endFlash_stands (s : State) : Stands s.mfe (endFlash s).mfe := by
  unfold endFlash
  split
  · simp [enterBoost, Stands]
  · exact enterUpset_stands s

theorem mapSet_stands (f : Outputs → Outputs) (s : State) : Stands s.mfe (s.mapSet f).mfe := rfl

theorem flashSample_stands (s : State) : Stands s.mfe (flashSample s).mfe := by
  unfold flashSample
  dsimp only
  split
  · exact (mapSet_stands _ s).trans (backoffSample_stands _ _)
  · split
    · exact ((mapSet_stands _ s).trans (mapSet_stands _ _)).trans (endFlash_stands _)
    · exact (mapSet_stands _ s).trans (mapSet_stands _ _)

theorem boostSample_stands (s : State) : Stands s.mfe (boostSample s).mfe := by
  unfold boostSample
  dsimp only
  split
  · exact (mapSet_stands _ s).trans (backoffSample_stands _ _)
  · split
    · exact (mapSet_stands _ s).trans (enterUpset_stands _)
    · exact (mapSet_stands _ s).trans (mapSet_stands _ _)

theorem upsetSample_stands (s : State) : Stands s.mfe (upsetSample s).mfe := by
  unfold upsetSample
  refine .trans ?_ (leaveUpset_stands _)
  refine .trans ?_ (strokeSample_stands _)
  split
  · exact .refl _
  · exact mapSet_stands _ s

/-- The law of every phase but CLAMP's, and the outcome's. -/
theorem takePhase_stands (start : SeqState) (s : State) (hclamp : start ≠ .clamp) (hunclamp : start ≠ .unclamp)
    (hstopping : start ≠ .stopping) : Stands s.mfe (takePhase start s).mfe := by
  unfold takePhase
  split
  · cases start with
    | preheat => exact preheatSample_stands s
    | flash => exact flashSample_stands s
    | boost => exact boostSample_stands s
    | upset => exact upsetSample_stands s
    | clamp => exact absurd rfl hclamp
    | unclamp => exact absurd rfl hunclamp
    | stopping => exact absurd rfl hstopping
    | _ => exact .refl _
  · exact .refl _

/-! ### The notices -/

/-- The front end stands but for the outputs set, the counts and the notices (R3, R7). -/
def NoticeTaken (m m' : Mfe) : Prop :=
  m' = { m with set := m'.set, slip := m'.slip, slipNotice := m'.slipNotice, stall := m'.stall
                rangeNotices := m'.rangeNotices, freezeNotices := m'.freezeNotices }

theorem Stands.noticed {m m' : Mfe} (h : Stands m m') : NoticeTaken m m' := by
  unfold Stands at h
  unfold NoticeTaken
  rw [h]

theorem NoticeTaken.refl (m : Mfe) : NoticeTaken m m := rfl

theorem NoticeTaken.trans {m₁ m₂ m₃ : Mfe} (h : NoticeTaken m₁ m₂) (k : NoticeTaken m₂ m₃) : NoticeTaken m₁ m₃ := by
  unfold NoticeTaken at *
  rw [k, h]

theorem takeSensorRange_stands (v : Option Int) (s : State) : Stands s.mfe (takeSensorRange v s).mfe := by
  have hfault := takeStationFault_stands .sensorRange v { s with wsq := { s.wsq with lock := true } }
  unfold takeSensorRange
  dsimp only
  split
  · exact hfault.trans (by simp [Stands])
  · exact hfault

theorem takeRangeNotice_noticed (i : Input) (s : State) : NoticeTaken s.mfe (takeRangeNotice i s).mfe := by
  unfold takeRangeNotice
  split
  · exact .refl _
  · exact .trans (by simp [NoticeTaken]) (takeSensorRange_stands _ _).noticed

theorem takeFreeze_stands (s : State) : Stands s.mfe (takeFreeze s).mfe := by
  unfold takeFreeze beginBackoff
  dsimp only
  split
  · exact .trans (by simp [Stands]) (takeFault_stands _ _ _)
  · simp [Stands]

theorem takeFreezeNotice_noticed (s : State) : NoticeTaken s.mfe (takeFreezeNotice s).mfe := by
  unfold takeFreezeNotice
  split
  · exact .refl _
  · dsimp only
    split
    · exact .trans (by simp [NoticeTaken]) (takeFreeze_stands _).noticed
    · simp [NoticeTaken]

theorem takeClampSlip_stands (s : State) : Stands s.mfe (takeClampSlip s).mfe := by
  unfold takeClampSlip
  split
  · exact .refl _
  · exact .trans (by simp [Stands]) (takeFault_stands _ _ _)

/-! ### The readings through every finding -/

/-- R1, R8, R13: what no finding changes: the inputs, the outputs driven and the energy. -/
structure Readings (m m' : Mfe) : Prop where
  inputs : m'.inputs = m.inputs
  driven : m'.driven = m.driven
  energy : m'.energy = m.energy

theorem Readings.trans {m₁ m₂ m₃ : Mfe} (h : Readings m₁ m₂) (k : Readings m₂ m₃) : Readings m₁ m₃ :=
  ⟨k.inputs.trans h.inputs, k.driven.trans h.driven, k.energy.trans h.energy⟩

theorem NoticeTaken.readings {m m' : Mfe} (h : NoticeTaken m m') : Readings m m' := by
  unfold NoticeTaken at h
  constructor <;> rw [h]

theorem clampSample_readings (s : State) : Readings s.mfe (clampSample s).mfe := by
  unfold clampSample
  split <;> constructor <;> simp

theorem settleEnergy_mfe (s : State) : (settleEnergy s).mfe = s.mfe := by
  unfold settleEnergy
  dsimp only
  repeat' split
  all_goals simp

theorem settleNeutral_mfe (s : State) : (settleNeutral s).mfe = s.mfe := by
  unfold settleNeutral
  dsimp only
  repeat' split
  all_goals simp

theorem handRecord_mfe (s : State) : (handRecord s).mfe = s.mfe := by
  unfold handRecord
  split <;> rfl

theorem endContext_readings (s : State) : Readings s.mfe (endContext s).mfe := by
  unfold endContext
  split <;> constructor <;> rfl

theorem buildOutcome_readings (s : State) : Readings s.mfe (buildOutcome s).mfe := by
  have hend := endContext_readings (handRecord (settleVerdict (settleNeutral (settleEnergy s))))
  rw [handRecord_mfe, settleVerdict, activate_mfe, mapCtx_mfe, settleNeutral_mfe, settleEnergy_mfe] at hend
  refine hend.trans ?_
  rw [buildOutcome, enterState_mfe]
  exact ⟨rfl, rfl, rfl⟩

theorem unclampSample_readings (s : State) : Readings s.mfe (unclampSample s).mfe := by
  unfold unclampSample
  split
  · exact buildOutcome_readings s
  · exact ⟨rfl, rfl, rfl⟩

theorem takePhase_readings (start : SeqState) (s : State) : Readings s.mfe (takePhase start s).mfe := by
  by_cases hclamp : start = .clamp
  · subst hclamp
    unfold takePhase
    split
    · exact clampSample_readings s
    · exact ⟨rfl, rfl, rfl⟩
  · by_cases hopens : start = .unclamp ∨ start = .stopping
    · unfold takePhase
      split
      · rcases hopens with rfl | rfl <;> exact unclampSample_readings s
      · exact ⟨rfl, rfl, rfl⟩
    · rw [not_or] at hopens
      exact (takePhase_stands start s hclamp hopens.1 hopens.2).noticed.readings

theorem takeFinding_readings (start : SeqState) (stall : Option Int) (s : State) (f : Finding) :
    Readings s.mfe (takeFinding start stall s f).mfe := by
  cases f with
  | stall => exact (takePlatenStall_stands stall s).noticed.readings
  | limit => exact (takeStrokeLimit_stands start s).noticed.readings
  | phase => exact takePhase_readings start s
  | freeze => exact (takeFreezeNotice_noticed s).readings
  | slip => exact (takeClampSlip_stands s).noticed.readings
  | range input => exact (takeRangeNotice_noticed input s).readings

/-- What every finding keeps, all the findings of a sample keep. -/
theorem takeFindings_induct {P : State → Prop} (order : SampleOrder) {s : State}
    (h : ∀ f ∈ findingsOf order, ∀ t, P t → P (takeFinding s.wsq.seq (stallOf s.mfe.stall) t f)) (hs : P s) :
    P (takeFindings order s) :=
  List.foldlRecOn (motive := P) (findingsOf order) _ hs (fun t ht f hf => h f hf t ht)

theorem takeFindings_readings (order : SampleOrder) (s : State) : Readings s.mfe (takeFindings order s).mfe :=
  takeFindings_induct (P := fun t => Readings s.mfe t.mfe) order
    (fun f _ t ht => ht.trans (takeFinding_readings _ _ t f)) ⟨rfl, rfl, rfl⟩

/-- The findings of a sample that begins in none of CLAMP, UNCLAMP and STOPPING. -/
theorem takeFindings_noticed (order : SampleOrder) (s : State) (hclamp : s.wsq.seq ≠ .clamp)
    (hunclamp : s.wsq.seq ≠ .unclamp) (hstopping : s.wsq.seq ≠ .stopping) :
    NoticeTaken s.mfe (takeFindings order s).mfe :=
  takeFindings_induct (P := fun t => NoticeTaken s.mfe t.mfe) order (hs := .refl _) fun f _ t ht => ht.trans <| by
    cases f with
    | stall => exact (takePlatenStall_stands _ t).noticed
    | limit => exact (takeStrokeLimit_stands _ t).noticed
    | phase => exact (takePhase_stands _ t hclamp hunclamp hstopping).noticed
    | freeze => exact takeFreezeNotice_noticed t
    | slip => exact (takeClampSlip_stands t).noticed
    | range input => exact takeRangeNotice_noticed input t

/-! ### A sample whose order takes no notice -/

theorem findings_quiet {order : SampleOrder} (h : NoNotices order) {f : Finding} (hf : f ∈ findingsOf order) :
    f = .stall ∨ f = .limit ∨ f = .phase :=
  ((findingsOf_mem order f).mp hf).elim (h f) id

theorem takeFindings_stands {order : SampleOrder} (h : NoNotices order) (s : State) (hclamp : s.wsq.seq ≠ .clamp)
    (hunclamp : s.wsq.seq ≠ .unclamp) (hstopping : s.wsq.seq ≠ .stopping) : Stands s.mfe (takeFindings order s).mfe :=
  takeFindings_induct (P := fun t => Stands s.mfe t.mfe) order (hs := .refl _) fun f hf t ht => ht.trans <| by
    rcases findings_quiet h hf with rfl | rfl | rfl
    · exact takePlatenStall_stands _ t
    · exact takeStrokeLimit_stands _ t
    · exact takePhase_stands _ t hclamp hunclamp hstopping

/-- With no stall found, and a stroke limit that acts neither before the law of the phase nor after it, the law of the
phase is the sample's one finding, whatever the order. -/
theorem takeFindings_phase {order : SampleOrder} (h : NoNotices order) (s : State) (hstall : stallOf s.mfe.stall = none)
    (hbefore : takeStrokeLimit s.wsq.seq s = s)
    (hafter : takeStrokeLimit s.wsq.seq (takePhase s.wsq.seq s) = takePhase s.wsq.seq s) :
    takeFindings order s = takePhase s.wsq.seq s := by
  have key : ∀ fs : List Finding, fs.Nodup → (∀ f ∈ fs, f = .stall ∨ f = .limit ∨ f = .phase) → ∀ t : State,
      (.phase ∉ fs → t = takePhase s.wsq.seq s) → (.phase ∈ fs → t = s) →
      fs.foldl (takeFinding s.wsq.seq none) t = takePhase s.wsq.seq s := by
    intro fs
    induction fs with
    | nil => exact fun _ _ t hdone _ => hdone (by simp)
    | cons f fs ih =>
      intro hnodup hquiet t hdone htodo
      obtain ⟨hf, hfs⟩ := List.nodup_cons.mp hnodup
      refine ih hfs (fun g hg => hquiet g (.tail _ hg)) _ (fun hlast => ?_) (fun hlater => ?_)
      · rcases hquiet f (.head _) with rfl | rfl | rfl
        · exact hdone (by simpa using hlast)
        · have ht : t = takePhase s.wsq.seq s := hdone (by simpa using hlast)
          subst ht
          exact hafter
        · rw [htodo (.head _)]
          rfl
      · have hs : t = s := htodo (.tail _ hlater)
        subst hs
        rcases hquiet f (.head _) with rfl | rfl | rfl
        · rfl
        · exact hbefore
        · exact absurd hlater hf
  unfold takeFindings
  rw [hstall]
  exact key _ (findingsOf_nodup order) (fun f hf => findings_quiet h hf) s
    (fun hno => absurd ((findingsOf_mem order .phase).mpr (.inr (.inr (.inr rfl)))) hno) (fun _ => rfl)

theorem takeStrokeLimit_unregulated {start : SeqState} (h : start.regulated = false) (s : State) :
    takeStrokeLimit start s = s := by
  unfold takeStrokeLimit
  rw [if_neg (by simp [h])]

theorem takeStrokeLimit_short {start : SeqState} {s : State} (h : s.position < s.sched.strokeLimit) :
    takeStrokeLimit start s = s := by
  unfold takeStrokeLimit
  rw [if_neg]
  rintro ⟨-, hreached, -⟩
  omega

/-! ### The measurement -/

/-- R85, R89, R95, R101, R106: the progress fields of the phase, worked at one sample. -/
def progressOf (s : State) (p : Progress) : Progress :=
  match s.wsq.seq with
  | .flash => { p with flashTime := p.flashTime + 1, flashBurn := (s.position - s.frg.flashEntry).toNat }
  | .boost => { p with boostBurn := (s.position - s.frg.boostEntry).toNat }
  | .upset =>
    if s.wsq.stroke = .stroke then
      { p with
        upsetDistance := (s.position - s.wsq.upsetEntry).toNat
        peakForce := max p.peakForce (s.input .force).toNat }
    else p
  | .hold => { p with holdElapsed := min (p.holdElapsed + 1) (s.sched.tH * 1000) }
  | _ => p

theorem mapProgress_self (s : State) : s.mapProgress (fun p => p) = s := by
  cases hs : s.ctx <;> simp [State.mapProgress, State.mapCtx, hs]
  all_goals cases s; simp_all

theorem takeProgress_eq (s : State) : takeProgress s = s.mapProgress (progressOf s) := by
  unfold progressOf
  cases h : s.wsq.seq <;> simp only [takeProgress, h, workStroke, mapProgress_self]

/-- R13, R14: the outputs driven at a sample. -/
def drivenAt (s : State) : Outputs := if s.gateOpen then s.mfe.set else { s.mfe.set with current := 0 }

theorem driveOutputs_tick (s : State) :
    driveOutputs (tickAll s) = { tickAll s with mfe := { s.mfe with driven := drivenAt s } } := by
  unfold drivenAt
  cases h : s.gateOpen
  · exact if_neg (c := s.gateOpen = true) (by simp [h])
  · exact if_pos (c := s.gateOpen = true) h

/-- R3: the notices that a sample's inputs raise. -/
def raisedAt (raw : Samples) (s : State) : List RangeNotice := allInputs.filterMap (rangeNotice? raw s.mfe.inputs)

/-- R1 to R4: the front end once a sample's inputs are taken. -/
def inputsTaken (raw : Samples) (s : State) : Mfe :=
  { s.mfe with
    driven := drivenAt s, inputs := s.mfe.inputs.takeAll raw, rangeNotices := s.mfe.rangeNotices ++ raisedAt raw s
    planning := s.mfe.planning.sample (!(raisedAt raw s).isEmpty) (s.mfe.inputs.takeAll raw).railTemperature.value
      (s.mfe.inputs.takeAll raw).gapGauge.value }

theorem takeInputs_tick (raw : Samples) (s : State) :
    takeInputs raw (driveOutputs (tickAll s)) = { tickAll s with mfe := inputsTaken raw s } := by
  rw [driveOutputs_tick]
  rfl

/-- The front end at a sample, before the phase's figures are worked. -/
def readings (raw : Samples) (s : State) : State :=
  takeSlip (takeStall (takeEnergy (takeShort (takeInputs raw (driveOutputs (tickAll s))))))

theorem measure_eq (raw : Samples) (s : State) :
    Machine.measure raw s = (readings raw s).mapProgress (progressOf (readings raw s)) := takeProgress_eq _

/-- R5 to R12: what the front end works past its inputs: the short test, the energy, the stall and the slip alone. -/
structure CountsWorked (s t : State) : Prop where
  state : t = { s with mfe := t.mfe }
  mfe   : t.mfe = { s.mfe with
    shorted := t.mfe.shorted, onsets := t.mfe.onsets, shortDuration := t.mfe.shortDuration
    freezeNotices := t.mfe.freezeNotices, energy := t.mfe.energy, stall := t.mfe.stall
    slip := t.mfe.slip, slipNotice := t.mfe.slipNotice }

theorem CountsWorked.trans {s₁ s₂ s₃ : State} (h : CountsWorked s₁ s₂) (k : CountsWorked s₂ s₃) : CountsWorked s₁ s₃ := by
  obtain ⟨hs, hm⟩ := h
  obtain ⟨ks, km⟩ := k
  constructor
  · rw [ks, hs]
  · rw [km, hm]

theorem takeShort_counted (s : State) : CountsWorked s (takeShort s) := ⟨rfl, rfl⟩

theorem takeEnergy_counted (s : State) : CountsWorked s (takeEnergy s) := by
  unfold takeEnergy
  split <;> exact ⟨rfl, rfl⟩

theorem takeStall_counted (s : State) : CountsWorked s (takeStall s) := ⟨rfl, rfl⟩

theorem takeSlip_counted (s : State) : CountsWorked s (takeSlip s) := by
  unfold takeSlip
  split
  · split <;> exact ⟨rfl, rfl⟩
  · exact ⟨rfl, rfl⟩

theorem readings_counted (raw : Samples) (s : State) :
    CountsWorked { tickAll s with mfe := inputsTaken raw s } (readings raw s) := by
  rw [← takeInputs_tick]
  exact (((takeShort_counted _).trans (takeEnergy_counted _)).trans (takeStall_counted _)).trans (takeSlip_counted _)

/-- Readings change the front end, and the timers tick. -/
theorem readings_eq (raw : Samples) (s : State) : readings raw s = { tickAll s with mfe := (readings raw s).mfe } :=
  (readings_counted raw s).state

theorem measure_state (raw : Samples) (s : State) : Machine.measure raw s = { tickAll s with
    mfe := (readings raw s).mfe
    ctx := s.ctx.map (fun c => { c with progress := progressOf (readings raw s) c.progress }) } := by
  rw [measure_eq]
  generalize progressOf (readings raw s) = worked
  rw [readings_eq]
  rfl

section
variable (raw : Samples) (s : State)

@[simp] theorem measure_pins : (Machine.measure raw s).pins = s.pins := by rw [measure_state]; rfl
@[simp] theorem measure_wsq : (Machine.measure raw s).wsq = s.wsq.tick := by rw [measure_state]; rfl
@[simp] theorem measure_frg : (Machine.measure raw s).frg = s.frg.tick := by rw [measure_state]; rfl
@[simp] theorem measure_clu : (Machine.measure raw s).clu = s.clu.tick := by rw [measure_state]; rfl
@[simp] theorem measure_tnl :
    (Machine.measure raw s).tnl = { s.tnl with tensorWait := tickTimer s.tnl.tensorWait } := by rw [measure_state]; rfl
@[simp] theorem measure_lnp : (Machine.measure raw s).lnp = s.lnp.tick := by rw [measure_state]; rfl
@[simp] theorem measure_cap : (Machine.measure raw s).cap = { s.cap with tick := tickTimer s.cap.tick } := by
  rw [measure_state]; rfl
@[simp] theorem measure_rst : (Machine.measure raw s).rst = s.rst := by rw [measure_state]; rfl
@[simp] theorem measure_svp : (Machine.measure raw s).svp = s.svp := by rw [measure_state]; rfl
theorem measure_mfe : (Machine.measure raw s).mfe = (readings raw s).mfe := by rw [measure_state]
theorem measure_ctx : (Machine.measure raw s).ctx
    = s.ctx.map (fun c => { c with progress := progressOf (readings raw s) c.progress }) := by rw [measure_state]

/-- R5: the short test on the inputs just taken. -/
def shortedAt : Bool := State.sampleShorted { tickAll s with mfe := inputsTaken raw s }

@[simp] theorem readings_inputs : (readings raw s).mfe.inputs = s.mfe.inputs.takeAll raw := by
  rw [(readings_counted raw s).mfe]; rfl
@[simp] theorem readings_set : (readings raw s).mfe.set = s.mfe.set := by rw [(readings_counted raw s).mfe]; rfl
@[simp] theorem readings_driven : (readings raw s).mfe.driven = drivenAt s := by rw [(readings_counted raw s).mfe]; rfl
@[simp] theorem readings_notices : (readings raw s).mfe.rangeNotices = s.mfe.rangeNotices ++ raisedAt raw s := by
  rw [(readings_counted raw s).mfe]; rfl
@[simp] theorem readings_planning : (readings raw s).mfe.planning = (inputsTaken raw s).planning := by
  rw [(readings_counted raw s).mfe]

/-- R5 to R7: past the short test, nothing of a sample's measurement changes what the short test works. -/
theorem readings_shorts :
    (readings raw s).mfe.shorted = (takeShort { tickAll s with mfe := inputsTaken raw s }).mfe.shorted
    ∧ (readings raw s).mfe.onsets = (takeShort { tickAll s with mfe := inputsTaken raw s }).mfe.onsets
    ∧ (readings raw s).mfe.shortDuration = (takeShort { tickAll s with mfe := inputsTaken raw s }).mfe.shortDuration
    ∧ (readings raw s).mfe.freezeNotices = (takeShort { tickAll s with mfe := inputsTaken raw s }).mfe.freezeNotices := by
  unfold readings
  rw [takeInputs_tick]
  generalize takeShort _ = t
  unfold takeSlip takeStall takeEnergy
  dsimp only
  repeat' split
  all_goals exact ⟨rfl, rfl, rfl, rfl⟩

theorem readings_energy : (readings raw s).mfe.energy =
    if s.ctx.isSome then
      min (s.mfe.energy + ((s.mfe.inputs.takeAll raw).voltage.value * (s.mfe.inputs.takeAll raw).current.value).toNat)
        (10 ^ 12)
    else s.mfe.energy := by
  have hslip (t : State) : (takeSlip t).mfe.energy = t.mfe.energy := by
    unfold takeSlip
    repeat' split
    all_goals rfl
  unfold readings
  rw [takeInputs_tick, hslip]
  show (takeEnergy _).mfe.energy = _
  unfold takeEnergy
  have hctx : (takeShort { tickAll s with mfe := inputsTaken raw s }).ctx = s.ctx := rfl
  rw [hctx]
  split <;> rfl

end

end Sys2Proof.Proofs.Samples

/-! What a sample reads, counts and drives, and the samples of CLAMP and PLAN (R1 to R9, R13, R14, R53): the statements
SampleReadsTheInputs, SampleCountsEnergyAndShorts, OutputsAreDrivenThroughTheGate and ClampsCloseAndThePlanIsMeasured. -/
namespace Sys2Proof.Proofs.SampleReadings
open Sys2Proof Sys2Proof.Machine Sys2Proof.Proofs.Samples Sys2Proof.Proofs.FlashBurn

set_option Elab.async false

/-! ### The findings of a quiet sample out of the regulated states -/

section
variable (raw : Samples) (s : State)

/-- R10: the stall window of a sample grows by one entry, or is emptied. -/
theorem readings_stall : (readings raw s).mfe.stall.length ≤ s.mfe.stall.length + 1
    ∧ (s.wsq.seq.regulated = false → (readings raw s).mfe.stall = []) := by
  have hslip (t : State) : (takeSlip t).mfe.stall = t.mfe.stall := by
    unfold takeSlip
    repeat' split
    all_goals rfl
  unfold readings
  rw [takeInputs_tick, hslip]
  have henergy : (takeEnergy (takeShort { tickAll s with mfe := inputsTaken raw s })).mfe.stall = s.mfe.stall
      ∧ (takeEnergy (takeShort { tickAll s with mfe := inputsTaken raw s })).wsq.seq = s.wsq.seq := by
    unfold takeEnergy
    split <;> exact ⟨rfl, rfl⟩
  generalize takeEnergy _ = t at henergy
  obtain ⟨hstall, hseq⟩ := henergy
  unfold takeStall State.stallEligible
  constructor
  · dsimp only
    split
    · simp [hstall]
    · simp
  · intro h
    simp [hseq, h]

theorem stallOf_short {w : List (Int × Int)} (h : w.length < 200) : stallOf w = none := by
  unfold stallOf
  split
  · simp [stallSize, Nat.ne_of_lt h]
  · rfl

theorem measure_stall_short (h : s.mfe.stall.length < 199) : stallOf (Machine.measure raw s).mfe.stall = none := by
  have := (readings_stall raw s).1
  rw [measure_mfe]
  exact stallOf_short (by omega)

/-- Out of PREHEAT, FLASH and BOOST a sample that takes no notice comes to the law of its phase alone (R10, R93). -/
theorem takeFindings_unregulated {order : SampleOrder} (hq : NoNotices order) (h : s.wsq.seq.regulated = false) :
    takeFindings order (Machine.measure raw s) = takePhase s.wsq.seq (Machine.measure raw s) := by
  have hseq : (Machine.measure raw s).wsq.seq = s.wsq.seq := by simp [Wsq.tick]
  have hstall : stallOf (Machine.measure raw s).mfe.stall = none := by
    rw [measure_mfe, (readings_stall raw s).2 h]
    rfl
  have key := takeFindings_phase hq (Machine.measure raw s) hstall (by rw [hseq]; exact takeStrokeLimit_unregulated h _)
    (by rw [hseq]; exact takeStrokeLimit_unregulated h _)
  rwa [hseq] at key

end

/-! ### The inputs and their notices -/

theorem takeAll_get (raw : Samples) (x : Inputs) (i : Input) :
    (x.takeAll raw).get i = takeInput i (Samples.get raw i) (x.get i) := by cases i <;> rfl

theorem mem_allInputs (i : Input) : i ∈ allInputs := by cases i <;> decide

/-- R3: what a sample raises, input by input. -/
theorem mem_raisedAt (raw : Samples) (s : State) (n : RangeNotice) : n ∈ raisedAt raw s ↔
    (s.mfe.inputs.get n.input).held = 4 ∧ sampleValid n.input (Samples.get raw n.input) = false
      ∧ n.value = if (Samples.get raw n.input).fail then none else some (Samples.get raw n.input).value := by
  have hone (i : Input) : rangeNotice? raw s.mfe.inputs i = some n ↔ i = n.input
      ∧ (s.mfe.inputs.get n.input).held = 4 ∧ sampleValid n.input (Samples.get raw n.input) = false
      ∧ n.value = if (Samples.get raw n.input).fail then none else some (Samples.get raw n.input).value := by
    obtain ⟨j, v⟩ := n
    unfold rangeNotice?
    constructor
    · intro h
      split at h
      · next hc =>
        cases h
        exact ⟨rfl, hc.1, by simpa using hc.2, rfl⟩
      · cases h
    · rintro ⟨rfl, h1, h2, h3⟩
      simp only at h1 h2 h3
      rw [if_pos ⟨h1, by simp [h2]⟩, h3]
  unfold raisedAt
  simp only [List.mem_filterMap, hone]
  exact ⟨fun ⟨_, _, _, h⟩ => h, fun h => ⟨_, mem_allInputs _, rfl, h⟩⟩

theorem clampSample_notices (s : State) : (clampSample s).mfe.rangeNotices = s.mfe.rangeNotices := by
  unfold clampSample
  split <;> simp

theorem buildOutcome_notices (s : State) : (buildOutcome s).mfe.rangeNotices = s.mfe.rangeNotices := by
  have hend (t : State) : (endContext t).mfe.rangeNotices = t.mfe.rangeNotices := by
    unfold endContext
    split <;> rfl
  rw [buildOutcome, enterState_mfe]
  dsimp only
  rw [hend, handRecord_mfe, settleVerdict, activate_mfe, mapCtx_mfe, settleNeutral_mfe, settleEnergy_mfe]

theorem unclampSample_notices (s : State) : (unclampSample s).mfe.rangeNotices = s.mfe.rangeNotices := by
  unfold unclampSample
  split
  · exact buildOutcome_notices s
  · rfl

/-- The law of a phase, for a sample that is still in it. -/
def phaseLaw : SeqState → State → State
  | .clamp => clampSample
  | .preheat => preheatSample
  | .flash => flashSample
  | .boost => boostSample
  | .upset => upsetSample
  | .unclamp => unclampSample
  | .stopping => unclampSample
  | _ => id

theorem takePhase_of_seq {start : SeqState} {s : State} (h : s.wsq.seq = start) : takePhase start s = phaseLaw start s := by
  unfold takePhase phaseLaw
  rw [if_pos h]
  cases start <;> rfl

theorem measure_seq (raw : Samples) (s : State) : (Machine.measure raw s).wsq.seq = s.wsq.seq := by simp [Wsq.tick]

/-- R3: a sample that takes no notice leaves the notices that wait, and those it has raised. -/
theorem takeFindings_notices {order : SampleOrder} (hq : NoNotices order) (raw : Samples) (s : State) :
    (takeFindings order (Machine.measure raw s)).mfe.rangeNotices = (Machine.measure raw s).mfe.rangeNotices := by
  by_cases hclamp : s.wsq.seq = .clamp
  · rw [takeFindings_unregulated raw s hq (by rw [hclamp]; rfl), takePhase_of_seq (measure_seq raw s), hclamp]
    exact clampSample_notices _
  by_cases hunclamp : s.wsq.seq = .unclamp
  · rw [takeFindings_unregulated raw s hq (by rw [hunclamp]; rfl), takePhase_of_seq (measure_seq raw s), hunclamp]
    exact unclampSample_notices _
  by_cases hstopping : s.wsq.seq = .stopping
  · rw [takeFindings_unregulated raw s hq (by rw [hstopping]; rfl), takePhase_of_seq (measure_seq raw s), hstopping]
    exact unclampSample_notices _
  · rw [takeFindings_stands hq (Machine.measure raw s) (by rwa [measure_seq]) (by rwa [measure_seq]) (by rwa [measure_seq])]

theorem sampleValid_iff (i : Input) (r : RawSample) :
    sampleValid i r = true ↔ r.fail = false ∧ (inputRange i).1 ≤ r.value ∧ r.value ≤ (inputRange i).2 := by
  simp [sampleValid, and_assoc]

theorem exec_sample_of_reset (raw : Samples) (order : SampleOrder) {s : State} (h : s.pins.lineReset = true) :
    exec (.sample raw order) s = .next (gateCurrent s) := by
  show finish (takeSample raw order s) = _
  rw [takeSample, if_pos h]
  rfl

/-- What a sample shows of its inputs, whatever it finds. -/
theorem sample_inputs (raw : Samples) (order : SampleOrder) (s : State) :
    (gateCurrent (takeFindings order (Machine.measure raw s))).mfe.inputs = s.mfe.inputs.takeAll raw := by
  rw [gateCurrent_mfe_inputs, (takeFindings_readings order _).inputs, measure_mfe, readings_inputs]

/-- Settles O10: no finding changes an input, and none of a quiet sample a notice. -/
theorem sampleReadsTheInputs : Obligations.SampleReadsTheInputs := by
  refine ⟨fun raw order s hreset => ⟨_, exec_sample_of_notReset raw order hreset, fun i => ?_, fun hq => ?_⟩,
    fun raw order s hreset => exec_sample_of_reset raw order hreset, fun i r => ⟨?_, fun x => rfl⟩⟩
  · rw [sample_inputs, takeAll_get]
    rfl
  · refine ⟨raisedAt raw s, ?_, mem_raisedAt raw s⟩
    rw [gateCurrent_mfe_rangeNotices, takeFindings_notices hq, measure_mfe, readings_notices]
  · rw [sampleValid_iff]
    cases i <;> exact Iff.rfl

/-! ### The energy and the short test -/

/-- R5 to R7: the figures of the short test stand. -/
structure ShortsStand (m m' : Mfe) : Prop where
  shorted  : m'.shorted = m.shorted
  onsets   : m'.onsets = m.onsets
  duration : m'.shortDuration = m.shortDuration
  notices  : m'.freezeNotices = m.freezeNotices

theorem Stands.shorts {m m' : Mfe} (h : Stands m m') : ShortsStand m m' := by
  unfold Stands at h
  constructor <;> rw [h]

theorem clampSample_shorts (s : State) : ShortsStand s.mfe (clampSample s).mfe := by
  unfold clampSample
  split <;> constructor <;> simp

theorem unclampSample_closed {s : State} (h : (s.sched.openThreshold : Int) ≤ s.pressure) : unclampSample s = s := by
  unfold unclampSample
  rw [if_neg (by omega)]

theorem measure_sched (raw : Samples) (s : State) : (Machine.measure raw s).sched = s.sched := by
  have hctx := measure_ctx raw s
  cases hs : s.ctx with
  | none =>
    rw [hs] at hctx
    simp [State.sched, hs, hctx]
  | some c =>
    rw [hs] at hctx
    simp only [State.sched, hs, hctx, Option.map_some]
    cases c.bank <;> simp [State.bank]

theorem sched_of_ctx {s : State} {c : WeldCtx} (h : s.ctx = some c) : s.sched = (s.bank c.bank).image := by
  simp [State.sched, h]

theorem measure_pressure (raw : Samples) (s : State) :
    (Machine.measure raw s).pressure = (s.mfe.inputs.takeAll raw).clampPressure.value := by
  rw [State.pressure, State.input, measure_mfe, readings_inputs]
  rfl

/-- R5 to R7: the short test of a quiet sample is the one just worked, unless the clamps open. -/
theorem takeFindings_shorts {order : SampleOrder} (hq : NoNotices order) (raw : Samples) (s : State)
    (hclosed : s.wsq.seq = .unclamp ∨ s.wsq.seq = .stopping →
      (s.sched.openThreshold : Int) ≤ (s.mfe.inputs.takeAll raw).clampPressure.value) :
    ShortsStand (Machine.measure raw s).mfe (takeFindings order (Machine.measure raw s)).mfe := by
  have hclosed' : s.wsq.seq = .unclamp ∨ s.wsq.seq = .stopping →
      unclampSample (Machine.measure raw s) = Machine.measure raw s := fun h =>
    unclampSample_closed (by rw [measure_sched, measure_pressure]; exact hclosed h)
  by_cases hclamp : s.wsq.seq = .clamp
  · rw [takeFindings_unregulated raw s hq (by rw [hclamp]; rfl), takePhase_of_seq (measure_seq raw s), hclamp]
    exact clampSample_shorts _
  by_cases hunclamp : s.wsq.seq = .unclamp
  · rw [takeFindings_unregulated raw s hq (by rw [hunclamp]; rfl), takePhase_of_seq (measure_seq raw s), hunclamp]
    show ShortsStand _ (unclampSample _).mfe
    rw [hclosed' (.inl hunclamp)]
    exact ⟨rfl, rfl, rfl, rfl⟩
  by_cases hstopping : s.wsq.seq = .stopping
  · rw [takeFindings_unregulated raw s hq (by rw [hstopping]; rfl), takePhase_of_seq (measure_seq raw s), hstopping]
    show ShortsStand _ (unclampSample _).mfe
    rw [hclosed' (.inr hstopping)]
    exact ⟨rfl, rfl, rfl, rfl⟩
  · exact Stands.shorts
      (takeFindings_stands hq _ (by rwa [measure_seq]) (by rwa [measure_seq]) (by rwa [measure_seq]))

/-- R5: the short test on a sample's inputs. -/
theorem taken_shorted_iff {raw : Samples} {s : State} {c : WeldCtx} (hctx : s.ctx = some c) :
    State.sampleShorted { tickAll s with mfe := inputsTaken raw s } = true ↔
      (s.mfe.inputs.takeAll raw).voltage.value < (s.bank c.bank).image.vShort
      ∧ ((s.bank c.bank).image.iShort : Int) < (s.mfe.inputs.takeAll raw).current.value := by
  have hsched : State.sched { tickAll s with mfe := inputsTaken raw s } = (s.bank c.bank).image :=
    sched_of_ctx (s := { tickAll s with mfe := inputsTaken raw s }) hctx
  unfold State.sampleShorted
  rw [hsched]
  simp only [tickAll, hctx, Option.isSome_some, Bool.true_and, Bool.and_eq_true, decide_eq_true_eq]
  exact Iff.rfl

theorem sample_input (raw : Samples) (order : SampleOrder) (s : State) (i : Input) :
    (gateCurrent (takeFindings order (Machine.measure raw s))).input i = ((s.mfe.inputs.takeAll raw).get i).value := by
  rw [State.input, sample_inputs]

/-- Settles O11: no finding changes the energy, and no quiet sample whose clamps stay closed the figures of the short test. -/
theorem sampleCountsEnergyAndShorts : Obligations.SampleCountsEnergyAndShorts := by
  refine ⟨fun raw order s hreset => ⟨_, exec_sample_of_notReset raw order hreset, ?_⟩,
    fun raw order s c hreset hctx hq => ⟨_, exec_sample_of_notReset raw order hreset, ?_⟩⟩
  · rw [gateCurrent_mfe_energy, (takeFindings_readings order _).energy, measure_mfe, readings_energy, sample_input,
      sample_input]
    rfl
  · intro k shorted
    refine ⟨fun hclosed => ?_, fun hseq => ?_⟩
    · have hstand := takeFindings_shorts hq raw s fun h => by
        have := hclosed h
        rw [State.pressure, sample_input] at this
        rw [sched_of_ctx hctx]
        exact this
      obtain ⟨h1, h2, h3, h4⟩ := hstand
      obtain ⟨r1, r2, r3, r4⟩ := readings_shorts raw s
      have hshorted : State.sampleShorted { tickAll s with mfe := inputsTaken raw s } = true ↔ shorted := by
        rw [taken_shorted_iff hctx]
        simp only [shorted, sample_input]
        exact Iff.rfl
      have hsched : State.sched { tickAll s with mfe := inputsTaken raw s } = k :=
        sched_of_ctx (s := { tickAll s with mfe := inputsTaken raw s }) hctx
      rw [gateCurrent_mfe_shorted, gateCurrent_mfe_onsets, gateCurrent_mfe_shortDuration, gateCurrent_mfe_freezeNotices,
        h1, h2, h3, h4, measure_mfe, r1, r2, r3, r4]
      simp only [takeShort, hsched]
      have hwas : (inputsTaken raw s).shorted = s.mfe.shorted ∧ (inputsTaken raw s).onsets = s.mfe.onsets
          ∧ (inputsTaken raw s).shortDuration = s.mfe.shortDuration
          ∧ (inputsTaken raw s).freezeNotices = s.mfe.freezeNotices := ⟨rfl, rfl, rfl, rfl⟩
      obtain ⟨w1, w2, w3, w4⟩ := hwas
      rw [w1, w2, w3, w4]
      by_cases hs : shorted
      · rw [hshorted.mpr hs]
        simp +contextual [hs]
      · have hns : State.sampleShorted { tickAll s with mfe := inputsTaken raw s } = false := by
          rw [← Bool.not_eq_true, hshorted]
          exact hs
        rw [hns]
        simp [hs]
    · have hun : s.wsq.seq.regulated = false := by
        simp only [List.mem_cons, List.not_mem_nil, or_false] at hseq
        rcases hseq with h | h | h | h | h <;> rw [h] <;> rfl
      rw [gateCurrent_wsq, takeFindings_unregulated raw s hq hun, takePhase_of_seq (measure_seq raw s)]
      simp only [List.mem_cons, List.not_mem_nil, or_false] at hseq
      rcases hseq with h | h | h | h | h <;> rw [h] <;> exact (measure_seq raw s).trans h

/-! ### The outputs and the gate -/

/-- R14: the conditions in which the front end passes the current demand. -/
theorem gateOpen_iff (s : State) : s.gateOpen = true ↔ (s.wsq.seq = .preheat ∧ s.frg.step = .contact)
    ∨ s.wsq.seq = .flash ∨ s.wsq.seq = .boost ∨ (s.wsq.seq = .upset ∧ s.wsq.tucExpired = false) := by
  unfold State.gateOpen
  cases s.wsq.seq <;> simp

theorem gateOpen_gateCurrent (s : State) : (gateCurrent s).gateOpen = s.gateOpen := by simp [State.gateOpen]

/-- Every command ends with the current gate. -/
theorem exec_gated (c : Instr) (s : State) : ∃ u, exec c s = .next (gateCurrent u) := by
  cases c <;> exact ⟨_, rfl⟩

theorem drivenAt_current (s : State) :
    (drivenAt s).current = if s.gateOpen then s.mfe.set.current else 0 := by
  unfold drivenAt
  split <;> rfl

theorem drivenAt_rest (s : State) : (drivenAt s).velocity = s.mfe.set.velocity ∧ (drivenAt s).force = s.mfe.set.force
    ∧ (drivenAt s).clamp = s.mfe.set.clamp := by
  unfold drivenAt
  split <;> exact ⟨rfl, rfl, rfl⟩

theorem gateCurrent_driven (s : State) : (gateCurrent s).mfe.driven =
    { s.mfe.driven with current := if s.gateOpen then s.mfe.driven.current else 0 } := by
  cases h : s.gateOpen
  · rw [gateCurrent_closed s h]
    rfl
  · rw [gateCurrent_open s h]
    rfl

/-- Settles O12: the outputs take effect as the sample begins, and the gate is worked then and at its end. -/
theorem outputsAreDrivenThroughTheGate : Obligations.OutputsAreDrivenThroughTheGate := by
  unfold Obligations.OutputsAreDrivenThroughTheGate
  intro passes
  have hpasses (x : State) : passes x ↔ x.gateOpen = true := (gateOpen_iff x).symm
  refine ⟨fun raw order s hreset => ⟨_, exec_sample_of_notReset raw order hreset, ?_⟩, fun c s t hexec hclosed => ?_,
    fun s => ⟨fun h => ?_, fun h => ?_⟩⟩
  · have hdriven : (takeFindings order (Machine.measure raw s)).mfe.driven = drivenAt s := by
      rw [(takeFindings_readings order _).driven, measure_mfe, readings_driven]
    simp only [hpasses, gateOpen_gateCurrent, gateCurrent_driven, hdriven, drivenAt_current]
    obtain ⟨hvelocity, hforce, hclamp⟩ := drivenAt_rest s
    refine ⟨hvelocity, hforce, hclamp, fun h1 h2 => by simp [h1, h2], fun h => ?_⟩
    rcases h with h | h <;> simp [h]
  · obtain ⟨u, hu⟩ := exec_gated c s
    cases hexec.symm.trans hu
    rw [hpasses, gateOpen_gateCurrent] at hclosed
    simp [gateCurrent_driven, hclosed]
  · exact gateCurrent_open s ((hpasses s).mp h)
  · rw [hpasses] at h
    rw [gateCurrent, if_neg h]

/-! ### CLAMP and PLAN -/

/-- R53: what a clamp pressure at or above clamp_min begins. -/
theorem clampSample_reached {s : State} (h : (s.sched.clampMin : Int) ≤ s.pressure) :
    (clampSample s).wsq = { s.wsq with seq := .plan, clampTimer := none }
    ∧ (clampSample s).mfe.set = { s.mfe.set with clamp := .keep }
    ∧ (clampSample s).mfe.planning = .sampling 0 0 ∧ (clampSample s).ctx = (enterState .plan s).ctx := by
  unfold clampSample
  rw [if_pos h]
  simp

/-- Settles O13: in CLAMP and PLAN the law of the phase is all that a sample comes to; in PLAN no notice touches the planning
measurement. -/
theorem clampsCloseAndThePlanIsMeasured : Obligations.ClampsCloseAndThePlanIsMeasured := by
  refine ⟨fun raw order s c hreset hctx hseq hq => ?_, fun raw order s n sum hreset hseq hplan => ?_⟩
  · have hfound : takeFindings order (Machine.measure raw s) = clampSample (Machine.measure raw s) := by
      rw [takeFindings_unregulated raw s hq (by rw [hseq]; rfl), takePhase_of_seq (measure_seq raw s), hseq]
      rfl
    have hmctx : (Machine.measure raw s).ctx = some c := by
      rw [measure_state, hctx]
      have hstands (p : Progress) : progressOf (readings raw s) p = p := by
        have hr : (readings raw s).wsq.seq = .clamp := by rw [readings_eq]; exact hseq
        simp [progressOf, hr]
      simp [hstands]
    have hpressure : (gateCurrent (takeFindings order (Machine.measure raw s))).pressure
        = (Machine.measure raw s).pressure := by
      rw [State.pressure, State.input, sample_inputs, measure_pressure]
      rfl
    have hsched : (Machine.measure raw s).sched = (s.bank c.bank).image := by rw [measure_sched, sched_of_ctx hctx]
    by_cases hreached : ((s.bank c.bank).image.clampMin : Int) ≤ (Machine.measure raw s).pressure
    · obtain ⟨hwsq, hset, hplanning, hctx'⟩ := clampSample_reached (hsched ▸ hreached)
      obtain ⟨c', hc', hsame⟩ := enterState_some .plan _ _ hmctx
      refine ⟨_, c', exec_sample_of_notReset raw order hreset, ?_, ?_⟩
      · rw [gateCurrent_ctx, hfound, hctx', hc']
      · rw [hpressure]
        refine ⟨fun _ => ?_, fun hlow => by omega⟩
        rw [gateCurrent_wsq, gateCurrent_mfe_set, gateCurrent_mfe_planning, hfound, hwsq, hset, hplanning, measure_mfe,
          readings_set, hsame]
        simp [SeqState.forward]
    · have hsame : clampSample (Machine.measure raw s) = Machine.measure raw s := by
        unfold clampSample
        rw [hsched, if_neg hreached]
      refine ⟨_, c, exec_sample_of_notReset raw order hreset, ?_, ?_⟩
      · rw [gateCurrent_ctx, hfound, hsame, hmctx]
      · rw [hpressure]
        refine ⟨fun h => absurd h hreached, fun _ => ?_⟩
        rw [gateCurrent_wsq, gateCurrent_mfe_set, hfound, hsame, measure_wsq, measure_mfe, readings_set]
        exact ⟨hseq, rfl, rfl, rfl⟩
  · refine ⟨_, exec_sample_of_notReset raw order hreset, ?_⟩
    intro raised
    have hraised : raised ↔ (raisedAt raw s).isEmpty = false := by
      rw [List.isEmpty_eq_false_iff_exists_mem]
      constructor
      · rintro ⟨i, hheld, hbad⟩
        exact ⟨⟨i, if (Samples.get raw i).fail then none else some (Samples.get raw i).value⟩,
          (mem_raisedAt raw s _).mpr ⟨hheld, hbad, rfl⟩⟩
      · rintro ⟨x, hx⟩
        obtain ⟨hheld, hbad, -⟩ := (mem_raisedAt raw s x).mp hx
        exact ⟨x.input, hheld, hbad⟩
    have hkept : (takeFindings order (Machine.measure raw s)).mfe.planning = (inputsTaken raw s).planning := by
      have hnoticed := takeFindings_noticed order (Machine.measure raw s) (by rw [measure_seq, hseq]; decide)
        (by rw [measure_seq, hseq]; decide) (by rw [measure_seq, hseq]; decide)
      unfold NoticeTaken at hnoticed
      rw [hnoticed]
      show (Machine.measure raw s).mfe.planning = _
      rw [measure_mfe, readings_planning]
    rw [gateCurrent_mfe_planning, hkept, sample_input, sample_input]
    simp only [inputsTaken, hplan, Planning.sample, hraised]
    cases (raisedAt raw s).isEmpty
    · simp
    · refine ⟨fun h => absurd h (by simp), fun _ h => ?_, fun _ h => ?_⟩
      · simp [h, Inputs.get]
      · simp [h, Inputs.get]

end Sys2Proof.Proofs.SampleReadings

/-! Preheat (R76 to R86): what one sample of its steps does, the ends of a contact and of an open; the statements
ContactIsDetected, ContactEndsAndTheOpenBegins and OpenEndsInApproachFlashOrWait. -/
namespace Sys2Proof.Proofs.Preheat
open Sys2Proof Sys2Proof.Machine Sys2Proof.Proofs.Invariants Sys2Proof.Proofs.Samples Sys2Proof.Proofs.SampleReadings
  Sys2Proof.Proofs.FlashBurn

set_option Elab.async false

/-! ### The weld and its schedule through the operations -/

/-- R32, R48: the weld of this number, bank and mode is in flight, and its schedule is this one. -/
structure Welding (n : Nat) (name : BankName) (mode : Mode) (k : Schedule) (s : State) : Prop where
  context  : ∃ c, s.ctx = some c ∧ c.weldNumber = n ∧ c.bank = name ∧ c.mode = mode
  schedule : (s.bank name).image = k

section
variable {n : Nat} {name : BankName} {mode : Mode} {k : Schedule}

theorem addFault_same (kind : FaultKind) (p : SeqState) (c : WeldCtx) : (c.addFault kind p).1.weldNumber = c.weldNumber
    ∧ (c.addFault kind p).1.bank = c.bank ∧ (c.addFault kind p).1.mode = c.mode := by
  unfold WeldCtx.addFault
  repeat' split
  all_goals exact ⟨rfl, rfl, rfl⟩

theorem bank_of_rst {s t : State} (h : t.rst = s.rst) (name : BankName) : t.bank name = s.bank name := by
  cases name <;> simp [State.bank, h]

def weldInvariant (n : Nat) (name : BankName) (mode : Mode) (k : Schedule) : Invariant where
  Holds := Welding n name mode k
  free h hctx _ _ hr _ := ⟨hctx ▸ h.context, (bank_of_rst hr name).symm ▸ h.schedule⟩
  ctx h hf := by
    obtain ⟨⟨c, hc, h1, h2, h3⟩, hk⟩ := h
    exact ⟨⟨_, by simp [hc], (hf c).number.trans h1, (hf c).bank.trans h2, (hf c).mode.trans h3⟩, hk⟩
  fault {s c} kind p h hc := by
    obtain ⟨⟨x, hx, h1, h2, h3⟩, hk⟩ := h
    cases hc.symm.trans hx
    obtain ⟨a1, a2, a3⟩ := addFault_same kind p c
    exact ⟨⟨_, rfl, a1.trans h1, a2.trans h2, a3.trans h3⟩, hk⟩
  activate src h := by
    obtain ⟨⟨c, hc, h1, h2, h3⟩, hk⟩ := h
    obtain ⟨c', hc', hsame⟩ := activate_some src _ c hc
    refine ⟨⟨c', hc', ?_⟩, (bank_of_rst (activate_rst src _) name).symm ▸ hk⟩
    rw [hsame]
    exact ⟨h1, h2, h3⟩
  tick _ h := ⟨h.context, h.schedule⟩
  filed _ h := ⟨h.context, (by cases name <;> exact h.schedule)⟩
  line h _ := ⟨h.context, h.schedule⟩

theorem Welding.sched {s : State} (h : Welding n name mode k s) : s.sched = k := by
  obtain ⟨⟨c, hc, -, hb, -⟩, hk⟩ := h
  rw [sched_of_ctx hc, hb, hk]

theorem welding_of_ctx {s : State} {c : WeldCtx} (h : s.ctx = some c) :
    Welding c.weldNumber c.bank c.mode (s.bank c.bank).image s := ⟨⟨c, h, rfl, rfl, rfl⟩, rfl⟩

end

/-! ### The weld context through the operations, but for the mark that any activation may set (R165) -/

theorem some_truncated {x : Option WeldCtx} {c : WeldCtx} (h : ∃ c', x = some c' ∧ SameTruncated c c') :
    ∃ cut, x = some { c with truncated := cut } := by
  obtain ⟨c', hx, hc'⟩ := h
  exact ⟨c'.truncated, hx.trans (congrArg some hc')⟩

section
variable {s : State} {c : WeldCtx}

theorem activate_cut (src : Source) (h : s.ctx = some c) :
    ∃ cut, (activate src s).ctx = some { c with truncated := cut } := some_truncated (activate_some src s c h)

theorem enterState_forward {st : SeqState} (hst : st.forward = true) (h : s.ctx = some c) :
    ∃ cut, (enterState st s).ctx = some { c with phaseReached := st, truncated := cut } := by
  have := some_truncated (enterState_some st s c h)
  rwa [if_pos hst] at this

theorem enterFaultAs_cut (p : SeqState) (k : FaultKind) (i : Option Int) (h : s.ctx = some c) :
    ∃ cut, (enterFaultAs p k i s).ctx = some { (c.addFault k p).1 with truncated := cut } :=
  some_truncated (enterFaultAs_ctx p k i s c h).1

theorem setOwnClaim_cut (v : Nat) (h : s.ctx = some c) :
    ∃ cut, (setOwnClaim v s).ctx = some { c with truncated := cut } := some_truncated (setOwnClaim_some v s c h)

theorem yieldOwnClaim_cut (h : s.ctx = some c) :
    ∃ cut, (yieldOwnClaim s).ctx = some { c with truncated := cut } := some_truncated (yieldOwnClaim_some s c h)

end

/-! ### A quiet sample of a regulated state -/

theorem phaseLaw_keeps {I : Invariant} {start : SeqState} {s : State} (hreg : start.regulated = true) (h : I.Holds s) :
    I.Holds (phaseLaw start s) := by
  cases start with
  | preheat => exact preheatSample_keeps h
  | flash => exact flashSample_keeps h
  | boost => exact boostSample_keeps h
  | _ => cases hreg

theorem measure_position (raw : Samples) (s : State) :
    (Machine.measure raw s).position = (s.mfe.inputs.takeAll raw).position.value := by
  rw [State.position, State.input, measure_mfe, readings_inputs]
  rfl

theorem measure_some (raw : Samples) {s : State} {c : WeldCtx} (h : s.ctx = some c) : (Machine.measure raw s).ctx =
    some { c with progress := progressOf (readings raw s) c.progress } := by
  rw [measure_ctx, h]
  rfl

/-- R10, R93: short of the stroke limit and of a full stall window, a sample of PREHEAT, FLASH or BOOST that takes no notice
comes to the law of its phase alone. -/
theorem takeFindings_regulated {order : SampleOrder} (raw : Samples) {s : State} {c : WeldCtx} (hq : NoNotices order)
    (hctx : s.ctx = some c) (hreg : s.wsq.seq.regulated = true) (hstall : stallOf (Machine.measure raw s).mfe.stall = none)
    (hshort : (takeInput .position raw.position s.mfe.inputs.position).value < (s.bank c.bank).image.strokeLimit) :
    takeFindings order (Machine.measure raw s) = phaseLaw s.wsq.seq (Machine.measure raw s) := by
  have hphase : takePhase s.wsq.seq (Machine.measure raw s) = phaseLaw s.wsq.seq (Machine.measure raw s) :=
    takePhase_of_seq (measure_seq raw s)
  have hwelding := welding_of_ctx (measure_some raw hctx)
  have hsched : (Machine.measure raw s).sched = (s.bank c.bank).image := by rw [measure_sched, sched_of_ctx hctx]
  have hsched' := (phaseLaw_keeps (I := weldInvariant _ _ _ _) hreg hwelding).sched
  rw [← hwelding.sched, hsched] at hsched'
  have hposition : (phaseLaw s.wsq.seq (Machine.measure raw s)).position
      = (takeInput .position raw.position s.mfe.inputs.position).value := by
    rw [State.position, State.input, ← hphase, (takePhase_readings _ _).inputs, measure_mfe, readings_inputs]
    rfl
  have key := takeFindings_phase hq (Machine.measure raw s) hstall
    (takeStrokeLimit_short (by rw [measure_position, hsched]; exact hshort))
    (by rw [measure_seq, hphase]; exact takeStrokeLimit_short (by rw [hposition, hsched']; exact hshort))
  rw [key, measure_seq, hphase]

/-! ### A sample of PREHEAT -/

theorem progressOf_idle {s : State} (h1 : s.wsq.seq ≠ .flash) (h2 : s.wsq.seq ≠ .boost) (h3 : s.wsq.seq ≠ .upset)
    (h4 : s.wsq.seq ≠ .hold) (p : Progress) : progressOf s p = p := by
  unfold progressOf
  cases h : s.wsq.seq <;> first | rfl | contradiction

theorem readings_seq (raw : Samples) (s : State) : (readings raw s).wsq.seq = s.wsq.seq := by
  rw [readings_eq]
  rfl

/-- Out of FLASH, BOOST, UPSET and HOLD a sample leaves the weld context as it measures. -/
theorem measure_ctx_idle (raw : Samples) {s : State} (h1 : s.wsq.seq ≠ .flash) (h2 : s.wsq.seq ≠ .boost)
    (h3 : s.wsq.seq ≠ .upset) (h4 : s.wsq.seq ≠ .hold) : (Machine.measure raw s).ctx = s.ctx := by
  rw [measure_ctx]
  have hidle (p : Progress) : progressOf (readings raw s) p = p :=
    progressOf_idle (by rwa [readings_seq]) (by rwa [readings_seq]) (by rwa [readings_seq]) (by rwa [readings_seq]) p
  cases s.ctx <;> simp [hidle]

/-- What the samples of PREHEAT share: the law acts on a state whose weld, schedule, steps and outputs are those of `s`. -/
theorem preheat_sample {raw : Samples} {order : SampleOrder} {s : State} {c : WeldCtx} (hreset : s.pins.lineReset = false)
    (hctx : s.ctx = some c) (hseq : s.wsq.seq = .preheat) (hstall : s.mfe.stall.length < 199) (hq : NoNotices order)
    (hshort : (takeInput .position raw.position s.mfe.inputs.position).value < (s.bank c.bank).image.strokeLimit) :
    exec (.sample raw order) s = .next (gateCurrent (preheatSample (Machine.measure raw s)))
    ∧ (gateCurrent (preheatSample (Machine.measure raw s))).mfe.inputs = s.mfe.inputs.takeAll raw := by
  have hfound : takeFindings order (Machine.measure raw s) = preheatSample (Machine.measure raw s) := by
    have := takeFindings_regulated raw hq hctx (by rw [hseq]; rfl) (measure_stall_short raw s hstall) hshort
    rw [this, hseq]
    rfl
  constructor
  · rw [exec_sample_of_notReset raw order hreset, hfound]
  · rw [← hfound]
    exact sample_inputs raw order s

theorem scaled_of_ctx {s : State} {c : WeldCtx} (h : s.ctx = some c) (figure : Nat) :
    s.scaled figure = figure * c.share / 1000 := by simp [State.scaled, h]

/-- R49, R78: a contact that begins sets the heat-began mark. -/
theorem beginContact_some {s : State} {c : WeldCtx} (h : s.ctx = some c) :
    ∃ c', (beginContact s).ctx = some c' ∧ SameTruncated { c with heatBegan := true } c' := by
  unfold beginContact
  exact activate_some _ _ _ (by simp [h])

theorem endContact_some {s : State} {c : WeldCtx} (h : s.ctx = some c) :
    ∃ c', (endContact s).ctx = some c' ∧ SameTruncated
      { c with progress := { c.progress with contactsDone := c.progress.contactsDone + 1 } } c' := by
  unfold endContact
  exact activate_some _ _ _ (by simp [h])

/-- Settles O16: a contact current begins the contact, and a lower one leaves the approach as it is. -/
theorem contactIsDetected : Obligations.ContactIsDetected := by
  intro raw order s c hreset hctx hseq hstep hstall hq hshort
  obtain ⟨hexec, hinputs⟩ := preheat_sample hreset hctx hseq hstall hq hshort
  have hmctx : (Machine.measure raw s).ctx = some c := by
    rw [measure_ctx_idle raw (by simp [hseq]) (by simp [hseq]) (by simp [hseq]) (by simp [hseq]), hctx]
  have hmsched : (Machine.measure raw s).sched = (s.bank c.bank).image := by rw [measure_sched, sched_of_ctx hctx]
  have hmstep : (Machine.measure raw s).frg.step = .approach := by rw [measure_frg]; exact hstep
  have hcurrent : (Machine.measure raw s).input .current = (s.mfe.inputs.takeAll raw).current.value := by
    rw [State.input, measure_mfe, readings_inputs]
    rfl
  have hshown : (gateCurrent (preheatSample (Machine.measure raw s))).input .current
      = (s.mfe.inputs.takeAll raw).current.value := by
    rw [State.input, hinputs]
    rfl
  have hlaw : preheatSample (Machine.measure raw s) =
      if ((s.bank c.bank).image.iContact : Int) < (s.mfe.inputs.takeAll raw).current.value then
        beginContact (Machine.measure raw s) else Machine.measure raw s := by
    unfold preheatSample
    rw [hmstep]
    dsimp only
    rw [hmsched, hcurrent]
  by_cases hc : ((s.bank c.bank).image.iContact : Int) < (s.mfe.inputs.takeAll raw).current.value
  · rw [if_pos hc] at hlaw
    obtain ⟨c', hc', hsame⟩ := beginContact_some hmctx
    refine ⟨_, c', hexec, by rw [gateCurrent_ctx, hlaw]; exact hc', ?_⟩
    intro k
    rw [hshown]
    refine ⟨fun _ => ?_, fun hle => absurd hle (not_le.mpr hc)⟩
    simp only [hlaw, beginContact, gateCurrent_wsq, gateCurrent_frg, gateCurrent_mfe_set, activate_wsq, activate_frg,
      activate_mfe, mapCtx_wsq, mapCtx_frg, mapCtx_mfe, mapSet_wsq, mapSet_frg, mapSet_mfe]
    refine ⟨(measure_seq raw s).trans hseq, trivial, trivial, ?_, ?_, by rw [hsame]⟩
    · rw [scaled_of_ctx hmctx, hmsched, measure_mfe, readings_set]
    · rw [hmsched, measure_frg]
      simp only [startTimer, contactLength, Frg.tick, Nat.max_comm]
      rfl
  · rw [if_neg hc] at hlaw
    refine ⟨_, c, hexec, by rw [gateCurrent_ctx, hlaw, hmctx], ?_⟩
    intro k
    rw [hshown]
    refine ⟨fun h => absurd h hc, fun _ => ?_⟩
    rw [gateCurrent_wsq, gateCurrent_frg, gateCurrent_mfe_set, hlaw, measure_mfe, readings_set]
    exact ⟨(measure_seq raw s).trans hseq, hmstep, rfl, rfl⟩

/-! ### The end of a contact -/

/-- A command whose condition stands ends with the current gate on its effect. -/
theorem finish_turn {p : Prop} [Decidable p] {t s : State} (h : p) :
    finish (if p then t else s) = .next (gateCurrent t) := by
  rw [if_pos h]
  rfl

/-- R78: what CONTACT_END leaves. -/
theorem contactEnd_at {s : State} {c : WeldCtx} (hctx : s.ctx = some c) (hseq : s.wsq.seq = .preheat)
    (hstep : s.frg.step = .contact) (hdue : timerDue s.frg.contactTimer = true) :
    ∃ t c', exec .contactEnd s = .next t ∧ t.ctx = some c' ∧
      let k := (s.bank c.bank).image
      let length := if k.pattern = 1 ∧ s.frg.k % k.groupG = 0 then k.tR else k.tO
      SameTruncated
        { c with progress := { c.progress with contactsDone := c.progress.contactsDone + 1 } } c'
      ∧ t.mfe = { s.mfe with
          set := { s.mfe.set with current := 0, velocity := -300 }
          driven := { s.mfe.driven with current := 0 } }
      ∧ t.frg = { s.frg with
          step := .opn, contactTimer := none, openStart := s.position, retreatOver := false
          openTimer := some { length := length, elapsed := 0 } }
      ∧ t.wsq = s.wsq ∧ t.clu = s.clu ∧ t.tnl = s.tnl ∧ t.lnp = s.lnp ∧ t.rst = s.rst
      ∧ SameProgram s t ∧ SameOutside s t := by
  obtain ⟨c', hc', hsame⟩ := endContact_some hctx
  have hclosed : (endContact s).gateOpen = false := by simp [endContact, State.gateOpen, hseq]
  refine ⟨_, c', finish_turn ⟨hseq, hstep, hdue⟩, ?_, ?_⟩
  · rw [gateCurrent_ctx]
    exact hc'
  · refine ⟨hsame, ?_, ?_, ?_, ?_, ?_, ?_, ?_, ?_, ?_⟩
    · rw [gateCurrent_closed _ hclosed]
      simp [endContact]
    · simp [endContact, startTimer, openLength, sched_of_ctx hctx]
    · simp [endContact]
    · simp [endContact]
    · simp [endContact]
    · simp [endContact]
    · simp [endContact]
    · constructor <;> simp [endContact]
    · constructor <;> simp [endContact]

/-- Settles O26: the end of the contact is its command; the samples of the open, the contact and the wait follow the law of
their step. -/
theorem contactEndsAndTheOpenBegins : Obligations.ContactEndsAndTheOpenBegins := by
  refine ⟨fun s c hctx hseq hstep hdue => contactEnd_at hctx hseq hstep hdue,
    fun raw order s c hreset hctx hseq hstall hq hshort => ?_⟩
  obtain ⟨hexec, hinputs⟩ := preheat_sample hreset hctx hseq hstall hq hshort
  refine ⟨_, hexec, ?_⟩
  intro k back
  have hmctx : (Machine.measure raw s).ctx = some c := by
    rw [measure_ctx_idle raw (by simp [hseq]) (by simp [hseq]) (by simp [hseq]) (by simp [hseq]), hctx]
  have hmsched : (Machine.measure raw s).sched = k := by rw [measure_sched, sched_of_ctx hctx]
  have hmset : (Machine.measure raw s).mfe.set = s.mfe.set := by rw [measure_mfe, readings_set]
  have hmseq : (Machine.measure raw s).wsq.seq = .preheat := (measure_seq raw s).trans hseq
  have hback : back ↔ (Machine.measure raw s).position ≤ max (s.frg.openStart - k.dOpen) 0 := by
    simp only [back, State.position, State.input, hinputs, measure_mfe, readings_inputs]
  have hfrg : (Machine.measure raw s).frg.step = s.frg.step ∧ (Machine.measure raw s).frg.retreatOver = s.frg.retreatOver
      ∧ (Machine.measure raw s).frg.openStart = s.frg.openStart := by
    rw [measure_frg]
    exact ⟨rfl, rfl, rfl⟩
  obtain ⟨hmstep, hmover, hmstart⟩ := hfrg
  rw [gateCurrent_wsq, gateCurrent_frg, gateCurrent_mfe_set]
  generalize Machine.measure raw s = m at *
  refine ⟨fun hstep => ?_, fun hstep => ?_, fun hstep => ?_⟩
  · have hlaw : preheatSample m = retreat m := by
      unfold preheatSample
      rw [hmstep, hstep]
    rw [hlaw]
    unfold retreat
    rw [hmover, hmstart, hmsched]
    cases hover : s.frg.retreatOver
    · by_cases hb : back
      · have hb' := hback.mp hb
        rw [if_neg (by decide), if_pos hb']
        simp [hb, hmseq, hmstep, hstep, hmset]
      · have hb' := fun h => hb (hback.mpr h)
        rw [if_neg (by decide), if_neg hb']
        simp [hb, hmseq, hmstep, hstep, hmset, hmover, hover]
    · simp [hmseq, hmstep, hstep, hmset, hmover, hover]
  · have hlaw : preheatSample m = m.mapSet (fun o => { o with current := m.scaled m.sched.iPre }) := by
      unfold preheatSample
      rw [hmstep, hstep]
    rw [hlaw, scaled_of_ctx hmctx, hmsched]
    simp [hmseq, hmstep, hstep, hmset]
  · have hlaw : preheatSample m = m.mapSet (fun o => { o with current := 0, velocity := 0 }) := by
      unfold preheatSample
      rw [hmstep, hstep]
    rw [hlaw]
    simp [hmseq, hmstep, hstep, hmset]

/-! ### Flashing entered -/

theorem clampVelocity_eq (v : Int) : clampVelocity v = max 5 (min 300 v) := by
  unfold clampVelocity
  split
  · omega
  · split <;> omega

/-- R88: the law at no burn and no correction. -/
theorem flashVelocity_start (k : Schedule) (bAdj share : Nat) :
    flashVelocity k bAdj share 0 0 = max 5 (min 300 ((k.vS * share / 1000 : Nat) : Int)) := by
  unfold flashVelocity programmedVelocity
  rw [clampVelocity_eq, Nat.zero_min, Int.natCast_zero, Int.mul_zero, Int.zero_tdiv, Int.add_zero, Int.add_zero,
    ← Int.natCast_mul, Int.natCast_div]
  rfl

/-- R86: the upper bound of the rate window, rounded up. -/
theorem rateMax_eq (k : Schedule) : rateMax k =
    k.rC * (8 + k.bandwidth) / 8 + (if k.rC * (8 + k.bandwidth) % 8 = 0 then 0 else 1) := by
  unfold rateMax
  split <;> omega

/-- R85, R86: what the entry to FLASH leaves. -/
structure FlashEntered (c : WeldCtx) (s t : State) : Prop where
  wsq     : t.wsq = { s.wsq with seq := .flash }
  context : ∃ cut, t.ctx = some { c with
      phaseReached := .flash, heatBegan := c.heatBegan || s.sched.nPre == 0, truncated := cut
      progress := { c.progress with flashBurn := 0, flashTime := 0 } }
  mfe     : t.mfe = { s.mfe with
      onsets := 0
      set := { s.mfe.set with
        current := s.sched.iFlash * c.share / 1000
        velocity := max 5 (min 300 ((s.sched.vS * c.share / 1000 : Nat) : Int)) } }
  frg     : t.frg = { s.frg with
      gateTimer := none, flashEntry := s.position, corrK := 0, unstable := 0, rMin := rateMin s.sched
      rMax := rateMax s.sched, windowTimer := some { length := 100, elapsed := 0 } }
  clu     : t.clu = s.clu
  tnl     : t.tnl = s.tnl
  rst     : t.rst = s.rst
  view    : SameView s t
  program : SameProgram s t
  outside : SameOutside s t

theorem enterState_sched {s : State} {c : WeldCtx} (st : SeqState) (h : s.ctx = some c) :
    (enterState st s).sched = s.sched := by
  rw [(enterState_keeps (I := weldInvariant _ _ _ _) (welding_of_ctx h)).sched, sched_of_ctx h]

theorem enterFlash_entered {s : State} {c : WeldCtx} (h : s.ctx = some c) :
    FlashEntered c s (enterFlash s) := by
  obtain ⟨cut, hc1⟩ := enterState_forward (st := .flash) rfl h
  have hsched := enterState_sched .flash h
  have hposition : (enterState .flash s).position = s.position := by simp [State.position, State.input]
  unfold enterFlash
  extract_lets s1 m1 f1 s2
  have hm1 : m1 = s.mfe := by simp [m1, s1, SeqState.slipChecked, SeqState.regulated]
  have hf1 : f1 = s.frg := by simp [f1, s1]
  have hctx2 : s2.ctx = some { c with
      phaseReached := .flash, heatBegan := c.heatBegan || s1.sched.nPre == 0, truncated := cut
      progress := { c.progress with flashBurn := 0, flashTime := 0 } } := by
    simp only [s2, mapCtx_ctx]
    rw [show s1.ctx = _ from hc1]
    rfl
  have hsched2 : s2.sched = s.sched := by
    rw [sched_of_ctx hctx2, ← hsched, sched_of_ctx hc1]
    rfl
  have hlaw : s2.lawVelocity = max 5 (min 300 ((s.sched.vS * c.share / 1000 : Nat) : Int)) := by
    simp only [State.lawVelocity, hctx2, hsched2]
    exact flashVelocity_start _ _ _
  refine ⟨by simp [s2, s1], ⟨cut, ?_⟩, ?_, ?_, by simp [s2, s1], by simp [s2, s1], by simp [s2, s1], ?_, ?_, ?_⟩
  · rw [mapSet_ctx, hctx2, show s1.sched = s.sched from hsched]
  · rw [mapSet_mfe]
    dsimp only
    rw [hlaw, hsched2, scaled_of_ctx hctx2]
    simp [s2, hm1]
  · rw [mapSet_frg]
    simp only [s2, s1, mapCtx_frg, hf1]
    rw [hsched, hposition]
    rfl
  · constructor <;> simp [s2, s1]
  · constructor <;> simp [s2, s1]
  · constructor <;> simp [s2, s1]

/-! ### The gate at the end of preheat -/

/-- What the gate, the release test and the force shown are read off: the peer view, the pair, the plan and the schedule. -/
theorem gate_of_same {s t : State} {c c' : WeldCtx} (hs : s.ctx = some c) (ht : t.ctx = some c') (hpair : c'.pair = c.pair)
    (hplan : c'.plan = c.plan) (hsched : t.sched = s.sched) (hpeers : t.lnp.peers = s.lnp.peers) :
    t.gateHolds = s.gateHolds ∧ t.releaseHolds = s.releaseHolds ∧ t.pairedForce = s.pairedForce := by
  have hrow : t.pairedRow = s.pairedRow := by
    simp only [State.pairedRow, State.pair, hs, ht, Option.bind_some, hpair]
    cases c.pair <;> simp [State.row, hpeers]
  simp only [State.gateHolds, State.releaseHolds, State.pairedForce, State.fLo, hrow, hs, ht, Option.elim_some, hplan,
    hsched, and_self]

/-- R84: the gate asked for at heat entry and met. -/
theorem requestHeatGate_met {s : State} (h : s.gateHolds = true) : requestHeatGate s = enterFlash { s with
    tnl := { s.tnl with watch := .none, gateMet := true } } := by
  unfold requestHeatGate requestGate endWatch
  rw [h]
  rfl

/-- R84: the gate asked for at heat entry and not met. -/
theorem requestHeatGate_waits {s : State} (h : s.gateHolds = false) : requestHeatGate s = { s with
    tnl := { s.tnl with watch := .heatEntry, gateMet := false }
    frg := { s.frg with gateTimer := some { length := s.sched.tensorWait * 1000, elapsed := 0 } } } := by
  unfold requestHeatGate requestGate
  rw [h]
  rfl

/-- R82: the weld once its preheat burn is written. -/
def burnt (s : State) (c : WeldCtx) : WeldCtx :=
  { c with progress := { c.progress with preheatBurn := (s.position - s.frg.preheatEntry).toNat } }

theorem writePreheatBurn_ctx {s : State} {c : WeldCtx} (h : s.ctx = some c) :
    (writePreheatBurn s).ctx = some (burnt s c) := by simp [writePreheatBurn, h, burnt]

theorem writePreheatBurn_sched {s : State} {c : WeldCtx} (h : s.ctx = some c) :
    (writePreheatBurn s).sched = s.sched := by
  rw [sched_of_ctx h, sched_of_ctx (writePreheatBurn_ctx h)]
  rfl

/-- R83: in FREE mode FLASH is entered from the last open. -/
theorem endPreheat_free {s : State} {c : WeldCtx} (h : s.ctx = some c) (hm : c.mode = .free) :
    endPreheat s = enterFlash { s with frg := { s.frg with openTimer := none } } := by
  have hfree : s.tensioned = false := by simp [State.tensioned, h, hm]
  unfold endPreheat
  rw [hfree]
  rfl

/-- R83: in TENSIONED mode the gate is asked for, with no output on. -/
theorem endPreheat_tensioned {s : State} {c : WeldCtx} (h : s.ctx = some c) (hm : c.mode = .tensioned) :
    endPreheat s = requestHeatGate { s with
      mfe := { s.mfe with set := { s.mfe.set with current := 0, velocity := 0 } }
      frg := { s.frg with step := .gateWait, openTimer := none } } := by
  have htensioned : s.tensioned = true := by simp [State.tensioned, h, hm]
  unfold endPreheat
  rw [htensioned]
  rfl

/-- R85, R88: FLASH entered at the end of preheat, from a state that differs from `s` in its preheat burn, its outputs, its
gate watch and its step. -/
theorem flash_after_preheat {s u : State} {c : WeldCtx} (hu : u.ctx = some (burnt s c)) (hwsq : u.wsq = s.wsq)
    (hsched : u.sched = s.sched) (hpos : u.position = s.position)
    (hset : u.mfe.set.force = s.mfe.set.force ∧ u.mfe.set.clamp = s.mfe.set.clamp) :
    let t := gateCurrent (enterFlash u)
    let k := s.sched
    ∃ c', t.ctx = some c' ∧ c'.progress.preheatBurn = (s.position - s.frg.preheatEntry).toNat
      ∧ t.wsq = { s.wsq with seq := .flash } ∧ c'.phaseReached = .flash
      ∧ c'.progress.flashBurn = 0 ∧ c'.progress.flashTime = 0 ∧ t.mfe.onsets = 0
      ∧ t.mfe.set = { s.mfe.set with
          current := k.iFlash * c.share / 1000, velocity := max 5 (min 300 ((k.vS * c.share / 1000 : Nat) : Int)) }
      ∧ t.frg.rMin = k.rC * 8 / (8 + k.bandwidth)
      ∧ t.frg.rMax = k.rC * (8 + k.bandwidth) / 8 + (if k.rC * (8 + k.bandwidth) % 8 = 0 then 0 else 1)
      ∧ t.frg.windowTimer = some { length := 100, elapsed := 0 } ∧ t.frg.corrK = 0 ∧ t.frg.unstable = 0
      ∧ t.frg.flashEntry = s.position := by
  intro t k
  have hflash := enterFlash_entered hu
  obtain ⟨cut, hc'⟩ := hflash.context
  refine ⟨_, by rw [gateCurrent_ctx]; exact hc', rfl, ?_⟩
  rw [gateCurrent_wsq, gateCurrent_mfe_onsets, gateCurrent_mfe_set, gateCurrent_frg, hflash.wsq, hflash.mfe, hflash.frg,
    hwsq, hpos]
  simp [hsched, hset, rateMax_eq, rateMin, k, burnt]

/-- Settles O27: the burn is written, then the next approach begins, or preheat ends by the mode and the gate. -/
theorem openEndsInApproachFlashOrWait : Obligations.OpenEndsInApproachFlashOrWait := by
  intro s c hctx hseq hstep hdue
  have hexec : exec .openEnd s = .next (gateCurrent (endOpen s)) := finish_turn ⟨hseq, hstep, hdue⟩
  have hk : (s.bank c.bank).image = s.sched := (sched_of_ctx hctx).symm
  rw [hk]
  have hctx1 := writePreheatBurn_ctx hctx
  have hsched1 := writePreheatBurn_sched hctx
  by_cases hmore : s.frg.k < s.sched.nPre
  · have hend : endOpen s = beginApproach (writePreheatBurn s) := if_pos (by rw [hsched1]; exact hmore)
    rw [hend] at hexec
    refine ⟨_, burnt s c, hexec, by rw [gateCurrent_ctx]; exact hctx1, rfl, fun _ => ?_, fun hlast => absurd hmore (by omega),
      fun hlast => absurd hmore (by omega)⟩
    rw [gateCurrent_wsq, gateCurrent_mfe_set, gateCurrent_frg]
    refine ⟨rfl, ?_, rfl⟩
    show ({ s.mfe.set with current := 0, velocity := (writePreheatBurn s).sched.vApp } : Outputs) = _
    rw [hsched1]
  · have hend : endOpen s = endPreheat (writePreheatBurn s) := if_neg (by rw [hsched1]; exact hmore)
    rw [hend] at hexec
    have hgate (u : State) (hu : u.ctx = some (burnt s c)) (hsched : u.sched = s.sched)
        (hpeers : u.lnp.peers = s.lnp.peers) : u.gateHolds = s.gateHolds :=
      (gate_of_same hctx hu rfl rfl hsched hpeers).1
    cases hm : c.mode
    case free =>
      rw [endPreheat_free hctx1 hm] at hexec
      obtain ⟨c', hc', hburn, hrest⟩ := flash_after_preheat (s := s)
        (u := { writePreheatBurn s with frg := { (writePreheatBurn s).frg with openTimer := none } })
        hctx1 rfl (by exact hsched1) rfl ⟨rfl, rfl⟩
      exact ⟨_, c', hexec, hc', hburn, fun hless => absurd hless hmore, fun _ _ => hrest, fun _ hm' => by cases hm'⟩
    case tensioned =>
      rw [endPreheat_tensioned hctx1 hm] at hexec
      cases hg : s.gateHolds
      · rw [requestHeatGate_waits (by rw [← hg]; exact hgate _ hctx1 hsched1 rfl)] at hexec
        refine ⟨_, burnt s c, hexec, by rw [gateCurrent_ctx]; exact hctx1, rfl, fun hless => absurd hless hmore,
          fun _ hor => by simp at hor, fun _ _ _ => ?_⟩
        rw [gateCurrent_wsq, gateCurrent_mfe_set, gateCurrent_tnl, gateCurrent_frg]
        refine ⟨rfl, rfl, rfl, ?_⟩
        have hsched2 : State.sched { writePreheatBurn s with
            mfe := { (writePreheatBurn s).mfe with
              set := { (writePreheatBurn s).mfe.set with current := 0, velocity := 0 } }
            frg := { (writePreheatBurn s).frg with step := .gateWait, openTimer := none } } = s.sched := hsched1
        rw [hsched2]
        rfl
      · rw [requestHeatGate_met (by rw [← hg]; exact hgate _ hctx1 hsched1 rfl)] at hexec
        obtain ⟨c', hc', hburn, hrest⟩ := flash_after_preheat (s := s)
          (u := { writePreheatBurn s with
            mfe := { (writePreheatBurn s).mfe with
              set := { (writePreheatBurn s).mfe.set with current := 0, velocity := 0 } }
            frg := { (writePreheatBurn s).frg with step := .gateWait, openTimer := none }
            tnl := { (writePreheatBurn s).tnl with watch := .none, gateMet := true } })
          hctx1 rfl (by exact hsched1) rfl ⟨rfl, rfl⟩
        exact ⟨_, c', hexec, hc', hburn, fun hless => absurd hless hmore, fun _ _ => hrest, fun _ _ hno => by simp at hno⟩

end Sys2Proof.Proofs.Preheat

/-! The outcome of a weld (R9, R44 to R46, R73, R168, R174 to R178): what building it does, step by step, and the statements
ClampsOpenAndTheOutcomeIsBuilt and SlowReleasesAreEnteredAndPassed. -/
namespace Sys2Proof.Proofs.Outcomes
open Sys2Proof Sys2Proof.Machine Sys2Proof.Proofs.Samples Sys2Proof.Proofs.SampleReadings Sys2Proof.Proofs.Preheat
  Sys2Proof.Proofs.Resets Sys2Proof.Proofs.FlashBurn

set_option Elab.async false

/-! ### The fault list of a weld context -/

/-- R71: the fault list holds the kind, or its overflow mark is set. -/
def Listed (k : FaultKind) (c : WeldCtx) : Prop := c.overflow = true ∨ k ∈ c.faults.map (·.kind)

/-- R71: a kind that is entered changes the list and its mark alone. -/
theorem addFault_shape (k : FaultKind) (p : SeqState) (c : WeldCtx) :
    ∃ faults full, (c.addFault k p).1 = { c with faults := faults, overflow := full } := by
  unfold WeldCtx.addFault
  repeat' split
  · exact ⟨_, c.overflow, rfl⟩
  · exact ⟨c.faults, c.overflow, rfl⟩
  · exact ⟨_, c.overflow, rfl⟩
  · exact ⟨c.faults, true, rfl⟩

/-- R71: a kind that is entered is listed, and every kind listed before stays listed. -/
theorem addFault_lists (k : FaultKind) (p : SeqState) (c : WeldCtx) :
    Listed k (c.addFault k p).1 ∧ ∀ j, Listed j c → Listed j (c.addFault k p).1 := by
  unfold WeldCtx.addFault
  cases hfind : c.faults.find? (fun e => e.kind == k) with
  | some e =>
    have hin : k ∈ c.faults.map (·.kind) := List.mem_map.mpr
      ⟨e, List.mem_of_find?_eq_some hfind, by simpa using List.find?_some hfind⟩
    dsimp only
    split
    · have hkinds : (c.faults.map (fun e => if e.kind == k then { e with count := e.count + 1 } else e)).map (·.kind)
          = c.faults.map (·.kind) := by
        rw [List.map_map]
        exact List.map_congr_left fun x _ => by dsimp only [Function.comp]; split <;> rfl
      unfold Listed
      simp only [hkinds]
      exact ⟨.inr hin, fun _ h => h⟩
    · exact ⟨.inr hin, fun _ h => h⟩
  | none =>
    dsimp only
    split
    · exact ⟨.inr (by simp), fun j h => h.imp_right fun hj => by simp [List.mem_map.mp hj]⟩
    · exact ⟨.inl rfl, fun _ _ => .inl rfl⟩

/-- R71, R72: the weld context after a fault is entered. -/
theorem enterFaultAs_shape (p : SeqState) (k : FaultKind) (i : Option Int) {s : State} {c : WeldCtx} (h : s.ctx = some c) :
    ∃ faults full cut, (enterFaultAs p k i s).ctx = some { c with faults := faults, overflow := full, truncated := cut }
      ∧ Listed k { c with faults := faults, overflow := full }
      ∧ ∀ j, Listed j c → Listed j { c with faults := faults, overflow := full } := by
  obtain ⟨cut, hcut⟩ := enterFaultAs_cut p k i h
  obtain ⟨faults, full, hshape⟩ := addFault_shape k p c
  have hlists := addFault_lists k p c
  rw [hshape] at hcut hlists
  exact ⟨faults, full, cut, hcut, hlists⟩

/-! ### The target block -/

theorem usable_iff (b : Block) : b.usable = true ↔ b ≠ .bad := by cases b <;> simp [Block.usable]

/-- R177: the target block that the store works is the one R177 names. -/
theorem targetBlock_iff (r : Rst) (n : Nat) : r.targetBlock = some n ↔ TargetIs r n := by
  unfold Rst.targetBlock Rst.ringOrder TargetIs
  rw [List.find?_eq_some_iff_getElem, usable_iff]
  simp only [List.getElem_map, List.getElem_range, List.length_map, List.length_range, ringSize]
  constructor
  · rintro ⟨hn, i, hi, heq, hbefore⟩
    refine ⟨i, hi, heq.symm, hn, fun j hj => ?_⟩
    have := hbefore j hj
    rw [Bool.not_eq_true', ← Bool.not_eq_true, usable_iff, not_not] at this
    exact this
  · rintro ⟨i, hi, heq, hn, hbefore⟩
    refine ⟨hn, i, hi, heq.symm, fun j hj => ?_⟩
    rw [Bool.not_eq_true', ← Bool.not_eq_true, usable_iff, not_not]
    exact hbefore j hj

/-- R178: a record in the slot goes on programming, or begins where the target block is ERASED. -/
theorem tryCommit_slot {r : Rst} {p : Slot} (h : r.slot = some p) : ∃ q, r.tryCommit.slot = some q ∧ q.record = p.record
    ∧ (q.programming = true ↔ p.programming = true ∨ ∃ n, TargetIs r n ∧ r.block n = .erased) := by
  unfold Rst.tryCommit
  rw [h]
  cases ht : r.targetBlock with
  | none =>
    have hno : ¬∃ n, TargetIs r n ∧ r.block n = .erased := by
      rintro ⟨n, hn, -⟩
      rw [← targetBlock_iff, ht] at hn
      cases hn
    exact ⟨p, h, rfl, by simp [hno]⟩
  | some t =>
    have htarget : ∀ n, TargetIs r n ↔ n = t := fun n => by
      rw [← targetBlock_iff, ht, Option.some.injEq, eq_comm]
    simp only [htarget, exists_eq_left]
    cases hp : p.programming
    · by_cases herased : r.block t = .erased
      · rw [if_pos (by simp [herased])]
        exact ⟨_, rfl, rfl, by simp [herased]⟩
      · rw [if_neg (by simp [herased])]
        exact ⟨p, h, rfl, by simp [herased, hp]⟩
    · rw [if_neg (by simp)]
      exact ⟨p, h, rfl, by simp [hp]⟩

/-! ### The steps of the outcome -/

/-- What the steps of the outcome before its record leave: all but the weld context, the trace, the log and the frames. -/
structure Settled (s t : State) : Prop where
  mfe     : t.mfe = s.mfe
  wsq     : t.wsq = s.wsq
  frg     : t.frg = s.frg
  clu     : t.clu = s.clu
  tnl     : t.tnl = s.tnl
  rst     : t.rst = { s.rst with log := t.rst.log }
  view    : SameView s t
  program : SameProgram s t
  outside : SameOutside s t

theorem Settled.refl (s : State) : Settled s s :=
  ⟨rfl, rfl, rfl, rfl, rfl, rfl, ⟨rfl, rfl, rfl, rfl, rfl⟩, ⟨rfl, rfl, rfl⟩, ⟨rfl, rfl, rfl, rfl⟩⟩

theorem Settled.trans {s t u : State} (h : Settled s t) (k : Settled t u) : Settled s u where
  mfe := k.mfe.trans h.mfe
  wsq := k.wsq.trans h.wsq
  frg := k.frg.trans h.frg
  clu := k.clu.trans h.clu
  tnl := k.tnl.trans h.tnl
  rst := by rw [k.rst, h.rst]
  view := ⟨k.view.station.trans h.view.station, k.view.side.trans h.view.side, k.view.peers.trans h.view.peers,
    k.view.announceTimer.trans h.view.announceTimer, k.view.lineOkRisen.trans h.view.lineOkRisen⟩
  program := ⟨k.program.program.trans h.program.program, k.program.tick.trans h.program.tick,
    k.program.waiting.trans h.program.waiting⟩
  outside := ⟨k.outside.pins.trans h.outside.pins, k.outside.svp.trans h.outside.svp,
    k.outside.freeCount.trans h.outside.freeCount, k.outside.pending.trans h.outside.pending⟩

theorem mapCtx_settled (f : WeldCtx → WeldCtx) (s : State) : Settled s (s.mapCtx f) :=
  ⟨rfl, rfl, rfl, rfl, rfl, rfl, ⟨rfl, rfl, rfl, rfl, rfl⟩, ⟨rfl, rfl, rfl⟩, ⟨rfl, rfl, rfl, rfl⟩⟩

theorem activate_settled (src : Source) (s : State) : Settled s (activate src s) := by
  constructor
  all_goals first
    | simp
    | constructor <;> simp

theorem enterFaultAs_rst (p : SeqState) (k : FaultKind) (i : Option Int) (s : State) :
    ∃ log, (enterFaultAs p k i s).rst = { s.rst with log := log } := by
  cases h : s.ctx with
  | none => exact ⟨_, by simp only [enterFaultAs, h, logFault_rst]; rfl⟩
  | some c => exact ⟨_, (enterFaultAs_ctx p k i s c h).2⟩

theorem enterFaultAs_settled (p : SeqState) (k : FaultKind) (i : Option Int) (s : State) :
    Settled s (enterFaultAs p k i s) := by
  obtain ⟨log, hrst⟩ := enterFaultAs_rst p k i s
  refine ⟨?_, ?_, ?_, ?_, ?_, by rw [hrst], ?_, ?_, ?_⟩
  all_goals first
    | simp
    | constructor <;> simp

theorem settleEnergy_settled (s : State) : Settled s (settleEnergy s) := by
  unfold settleEnergy
  dsimp only
  repeat' split
  · exact mapCtx_settled _ s
  · exact (mapCtx_settled _ s).trans (enterFaultAs_settled _ _ _ _)
  · exact mapCtx_settled _ s

theorem settleNeutral_settled (s : State) : Settled s (settleNeutral s) := by
  unfold settleNeutral
  dsimp only
  repeat' split
  · exact .refl s
  · exact mapCtx_settled _ s
  · exact (mapCtx_settled _ s).trans (enterFaultAs_settled _ _ _ _)
  · exact mapCtx_settled _ s

theorem settleVerdict_settled (s : State) : Settled s (settleVerdict s) :=
  (mapCtx_settled _ s).trans (activate_settled _ _)

/-- R9, R73, step 1: the weld context and the log after the energy figure. -/
theorem settleEnergy_at {s : State} {c : WeldCtx} (h : s.ctx = some c) :
    let e := s.mfe.energyFigure
    let k := (s.bank c.bank).image
    let worked : WeldCtx := { c with progress := { c.progress with energy := e } }
    ∃ faults full cut,
      (settleEnergy s).ctx = some { worked with faults := faults, overflow := full, truncated := cut }
      ∧ (∀ j, Listed j c → Listed j { c with faults := faults, overflow := full })
      ∧ (c.heatBegan = true → e < k.eMin ∨ k.eMax < e → Listed .energyRange { c with faults := faults, overflow := full })
      ∧ (c.heatBegan = false ∨ (k.eMin ≤ e ∧ e ≤ k.eMax) →
        faults = c.faults ∧ full = c.overflow ∧ (settleEnergy s).rst.log = s.rst.log) := by
  intro e k worked
  have hctx1 : (s.mapProgress (fun p => { p with energy := s.mfe.energyFigure })).ctx = some worked := by simp [h, worked, e]
  have hsched : s.sched = k := sched_of_ctx h
  unfold settleEnergy
  dsimp only
  rw [hctx1, hsched]
  dsimp only
  split
  next hout =>
    obtain ⟨faults, full, cut, hctx2, hlisted, hkept⟩ := enterFaultAs_shape worked.phaseReached .energyRange none hctx1
    refine ⟨faults, full, cut, hctx2, hkept, fun _ _ => hlisted, fun hin => ?_⟩
    simp only [Bool.and_eq_true, Bool.or_eq_true, decide_eq_true_eq] at hout
    rcases hin with hin | hin
    · exact absurd (hout.1.symm.trans hin) (by decide)
    · exact absurd hout.2 (by simp only [worked, e, k] at hin ⊢; omega)
  next hin =>
    refine ⟨c.faults, c.overflow, c.truncated, hctx1, fun _ h => h, fun hheat hout => absurd ?_ hin, fun _ => ⟨rfl, rfl, rfl⟩⟩
    simpa [worked, hheat] using hout

/-- R44 to R46, R73, step 2, by whether T_a lies too far from its target. -/
theorem settleNeutral_eq {s : State} {c : WeldCtx} (h : s.ctx = some c) :
    let k := (s.bank c.bank).image
    let tA := achievedNeutral k c
    let off : Prop := ∃ x, tA = some x ∧ k.tauN < (x - c.tN).natAbs
    let w := s.mapCtx (fun c => { c with plan := { c.plan with tA := tA } })
    (off → settleNeutral s = enterFaultAs c.phaseReached .neutralOff tA w) ∧ (¬off → settleNeutral s = w) := by
  have hsched : s.sched = (s.bank c.bank).image := sched_of_ctx h
  unfold settleNeutral
  rw [h]
  dsimp only
  rw [hsched]
  cases achievedNeutral (s.bank c.bank).image c with
  | none => simp
  | some x =>
    simp only [neutralOff, Option.some.injEq, exists_eq_left', decide_eq_true_eq]
    exact ⟨fun hoff => if_pos hoff, fun hoff => if_neg hoff⟩

theorem settleNeutral_at {s : State} {c : WeldCtx} (h : s.ctx = some c) :
    let k := (s.bank c.bank).image
    let tA := achievedNeutral k c
    let off : Prop := ∃ x, tA = some x ∧ k.tauN < (x - c.tN).natAbs
    let worked : WeldCtx := { c with plan := { c.plan with tA := tA } }
    ∃ faults full cut,
      (settleNeutral s).ctx = some { worked with faults := faults, overflow := full, truncated := cut }
      ∧ (∀ j, Listed j c → Listed j { c with faults := faults, overflow := full })
      ∧ (off → Listed .neutralOff { c with faults := faults, overflow := full })
      ∧ (¬off → faults = c.faults ∧ full = c.overflow ∧ (settleNeutral s).rst.log = s.rst.log) := by
  intro k tA off worked
  have hctx1 : (s.mapCtx (fun c => { c with plan := { c.plan with tA := tA } })).ctx = some worked := by simp [h, worked]
  obtain ⟨hoff, hin⟩ := settleNeutral_eq h
  by_cases ho : off
  · rw [hoff ho]
    obtain ⟨faults, full, cut, hctx2, hlisted, hkept⟩ := enterFaultAs_shape c.phaseReached .neutralOff tA hctx1
    exact ⟨faults, full, cut, hctx2, hkept, fun _ => hlisted, fun hno => absurd ho hno⟩
  · rw [hin ho]
    exact ⟨c.faults, c.overflow, c.truncated, hctx1, fun _ h => h, fun hyes => absurd hyes ho, fun _ => ⟨rfl, rfl, rfl⟩⟩

/-! ### The record and the end of the context -/

theorem settleVerdict_at {s : State} {c : WeldCtx} (h : s.ctx = some c) :
    ∃ cut, (settleVerdict s).ctx = some { c with verdict := some (verdictOf c), truncated := cut } :=
  activate_cut (s := s.mapCtx (fun c => { c with verdict := some (verdictOf c) }))
    (c := { c with verdict := some (verdictOf c) }) .weldEnd (by rw [mapCtx_ctx, h]; rfl)

/-- R73, steps 4 and 5: the record in the slot, and all that the end of the context leaves. -/
structure WeldEnded (c : WeldCtx) (s t : State) : Prop where
  ctx  : t.ctx = none
  wsq  : t.wsq = { s.wsq with
    seq := if s.wsq.silence then .offline else if s.wsq.lock then .locked else .ready
    lastVerdict := c.verdict, lastWeldNumber := c.weldNumber, clampTimer := none, stroke := .none }
  set  : t.mfe.set = s.mfe.set
  mfe  : Readings s.mfe t.mfe
  frg  : t.frg.lastRate = s.frg.lastRate ∧ t.frg.corrK = s.frg.corrK
  clu  : t.clu = s.clu
  cap  : t.cap = { s.cap.takeWaiting with tick := none }
  rst  : t.rst = s.rst.place (composeRecord s.lnp.side s.cap.kept c)

theorem endContext_some {s : State} {c : WeldCtx} (h : s.ctx = some c) : endContext s = { s with
    ctx := none
    wsq := { s.wsq with lastVerdict := c.verdict, lastWeldNumber := c.weldNumber, clampTimer := none, stroke := .none }
    mfe := s.mfe.endWeld
    frg := s.frg.endWeld
    tnl := { s.tnl with watch := .none, tensorWait := none, closureWaiting := false }
    cap := { s.cap.takeWaiting with tick := none } } := by
  unfold endContext
  rw [h]

theorem weld_ended {s : State} {c : WeldCtx} (h : s.ctx = some c) :
    WeldEnded c s (enterState (endContext (handRecord s)).restState (endContext (handRecord s))) := by
  have hhand : handRecord s = { s with rst := s.rst.place (composeRecord s.lnp.side s.cap.kept c) } := by
    unfold handRecord
    rw [h]
  rw [hhand, endContext_some (s := { s with rst := s.rst.place (composeRecord s.lnp.side s.cap.kept c) }) h]
  generalize hrec : s.rst.place (composeRecord s.lnp.side s.cap.kept c) = r
  refine ⟨?_, ?_, ?_, ?_, ?_, ?_, ?_, ?_⟩
  · unfold enterState
    rw [Wires.activate_idle _ _ rfl, announceChange_ctx]
    rfl
  · rw [enterState_wsq]
    rfl
  · rw [enterState_mfe]
    rfl
  · rw [enterState_mfe]
    exact ⟨rfl, rfl, rfl⟩
  · rw [enterState_frg]
    exact ⟨rfl, rfl⟩
  · rw [enterState_clu]
  · exact Wires.enterState_idle_cap _ _ rfl
  · rw [enterState_rst]
    exact hrec.symm

/-- R178: the record placed in the slot. -/
theorem place_slot (w : WeldRecord) (r : Rst) : ∃ p, (r.place w).slot = some p ∧ p.record = w
    ∧ r.place w = { r with slot := some p }
    ∧ (p.programming = true ↔ ∃ n, TargetIs r n ∧ r.block n = .erased) := by
  obtain ⟨p, hp, hrecord, hbegins⟩ := tryCommit_slot (r := { r with slot := some { record := w, programming := false } }) rfl
  refine ⟨p, hp, hrecord, ?_, ?_⟩
  · rw [Steps.place_eq, show (r.place w).slot = some p from hp]
  · rw [hbegins]
    simp only [Bool.false_eq_true, false_or]
    exact Iff.rfl

/-- R73: the outcome of the weld `c`, built on the state `s`. -/
structure Outcome (c : WeldCtx) (s t : State) : Prop where
  ctx     : t.ctx = none
  seq     : t.wsq.seq = if s.wsq.silence then .offline else if s.wsq.lock then .locked else .ready
  number  : t.wsq.lastWeldNumber = c.weldNumber
  clamps  : t.wsq.clampTimer = none
  set     : t.mfe.set = s.mfe.set
  mfe     : Readings s.mfe t.mfe
  frg     : t.frg.lastRate = s.frg.lastRate ∧ t.frg.corrK = s.frg.corrK
  clu     : t.clu = s.clu
  record  : ∃ p, t.rst.slot = some p ∧ t.rst = { s.rst with slot := some p, log := t.rst.log }
    ∧ CommitTested false t p ∧ RecordOf c s.lnp.side p.record ∧ p.record.verdict = t.wsq.lastVerdict
    ∧ t.wsq.lastVerdict = some (verdictOf { c with faults := p.record.faults, overflow := p.record.overflow })
    ∧ (∀ j, Listed j c → p.record.overflow = true ∨ j ∈ p.record.faults.map (·.kind))
    ∧ p.record.energy = s.mfe.energyFigure
    ∧ p.record.tA = achievedNeutral (s.bank c.bank).image c
    ∧ (let k := (s.bank c.bank).image
      let off := ∃ tA, p.record.tA = some tA ∧ k.tauN < (tA - c.tN).natAbs
      let outside := p.record.energy < k.eMin ∨ k.eMax < p.record.energy
      let clean := (c.heatBegan = false ∨ ¬outside) ∧ ¬off
      (c.heatBegan = true → outside → p.record.overflow = true ∨ .energyRange ∈ p.record.faults.map (·.kind))
      ∧ (off → p.record.overflow = true ∨ .neutralOff ∈ p.record.faults.map (·.kind))
      ∧ (clean → p.record.faults = c.faults ∧ p.record.overflow = c.overflow ∧ t.rst.log = s.rst.log))
    ∧ OutcomeBuilt (s.bank c.bank).image s t p

theorem bank_of_settled {s t : State} (h : Settled s t) (name : BankName) : t.bank name = s.bank name := by
  have hr := h.rst
  cases name <;> simp only [State.bank] <;> rw [hr]

/-- R73, R168, R172: the capture once the outcome is built on it. -/
theorem cap_ended {s t v : State} (hset : Settled s v) (hcap : t.cap = { v.cap.takeWaiting with tick := none }) :
    (s.cap.waiting = none → t.cap = { v.cap with tick := none })
    ∧ ∀ q, s.cap.waiting = some q → t.cap.program = q ∧ t.cap.waiting = none ∧ t.cap.memory = [] ∧ t.cap.tick = none
      ∧ FreshRuns t.cap := by
  have hwaiting := hset.program.waiting
  refine ⟨fun hno => ?_, fun q hq => ?_⟩
  · rw [hcap, Cap.takeWaiting, hwaiting, hno]
    rfl
  · have htaken : v.cap.takeWaiting = v.cap.takeProgram q := by rw [Cap.takeWaiting, hwaiting, hq]; rfl
    rw [hcap, htaken]
    exact ⟨rfl, rfl, rfl, rfl, takeProgram_runs q v.cap⟩

/-- The weld `c` with what the outcome has worked: the energy, T_a, the fault list and its marks. -/
def workedCtx (c : WeldCtx) (e : Nat) (tA : Option Int) (faults : List FaultEntry) (full cut : Bool) : WeldCtx :=
  { c with
    progress := { c.progress with energy := e }, plan := { c.plan with tA := tA }, faults := faults, overflow := full
    truncated := cut }

theorem recordOf_worked (c : WeldCtx) (e : Nat) (tA : Option Int) (faults : List FaultEntry) (full cut : Bool)
    (v : Option Verdict) (side : Side) (kept : List TraceEntry) :
    RecordOf c side (composeRecord side kept { workedCtx c e tA faults full cut with verdict := v }) where
  identity := ⟨rfl, rfl, rfl, rfl, rfl, rfl⟩
  order := ⟨rfl, rfl⟩
  plan := ⟨rfl, rfl, rfl, rfl, rfl⟩
  burns := ⟨rfl, rfl, rfl⟩
  upset := ⟨rfl, rfl⟩
  counts := ⟨rfl, rfl, rfl⟩
  share := rfl
  outcome := ⟨rfl, rfl⟩

/-- R73: the steps of the outcome, on the weld context and the log. -/
structure OutcomeSteps (c : WeldCtx) (s : State) (faults : List FaultEntry) (full : Bool) : Prop where
  kept   : ∀ j, Listed j c → Listed j { c with faults := faults, overflow := full }
  range  : c.heatBegan = true →
    s.mfe.energyFigure < (s.bank c.bank).image.eMin ∨ (s.bank c.bank).image.eMax < s.mfe.energyFigure →
    Listed .energyRange { c with faults := faults, overflow := full }
  off    : (∃ x, achievedNeutral (s.bank c.bank).image c = some x ∧ (s.bank c.bank).image.tauN < (x - c.tN).natAbs) →
    Listed .neutralOff { c with faults := faults, overflow := full }
  clean  : (c.heatBegan = false ∨ ((s.bank c.bank).image.eMin ≤ s.mfe.energyFigure
      ∧ s.mfe.energyFigure ≤ (s.bank c.bank).image.eMax)) →
    (¬∃ x, achievedNeutral (s.bank c.bank).image c = some x ∧ (s.bank c.bank).image.tauN < (x - c.tN).natAbs) →
    faults = c.faults ∧ full = c.overflow ∧ (settleNeutral (settleEnergy s)).rst.log = s.rst.log

/-- R9, R44 to R46, R73: the first two steps of the outcome, one after the other. -/
theorem outcome_steps {s : State} {c : WeldCtx} (h : s.ctx = some c) :
    let k := (s.bank c.bank).image
    let e := s.mfe.energyFigure
    let tA := achievedNeutral k c
    let off : Prop := ∃ x, tA = some x ∧ k.tauN < (x - c.tN).natAbs
    let v1 := settleEnergy s
    let v2 := settleNeutral v1
    let w1 : State := { s with ctx := some { c with progress := { c.progress with energy := e } } }
    let w2 : State := { v1 with ctx := v1.ctx.map (fun x => { x with plan := { x.plan with tA := tA } }) }
    (∃ faults full cut, v2.ctx = some (workedCtx c e tA faults full cut) ∧ OutcomeSteps c s faults full)
    ∧ (c.heatBegan = true → e < k.eMin ∨ k.eMax < e → KindEntered .energyRange c.phaseReached none w1 v1)
    ∧ (c.heatBegan = false ∨ (k.eMin ≤ e ∧ e ≤ k.eMax) → v1 = w1)
    ∧ (off → KindEntered .neutralOff c.phaseReached tA w2 v2)
    ∧ (¬off → v2 = w2) := by
  intro k e tA off v1 v2 w1 w2
  obtain ⟨f1, o1, cut1, hctx1, hkept1, hrange, hclean1⟩ := settleEnergy_at h
  obtain ⟨hout, hin⟩ := settleEnergy_cases s c h
  have hk1 : (v1.bank c.bank).image = k := congrArg Bank.image (bank_of_settled (settleEnergy_settled s) c.bank)
  obtain ⟨f2, o2, cut2, hctx2, hkept2, hoff, hclean2⟩ := settleNeutral_at hctx1
  obtain ⟨hfar, hnear⟩ := settleNeutral_eq hctx1
  simp only [v1] at hk1
  simp only [hk1] at hctx2 hoff hclean2 hfar hnear
  refine ⟨⟨f2, o2, cut2, hctx2, ⟨fun j hj => hkept2 j (hkept1 j hj), fun hh he => hkept2 _ (hrange hh he), hoff,
    fun he hno => ?_⟩⟩, hout, hin, fun ho => ?_, fun ho => hnear ho⟩
  · obtain ⟨hf1, ho1, hl1⟩ := hclean1 he
    obtain ⟨hf2, ho2, hl2⟩ := hclean2 hno
    exact ⟨hf2.trans hf1, ho2.trans ho1, hl2.trans hl1⟩
  · have hv2 : v2 = enterFaultAs c.phaseReached .neutralOff tA w2 := hfar ho
    rw [hv2]
    exact enterFaultAs_kindEntered _ _ _ w2 { c with
      progress := { c.progress with energy := e }, plan := { c.plan with tA := tA }, faults := f1, overflow := o1
      truncated := cut1 } (by simp only [w2, v1]; rw [hctx1]; rfl)

theorem outcome_built {s : State} {c : WeldCtx} (h : s.ctx = some c) : Outcome c s (buildOutcome s) := by
  obtain ⟨⟨faults, full, cut, hctx2, hsteps⟩, hout, hin, hfar, hnear⟩ := outcome_steps h
  have hset2 := (settleEnergy_settled s).trans (settleNeutral_settled (settleEnergy s))
  obtain ⟨cut3, hctx3⟩ := settleVerdict_at hctx2
  have hset := hset2.trans (settleVerdict_settled _)
  have hend : WeldEnded _ _ (buildOutcome s) := weld_ended hctx3
  have hverdict : settleVerdict (settleNeutral (settleEnergy s)) = activate .weldEnd { settleNeutral (settleEnergy s) with
      ctx := some { workedCtx c s.mfe.energyFigure (achievedNeutral (s.bank c.bank).image c) faults full cut with
        verdict := some (verdictOf (workedCtx c s.mfe.energyFigure (achievedNeutral (s.bank c.bank).image c) faults full cut)) } } := by
    unfold settleVerdict State.mapCtx
    rw [hctx2]
    rfl
  have hlog : (settleVerdict (settleNeutral (settleEnergy s))).rst.log = (settleNeutral (settleEnergy s)).rst.log := by
    rw [hverdict, activate_rst]
  generalize hv3 : settleVerdict (settleNeutral (settleEnergy s)) = v3 at *
  generalize ht : buildOutcome s = t at *
  obtain ⟨p, hslot, hrecord, hplace, hbegins⟩ := place_slot (composeRecord v3.lnp.side v3.cap.kept
    { workedCtx c s.mfe.energyFigure (achievedNeutral (s.bank c.bank).image c) faults full cut3 with
      verdict := some (verdictOf { c with faults := faults, overflow := full }) }) v3.rst
  have hrst : t.rst = { v3.rst with slot := some p } := hend.rst.trans hplace
  obtain ⟨hcapFree, hcapTaken⟩ := cap_ended hset hend.cap
  have htrst : t.rst = { s.rst with slot := some p, log := t.rst.log } := by
    rw [hrst, hset.rst]
  have hverdict' : t.wsq.lastVerdict = some (verdictOf { c with faults := faults, overflow := full }) := by
    rw [hend.wsq]
    rfl
  refine ⟨hend.ctx, ?_, ?_, ?_, ?_, ?_, ?_, ?_, p, ?_, htrst, ?_, ?_, ?_, ?_, ?_, ?_, ?_, ?_, ?_⟩
  · rw [hend.wsq, hset.wsq]
  · rw [hend.wsq]
    rfl
  · rw [hend.wsq]
  · rw [hend.set, hset.mfe]
  · rw [← hset.mfe]
    exact hend.mfe
  · rw [← hset.frg]
    exact hend.frg
  · rw [hend.clu, hset.clu]
  · rw [hrst]
  · rw [CommitTested, hbegins, hrst]
    simp only [Bool.false_eq_true, false_or]
    exact Iff.rfl
  · rw [hrecord, ← hset.view.side]
    exact recordOf_worked _ _ _ _ _ _ _ _ _
  · rw [hrecord, hverdict']
    rfl
  · rw [hverdict', hrecord]
    rfl
  · rw [hrecord]
    exact hsteps.kept
  · rw [hrecord]
    rfl
  · rw [hrecord]
    rfl
  · rw [hrecord]
    intro k off outside clean
    refine ⟨hsteps.range, hsteps.off, fun ⟨hwithin, hno⟩ => ?_⟩
    have hclean := hsteps.clean (hwithin.imp_right fun hno => by
      have hboth : ¬(s.mfe.energyFigure < k.eMin ∨ k.eMax < s.mfe.energyFigure) := hno
      exact ⟨not_lt.mp (not_or.mp hboth).1, not_lt.mp (not_or.mp hboth).2⟩) hno
    refine ⟨hclean.1, hclean.2.1, ?_⟩
    rw [hrst]
    exact hlog.trans hclean.2.2
  · refine ⟨c, _, settleEnergy s, settleNeutral (settleEnergy s), v3, h, ⟨?_, ?_, hout, hin, hfar, hnear⟩, hctx2, hverdict,
      ?_, ?_, ?_, ?_, ?_, ?_, hcapFree, hcapTaken⟩
    · rw [hrecord]
      rfl
    · rw [hrecord]
      rfl
    · rw [hrecord]
      rfl
    · rw [hrecord]
      rfl
    · rw [hrecord]
      rfl
    · rw [hrst]
      exact hlog
    · rw [hrecord]
      rfl
    · rw [hrecord]
      simp only [composeRecord, Bool.or_eq_true, decide_eq_true_eq]
      refine or_congr ⟨fun hcut => ⟨_, hctx3, hcut⟩, fun ⟨x, hx, hcut⟩ => ?_⟩ Iff.rfl
      cases hctx3.symm.trans hx
      exact hcut

/-! ### What the current gate leaves of the outcome -/

theorem commitTested_same {t u : State} {p : Slot} {going : Bool} (hrst : u.rst = t.rst) (h : CommitTested going t p) :
    CommitTested going u p := by
  rw [CommitTested, hrst]
  exact h

theorem outcomeBuilt_same {k : Schedule} {v t u : State} {p : Slot} (hrst : u.rst = t.rst) (hcap : u.cap = t.cap)
    (h : OutcomeBuilt k v t p) : OutcomeBuilt k v u p := by
  obtain ⟨c, c', v1, v2, v3, hc, hsteps, hc', hv3, hverdict, hfaults, hover, hlog, htrace, hcut, hfree, htaken⟩ := h.worked
  exact ⟨c, c', v1, v2, v3, hc, hsteps, hc', hv3, hverdict, hfaults, hover, hrst ▸ hlog, htrace, hcut, hcap ▸ hfree,
    hcap ▸ htaken⟩

/-- R175: the fields of a record that stand in the context do not read its fault list. -/
theorem recordOf_same {c : WeldCtx} {faults : List FaultEntry} {full cut : Bool} {side : Side} {w : WeldRecord}
    (h : RecordOf { c with faults := faults, overflow := full, truncated := cut } side w) : RecordOf c side w :=
  ⟨h.identity, h.order, h.plan, h.burns, h.upset, h.counts, h.share, h.outcome⟩

/-! ### Slow releases -/

/-- R111: what the entry to UNCLAMP leaves. -/
theorem enterUnclamp_at {s : State} {c : WeldCtx} (h : s.ctx = some c) :
    (∃ cut, (enterUnclamp s).ctx = some { c with phaseReached := .unclamp, truncated := cut })
    ∧ (enterUnclamp s).wsq = { s.wsq with
        seq := .unclamp, releaseWait := none, clampTimer := some { length := 5000, elapsed := 0 } }
    ∧ (enterUnclamp s).mfe.set = { s.mfe.set with clamp := .opn } := by
  refine ⟨?_, ?_, ?_⟩
  · obtain ⟨cut, hcut⟩ := enterState_forward (st := .unclamp) rfl h
    exact ⟨cut, hcut⟩
  · simp [enterUnclamp, startTimer]
  · simp [enterUnclamp]

theorem tensorSlow_at {s : State} {c : WeldCtx} (hctx : s.ctx = some c) (hseq : s.wsq.seq = .letGo)
    (hdue : timerDue s.wsq.releaseWait = true) :
    ∃ t c', exec .tensorSlow s = .next t ∧ t.ctx = some c'
      ∧ (c'.overflow = true ∨ .tensorSlow ∈ c'.faults.map (·.kind))
      ∧ c'.phaseReached = .unclamp ∧ c'.abortKind = c.abortKind
      ∧ t.wsq = { s.wsq with
          seq := .unclamp, releaseWait := none, clampTimer := some { length := 5000, elapsed := 0 } }
      ∧ t.mfe.set = { s.mfe.set with clamp := .opn }
      ∧ t.rst.log = s.rst.log.file
          { kind := .tensorSlow, state := .letGo, weldNumber := some c.weldNumber, input := s.pairedForce } := by
  obtain ⟨faults, full, cut, hctx1, hlisted, -⟩ := enterFaultAs_shape s.wsq.seq .tensorSlow s.pairedForce hctx
  obtain ⟨⟨cut', hctx2⟩, hwsq, hset⟩ := enterUnclamp_at hctx1
  refine ⟨_, { c with faults := faults, overflow := full, truncated := cut', phaseReached := .unclamp },
    finish_turn ⟨hseq, hdue⟩, (gateCurrent_ctx _).trans hctx2, hlisted, rfl, rfl, ?_, ?_, ?_⟩
  · rw [gateCurrent_wsq]
    exact hwsq.trans (by simp)
  · rw [gateCurrent_mfe_set]
    exact hset.trans (by simp)
  · rw [gateCurrent_rst]
    show (enterState .unclamp (enterFault .tensorSlow s.pairedForce s)).rst.log = _
    rw [enterState_rst, enterFault, (enterFaultAs_ctx _ _ _ s c hctx).2, hseq]

/-- Settles O31: the fault is entered, and the weld goes on: to UNCLAMP, or to its outcome. -/
theorem slowReleasesAreEnteredAndPassed : Obligations.SlowReleasesAreEnteredAndPassed := by
  refine ⟨fun s c hctx hseq hdue => tensorSlow_at hctx hseq hdue, fun s c hctx hseq hdue => ?_⟩
  have hstate : s.wsq.seq.unclamping = true := by rcases hseq with h | h <;> rw [h] <;> rfl
  have hexec : exec .unclampSlow s
      = .next (gateCurrent (buildOutcome (enterFaultAs s.wsq.seq .unclampSlow (some s.pressure) s))) :=
    finish_turn ⟨hstate, hdue⟩
  obtain ⟨faults, full, cut, hctx1, hlisted, -⟩ := enterFaultAs_shape s.wsq.seq .unclampSlow (some s.pressure) hctx
  have hset := enterFaultAs_settled s.wsq.seq .unclampSlow (some s.pressure) s
  have hbuilt := outcome_built hctx1
  have hbank : (enterFaultAs s.wsq.seq .unclampSlow (some s.pressure) s).bank c.bank = s.bank c.bank :=
    bank_of_settled hset c.bank
  obtain ⟨p, hslot, -, hcommit, hrecord, hlast, hverdict, hlists, -, -, -, hworked⟩ := hbuilt.record
  refine ⟨_, _, hexec, enterFaultAs_kindEntered _ _ _ s c hctx, (gateCurrent_ctx _).trans hbuilt.ctx, ?_, ?_, ?_, p, ?_⟩
  · rw [gateCurrent_wsq, hbuilt.seq, hset.wsq]
  · rw [gateCurrent_wsq]
    exact hbuilt.number
  · rw [gateCurrent_mfe_set, hbuilt.set, hset.mfe]
  · refine ⟨by rw [gateCurrent_rst]; exact hslot, ?_, commitTested_same (gateCurrent_rst _) hcommit, ?_, ?_,
      hlists .unclampSlow hlisted, ?_⟩
    · rw [← hset.view.side]
      exact recordOf_same hrecord
    · rw [gateCurrent_wsq]
      exact hlast
    · rw [gateCurrent_wsq]
      exact hverdict
    · rw [← hbank]
      exact outcomeBuilt_same (gateCurrent_rst _) (gateCurrent_cap _) hworked

/-! ### The clamps open -/

/-- R130: ageing a row leaves its force field. -/
theorem older_tensorForce (r : PeerRow) : r.older.tensorForce = r.tensorForce := by
  cases r with
  | empty => rfl
  | heard live side age role => cases role <;> rfl

theorem row_tick (s : State) (raw : Samples) (n : Nat) : (Machine.measure raw s).row n = (s.row n).older := by
  unfold State.row
  rw [measure_lnp]
  split
  · rfl
  · simp only [Lnp.tick, List.getD_eq_getElem?_getD, List.getElem?_map]
    cases s.lnp.peers[n - 1]? <;> rfl

theorem measure_pairedForce (raw : Samples) {s : State} {c : WeldCtx} (hctx : s.ctx = some c)
    (hsame : (Machine.measure raw s).ctx = s.ctx) : (Machine.measure raw s).pairedForce = s.pairedForce := by
  unfold State.pairedForce State.pairedRow State.pair
  rw [hsame, hctx]
  cases hp : c.pair with
  | none => simp [hp]
  | some n => simp only [hp, Option.bind_some, Option.elim_some, row_tick, older_tensorForce]

theorem verdictOf_cold {c : WeldCtx} (h : c.heatBegan = false) : verdictOf c = .notWelded := by
  simp [verdictOf, h]

theorem verdictOf_aborted {c : WeldCtx} (hheat : c.heatBegan = true) (h : c.abortKind.isSome = true) :
    verdictOf c = .reject := by
  simp [verdictOf, hheat, h]

/-! ### The kept trace -/

/-- R168: the locations of a wrapped segment, from the write position round to it. -/
theorem wrapped_order {start len pos : Nat} (hlow : start ≤ pos) (hhigh : pos < start + len) :
    (List.range len).map (fun i => start + (pos - start + i) % len)
      = List.range' pos (start + len - pos) ++ List.range' start (pos - start) := by
  obtain ⟨p, rfl⟩ := Nat.exists_eq_add_of_le hlow
  obtain ⟨q, rfl⟩ := Nat.exists_eq_add_of_lt (show p < len by omega)
  have hsplit : List.range (p + q + 1) = List.range (q + 1) ++ (List.range p).map (q + 1 + ·) := by
    rw [← List.range_add]
    congr 1
    omega
  rw [hsplit, List.map_append, List.map_map, show start + (p + q + 1) - (start + p) = q + 1 by omega,
    show start + p - start = p by omega, List.range'_eq_map_range, List.range'_eq_map_range]
  congr 1
  · refine List.map_congr_left fun i hi => ?_
    rw [List.mem_range] at hi
    rw [Nat.mod_eq_of_lt (by omega)]
    omega
  · refine List.map_congr_left fun i hi => ?_
    rw [List.mem_range] at hi
    rw [Function.comp, show p + (q + 1 + i) = i + (p + q + 1) by omega, Nat.add_mod_right, Nat.mod_eq_of_lt (by omega)]

/-- R168: the locations of a segment that has not wrapped, up to the write position. -/
theorem straight_order {start len pos : Nat} (full : Bool) (hlow : start ≤ pos) (hhigh : pos < start + len) :
    ((List.range len).map (fun i => start + i)).filter (fun l => l < pos || (full && l == pos))
      = List.range' start (pos - start) ++ (if full then [pos] else []) := by
  obtain ⟨p, rfl⟩ := Nat.exists_eq_add_of_le hlow
  obtain ⟨q, rfl⟩ := Nat.exists_eq_add_of_lt (show p < len by omega)
  rw [show p + q + 1 = p + (q + 1) by omega, List.range_add, List.range_succ_eq_map, show start + p - start = p by omega,
    List.range'_eq_map_range]
  simp only [List.map_append, List.map_cons, List.map_map, List.filter_append]
  congr 1
  · refine List.filter_eq_self.mpr fun l hl => ?_
    obtain ⟨i, hi, rfl⟩ := List.mem_map.mp hl
    rw [List.mem_range] at hi
    simp [hi]
  · have hrest : (List.map ((fun i => start + i) ∘ (fun x => p + x) ∘ Nat.succ) (List.range q)).filter
        (fun l => l < start + p || (full && l == start + p)) = [] := by
      refine List.filter_eq_nil_iff.mpr fun l hl => ?_
      obtain ⟨i, -, rfl⟩ := List.mem_map.mp hl
      simp only [Function.comp, Bool.or_eq_true, decide_eq_true_eq, Bool.and_eq_true, beq_iff_eq]
      omega
    rw [List.filter_cons, hrest]
    cases full <;> simp

theorem keptLocations_eq {desc : Descriptor} {r : RunState} (hlow : desc.start ≤ r.pos)
    (hhigh : r.pos < desc.start + desc.length) : keptLocations desc r = segmentOrder desc r := by
  unfold keptLocations segmentOrder
  cases r.wrapped
  · exact (straight_order r.full hlow hhigh).symm
  · exact (wrapped_order hlow hhigh).symm

/-- R168: the kept trace, with every write position in its segment, is the one R168 says. -/
theorem kept_eq {c : Cap} (h : ∀ d x, c.program.descriptors.getD d none = some x →
    x.start ≤ (c.runs.getD d {}).pos ∧ (c.runs.getD d {}).pos < x.start + x.length) : c.kept = keptEntries c := by
  unfold Cap.kept keptEntries
  congr 1
  funext d
  unfold Cap.keptOf
  cases hd : c.program.descriptors.getD d none with
  | none => rfl
  | some x =>
    obtain ⟨hlow, hhigh⟩ := h d x hd
    dsimp only
    rw [keptLocations_eq hlow hhigh, List.filter_filterMap]
    congr 2

/-- Settles O17: a sample of UNCLAMP and of STOPPING comes to the outcome or to its measurement alone. -/
theorem clampsOpenAndTheOutcomeIsBuilt : Obligations.ClampsOpenAndTheOutcomeIsBuilt := by
  refine ⟨fun raw order s c hreset hctx hseq hq => ?_, fun c h => kept_eq h⟩
  have hfound : takeFindings order (Machine.measure raw s) = unclampSample (Machine.measure raw s) := by
    rw [takeFindings_unregulated raw s hq (by rcases hseq with h | h <;> rw [h] <;> rfl), takePhase_of_seq (measure_seq raw s)]
    rcases hseq with h | h <;> rw [h] <;> rfl
  have hidle : (Machine.measure raw s).ctx = s.ctx := by
    apply measure_ctx_idle raw <;> rcases hseq with h | h <;> rw [h] <;> decide
  have hmctx : (Machine.measure raw s).ctx = some c := hidle.trans hctx
  have hforce := measure_pairedForce raw hctx hidle
  have hsched : (Machine.measure raw s).sched = (s.bank c.bank).image := by rw [measure_sched, sched_of_ctx hctx]
  have hpressure : (gateCurrent (takeFindings order (Machine.measure raw s))).pressure = (Machine.measure raw s).pressure := by
    rw [State.pressure, State.input, sample_inputs, measure_pressure]
    rfl
  have hbank : (Machine.measure raw s).bank c.bank = s.bank c.bank := by cases hb : c.bank <;> simp [State.bank]
  refine ⟨_, exec_sample_of_notReset raw order hreset, ?_⟩
  rw [hpressure, hfound]
  refine ⟨fun hopen => ?_, fun hshut => ?_⟩
  · have hbuilt := outcome_built hmctx
    have hopened : unclampSample (Machine.measure raw s) = buildOutcome (Machine.measure raw s) :=
      if_pos (by rw [hsched]; exact hopen)
    rw [hopened]
    obtain ⟨p, hslot, hrst, hcommit, hrecord, hlast, hverdict, hlists, henergy, htA, hfaults, hworked⟩ := hbuilt.record
    rw [hbank] at htA hfaults hworked
    have hside : (Machine.measure raw s).lnp.side = s.lnp.side := by rw [measure_lnp]; rfl
    have hlog : (Machine.measure raw s).rst.log = s.rst.log := by rw [measure_rst]
    refine ⟨(gateCurrent_ctx _).trans hbuilt.ctx, ?_, ?_, ?_, ?_, ?_, ?_, p, ?_, ?_, commitTested_same (gateCurrent_rst _) hcommit,
      hside ▸ hrecord, ?_, ?_, ?_, htA, hfaults.1, hfaults.2.1, ?_, Machine.measure raw s, hmctx, measure_seq raw s,
      measure_rst raw s, ?_, ?_, hforce, ?_, ?_, ?_, ?_, outcomeBuilt_same (gateCurrent_rst _) (gateCurrent_cap _) hworked⟩
    · rw [gateCurrent_wsq, hbuilt.seq, measure_wsq]
      rfl
    · rw [gateCurrent_wsq]
      exact hbuilt.number
    · intro hcold
      rw [gateCurrent_wsq, hverdict, verdictOf_cold (by exact hcold)]
    · intro hheat habort
      rw [gateCurrent_wsq, hverdict, verdictOf_aborted (by exact hheat) (by exact habort)]
    · rw [gateCurrent_mfe_set, hbuilt.set, measure_mfe, readings_set]
    · rw [gateCurrent_wsq]
      exact hbuilt.clamps
    · rw [gateCurrent_rst]
      exact hslot
    · rw [gateCurrent_rst, ← measure_rst raw s]
      exact hrst
    · rw [gateCurrent_wsq]
      exact hlast
    · rw [gateCurrent_wsq]
      exact hverdict
    · rw [henergy, gateCurrent_mfe_energy, hbuilt.mfe.energy]
      rfl
    · intro hclean
      obtain ⟨hf, ho, hl⟩ := hfaults.2.2 hclean
      exact ⟨hf, ho, by rw [gateCurrent_rst, hl, hlog]⟩
    · rw [measure_cap]
    · constructor
      · rw [gateCurrent_mfe_inputs, hbuilt.mfe.inputs]
      · rw [gateCurrent_driven, hbuilt.mfe.driven]
      · rw [gateCurrent_mfe_energy, hbuilt.mfe.energy]
      · rw [gateCurrent_frg, hbuilt.frg.1]
      · rw [gateCurrent_frg, hbuilt.frg.2]
      · rw [gateCurrent_clu, hbuilt.clu]
    · rw [measure_mfe, readings_driven]
      unfold drivenAt
      split <;> rfl
    · rw [measure_frg]
      rfl
    · rw [measure_frg]
      rfl
    · rw [measure_clu]
      rfl
  · rw [unclampSample_closed (by rw [hsched]; exact hshut), gateCurrent_ctx, gateCurrent_wsq, gateCurrent_rst, measure_seq,
      measure_rst]
    exact ⟨hmctx, rfl, rfl⟩

end Sys2Proof.Proofs.Outcomes

/-! Aborts inside a sample (R66, R68, R69, R93): what the findings of a sample keep once the weld stands in STOPPING, and what
the finding that aborts it leaves. -/
namespace Sys2Proof.Proofs.SampleAborts
open Sys2Proof Sys2Proof.Machine Sys2Proof.Proofs.Samples Sys2Proof.Proofs.SampleReadings Sys2Proof.Proofs.Preheat
  Sys2Proof.Proofs.Outcomes Sys2Proof.Proofs.FlashBurn

set_option Elab.async false

/-! ### A weld that stands in STOPPING -/

/-- R71: an entry of the list after a kind is entered is that kind's with its phase, or keeps the kind and phase of an entry
that stood before. -/
theorem addFault_entries {k : FaultKind} {p : SeqState} {c : WeldCtx} {e : FaultEntry} (h : e ∈ (c.addFault k p).1.faults) :
    e.kind = k ∧ e.phase = p ∨ ∃ x ∈ c.faults, x.kind = e.kind ∧ x.phase = e.phase := by
  unfold WeldCtx.addFault at h
  repeat' split at h
  · obtain ⟨x, hx, rfl⟩ := List.mem_map.mp h
    exact .inr ⟨x, hx, by split <;> exact ⟨rfl, rfl⟩⟩
  · exact .inr ⟨e, h, rfl, rfl⟩
  · rcases List.mem_append.mp h with h | h
    · exact .inr ⟨e, h, rfl, rfl⟩
    · rw [List.mem_singleton.mp h]
      exact .inl ⟨rfl, rfl⟩
  · exact .inr ⟨e, h, rfl, rfl⟩

/-- R69: what a weld in STOPPING may gain: faults entered with that phase, the overflow mark and the cut of the trace. -/
structure WeldLingers (c c' : WeldCtx) : Prop where
  same   : c' = { c with faults := c'.faults, overflow := c'.overflow, truncated := c'.truncated }
  listed : ∀ j, Listed j c → Listed j c'
  late   : ∀ e ∈ c'.faults, e.phase = .stopping ∨ ∃ x ∈ c.faults, x.kind = e.kind ∧ x.phase = e.phase

theorem WeldLingers.refl (c : WeldCtx) : WeldLingers c c := ⟨rfl, fun _ h => h, fun e h => .inr ⟨e, h, rfl, rfl⟩⟩

theorem WeldLingers.trans {c₁ c₂ c₃ : WeldCtx} (h : WeldLingers c₁ c₂) (k : WeldLingers c₂ c₃) : WeldLingers c₁ c₃ where
  same := by rw [k.same, h.same]
  listed j hj := k.listed j (h.listed j hj)
  late e he := by
    rcases k.late e he with hs | ⟨x, hx, hkind, hphase⟩
    · exact .inl hs
    rcases h.late x hx with hs | ⟨y, hy, hkind', hphase'⟩
    · exact .inl (hphase ▸ hs)
    · exact .inr ⟨y, hy, hkind'.trans hkind, hphase'.trans hphase⟩

/-- R69: what the findings of a sample leave of a weld in STOPPING. -/
structure Lingers (s t : State) : Prop where
  wsq    : t.wsq = { s.wsq with lock := t.wsq.lock }
  lock   : s.wsq.lock = true → t.wsq.lock = true
  inputs : t.mfe.inputs = s.mfe.inputs
  set    : t.mfe.set = s.mfe.set
  frg    : t.frg = s.frg
  clu    : t.clu = s.clu
  store  : t.rst = { s.rst with log := t.rst.log }
  first  : ∀ f, s.rst.log.first = some f → t.rst.log.first = some f
  weld   : ∀ c, s.ctx = some c → ∃ c', t.ctx = some c' ∧ WeldLingers c c'

theorem Lingers.refl (s : State) : Lingers s s :=
  ⟨rfl, fun h => h, rfl, rfl, rfl, rfl, rfl, fun _ h => h, fun c h => ⟨c, h, .refl c⟩⟩

theorem Lingers.trans {s t u : State} (h : Lingers s t) (k : Lingers t u) : Lingers s u where
  wsq := by rw [k.wsq, h.wsq]
  lock hl := k.lock (h.lock hl)
  inputs := k.inputs.trans h.inputs
  set := k.set.trans h.set
  frg := k.frg.trans h.frg
  clu := k.clu.trans h.clu
  store := by rw [k.store, h.store]
  first f hf := k.first f (h.first f hf)
  weld c hc := by
    obtain ⟨c', hc', hl⟩ := h.weld c hc
    obtain ⟨c'', hc'', hl'⟩ := k.weld c' hc'
    exact ⟨c'', hc'', hl.trans hl'⟩

theorem Lingers.stays {s t : State} (h : Lingers s t) (hseq : s.wsq.seq = .stopping) : t.wsq.seq = .stopping := by
  rw [h.wsq]
  exact hseq

/-- The notices of the front end, the stall window and the lock flag change nothing else. -/
theorem front_lingers {s : State} (m : Mfe) (w : Wsq) (hinputs : m.inputs = s.mfe.inputs) (hset : m.set = s.mfe.set)
    (hwsq : w = { s.wsq with lock := w.lock }) (hlock : s.wsq.lock = true → w.lock = true) :
    Lingers s { s with mfe := m, wsq := w } :=
  ⟨hwsq, hlock, hinputs, hset, rfl, rfl, rfl, fun _ h => h, fun c h => ⟨c, h, .refl c⟩⟩

theorem gateCurrent_lingers (s : State) : Lingers s (gateCurrent s) where
  wsq := by simp
  lock h := by simpa using h
  inputs := gateCurrent_mfe_inputs s
  set := gateCurrent_mfe_set s
  frg := gateCurrent_frg s
  clu := gateCurrent_clu s
  store := by simp
  first f h := by simpa using h
  weld c h := ⟨c, (gateCurrent_ctx s).trans h, .refl c⟩

theorem enterFaultAs_lingers (k : FaultKind) (i : Option Int) (s : State) : Lingers s (enterFaultAs .stopping k i s) := by
  refine ⟨by simp, fun h => by simpa using h, by simp, by simp, by simp, by simp, ?_, fun f hf => ?_, fun c hc => ?_⟩
  · obtain ⟨log, hlog⟩ := enterFaultAs_rst .stopping k i s
    rw [hlog]
  · cases hc : s.ctx with
    | none =>
      simp only [enterFaultAs, hc, logFault_rst]
      exact file_first_some _ _ _ hf
    | some c =>
      rw [(enterFaultAs_ctx _ _ _ s c hc).2]
      exact file_first_some _ _ _ hf
  · obtain ⟨cut, hcut⟩ := enterFaultAs_cut .stopping k i hc
    obtain ⟨faults, full, hshape⟩ := addFault_shape k .stopping c
    have hentries {e : FaultEntry} := addFault_entries (k := k) (p := .stopping) (c := c) (e := e)
    have hlists := (addFault_lists k .stopping c).2
    rw [hshape] at hcut hentries hlists
    exact ⟨_, hcut, rfl, hlists, fun e he => (hentries he).imp_left And.right⟩

theorem takeFault_stopping (k : FaultKind) (i : Option Int) {s : State} (h : s.wsq.seq = .stopping) :
    takeFault k i s = enterFaultAs .stopping k i s := by
  simp only [takeFault, enterFault, h, SeqState.abortable, Bool.false_eq_true, if_false, if_true]

theorem takeFault_abortable (k : FaultKind) (i : Option Int) {s : State} (h : s.wsq.seq.abortable = true) :
    takeFault k i s = abortWeld k i s := if_pos h

theorem takeFault_lingers (k : FaultKind) (i : Option Int) {s : State} (h : s.wsq.seq = .stopping) :
    Lingers s (takeFault k i s) := by
  rw [takeFault_stopping k i h]
  exact enterFaultAs_lingers k i s

/-! ### The findings of a sample in STOPPING -/

/-- R69: a stall that is found in STOPPING. -/
theorem takePlatenStall_stopping (v : Int) {s : State} (h : s.wsq.seq = .stopping) :
    takePlatenStall (some v) s = enterFaultAs .stopping .platenStall (some v)
      { s with mfe := { s.mfe with stall := [] }, wsq := { s.wsq with lock := true } } := by
  unfold takePlatenStall
  dsimp only
  rw [if_pos (.inr h), takeFault_stopping _ _ (by exact h)]

theorem takeSensorRange_stopping (v : Option Int) {s : State} (h : s.wsq.seq = .stopping) :
    takeSensorRange v s = enterFaultAs .stopping .sensorRange v { s with wsq := { s.wsq with lock := true } } := by
  unfold takeSensorRange takeStationFault
  simp only [h, SeqState.abortable, Bool.false_eq_true, if_false, enterFault, enterFaultAs_wsq, reduceCtorEq]

/-- R66, R69: out of the law of STOPPING itself, a finding taken there ends nothing. -/
theorem takeFinding_lingers {start : SeqState} (stall : Option Int) {s : State} (hstart : start ≠ .stopping)
    (h : s.wsq.seq = .stopping) (f : Finding) : Lingers s (takeFinding start stall s f) := by
  cases f with
  | stall =>
    cases stall with
    | none => exact .refl s
    | some v =>
      have hf : Lingers s { s with mfe := { s.mfe with stall := [] }, wsq := { s.wsq with lock := true } } :=
        front_lingers _ _ rfl rfl rfl (fun _ => rfl)
      simp only [takeFinding, takePlatenStall_stopping v h]
      exact hf.trans (enterFaultAs_lingers _ _ _)
  | limit =>
    simp only [takeFinding, takeStrokeLimit]
    split
    · exact takeFault_lingers _ _ h
    · exact .refl s
  | phase =>
    simp only [takeFinding, takePhase, h, hstart.symm, if_false]
    exact .refl s
  | freeze =>
    simp only [takeFinding, takeFreezeNotice, h, reduceCtorEq, or_self, if_false]
    split
    · exact .refl s
    · exact front_lingers _ s.wsq rfl rfl rfl id
  | slip =>
    simp only [takeFinding, takeClampSlip]
    cases s.mfe.slipNotice with
    | none => exact .refl s
    | some p =>
      have hf : Lingers s { s with mfe := { s.mfe with slipNotice := none } } := front_lingers _ s.wsq rfl rfl rfl id
      exact hf.trans (takeFault_lingers _ _ h)
  | range input =>
    simp only [takeFinding, takeRangeNotice]
    cases s.rangeNotice input with
    | none => exact .refl s
    | some n =>
      have hf : Lingers s { s with
          mfe := { s.mfe with rangeNotices := s.mfe.rangeNotices.erase n }, wsq := { s.wsq with lock := true } } :=
        front_lingers _ _ rfl rfl rfl (fun _ => rfl)
      dsimp only
      rw [takeSensorRange_stopping _ (by exact h)]
      exact hf.trans (enterFaultAs_lingers _ _ _)

/-- R12: the slip's own finding alone takes its notice. -/
theorem takeFinding_slipNotice {start : SeqState} (stall : Option Int) {s : State} (hstart : start ≠ .stopping)
    (h : s.wsq.seq = .stopping) {f : Finding} (hf : f ≠ .slip) :
    (takeFinding start stall s f).mfe.slipNotice = s.mfe.slipNotice := by
  cases f with
  | stall =>
    cases stall with
    | none => rfl
    | some v => simp [takeFinding, takePlatenStall_stopping v h]
  | limit =>
    simp only [takeFinding, takeStrokeLimit]
    split
    · simp [takeFault_stopping _ _ h]
    · rfl
  | phase => simp only [takeFinding, takePhase, h, hstart.symm, if_false]
  | freeze =>
    simp only [takeFinding, takeFreezeNotice, h, reduceCtorEq, or_self, if_false]
    split <;> rfl
  | slip => exact absurd rfl hf
  | range input =>
    simp only [takeFinding, takeRangeNotice]
    cases s.rangeNotice input with
    | none => rfl
    | some n =>
      dsimp only
      rw [takeSensorRange_stopping _ (by exact h)]
      simp

/-- The findings of a sample in STOPPING leave the slip's notice until they take it. -/
theorem foldl_lingers {start : SeqState} (stall : Option Int) (hstart : start ≠ .stopping) (fs : List Finding) {s : State}
    (h : s.wsq.seq = .stopping) : Lingers s (fs.foldl (takeFinding start stall) s)
      ∧ (.slip ∉ fs → (fs.foldl (takeFinding start stall) s).mfe.slipNotice = s.mfe.slipNotice) := by
  induction fs generalizing s with
  | nil => exact ⟨.refl s, fun _ => rfl⟩
  | cons f fs ih =>
    have hone := takeFinding_lingers stall hstart h f
    obtain ⟨hrest, hnotice⟩ := ih (hone.stays h)
    refine ⟨hone.trans hrest, fun hno => ?_⟩
    obtain ⟨hne, hno⟩ := not_or.mp (List.mem_cons.not.mp hno)
    exact (hnotice hno).trans (takeFinding_slipNotice stall hstart h (Ne.symm hne))

/-- What one finding of a sample brings about in STOPPING, and the others leave, the sample brings about. -/
theorem foldl_reaches {start : SeqState} {stall : Option Int} (hstart : start ≠ .stopping) {fs : List Finding} {s : State}
    {f : Finding} {P : State → Prop} (h : s.wsq.seq = .stopping) (hf : f ∈ fs)
    (hkept : ∀ t u, Lingers t u → P t → P u)
    (hreached : ∀ t, Lingers s t → (f = .slip → t.mfe.slipNotice = s.mfe.slipNotice) → P (takeFinding start stall t f)) :
    P (fs.foldl (takeFinding start stall) s) := by
  obtain ⟨before, after, rfl, hno⟩ := List.eq_append_cons_of_mem hf
  obtain ⟨hbefore, hnotice⟩ := foldl_lingers stall hstart before h
  rw [List.foldl_append, List.foldl_cons]
  exact hkept _ _ (foldl_lingers stall hstart after ((takeFinding_lingers stall hstart (hbefore.stays h) f).stays
    (hbefore.stays h))).1 (hreached _ hbefore fun hslip => hnotice (hslip ▸ hno))

/-! ### An abort in a sample -/

/-- `SampleAborted` before the current gate has closed. -/
structure Halting (kind : FaultKind) (input : Option Int) (s t : State) : Prop where
  context : ∃ c c', s.ctx = some c ∧ t.ctx = some c' ∧ c'.abortKind = some kind
    ∧ (c'.overflow = true ∨ kind ∈ c'.faults.map (·.kind)) ∧ c'.phaseReached = c.phaseReached
    ∧ (s.rst.log.first = none → t.rst.log.first =
        some { kind := kind, state := s.wsq.seq, weldNumber := some c.weldNumber, input := input })
  seq     : t.wsq.seq = .stopping
  clamps  : t.wsq.clampTimer = some { length := 5000, elapsed := 0 }
  outputs : t.mfe.set = { current := 0, velocity := 0, force := 0, clamp := .opn }
  backoff : t.frg.backoff = none
  window  : t.frg.windowTimer = none
  claim   : t.clu.step = .idle

theorem Halting.lingers {kind : FaultKind} {input : Option Int} {s t u : State} (h : Halting kind input s t)
    (hl : Lingers t u) : Halting kind input s u := by
  obtain ⟨c, c', hc, hc', habort, hlisted, hphase, hfirst⟩ := h.context
  obtain ⟨c'', hc'', hweld⟩ := hl.weld c' hc'
  refine ⟨⟨c, c'', hc, hc'', ?_, hweld.listed kind hlisted, ?_, fun hno => hl.first _ (hfirst hno)⟩, hl.stays h.seq, ?_,
    hl.set.trans h.outputs, hl.frg ▸ h.backoff, hl.frg ▸ h.window, hl.clu ▸ h.claim⟩
  · rw [hweld.same]
    exact habort
  · rw [hweld.same]
    exact hphase
  · rw [hl.wsq]
    exact h.clamps

theorem Halting.sampleAborted {kind : FaultKind} {input : Option Int} {s t : State} (h : Halting kind input s t) :
    SampleAborted kind input s (gateCurrent t) := by
  have hg := h.lingers (gateCurrent_lingers t)
  refine ⟨hg.context, hg.seq, hg.clamps, hg.outputs, ?_, hg.backoff, hg.window, hg.claim⟩
  have hclosed : t.gateOpen = false := by simp [State.gateOpen, h.seq]
  rw [gateCurrent_driven, hclosed]
  rfl

/-- R66, R68: an abort taken on the state `u` that the sample has worked from `s`. -/
theorem abortWeld_halting {kind : FaultKind} {input : Option Int} {s u : State} {c cu : WeldCtx} (hctx : s.ctx = some c)
    (hu : u.ctx = some cu) (hphase : cu.phaseReached = c.phaseReached) (hnumber : cu.weldNumber = c.weldNumber)
    (hseq : u.wsq.seq = s.wsq.seq) (hlog : u.rst.log = s.rst.log) : Halting kind input s (abortWeld kind input u) := by
  have ha := abortWeld_aborted kind input u cu hu
  obtain ⟨x, c', hx, hc', hsame, hfirst⟩ := ha.context
  cases hu.symm.trans hx
  obtain ⟨faults, full, hshape⟩ := addFault_shape kind u.wsq.seq cu
  have hlists := (addFault_lists kind u.wsq.seq cu).1
  rw [hshape] at hsame hlists
  refine ⟨⟨c, c', hctx, (gateCurrent_ctx _).symm.trans hc', ?_, ?_, ?_, fun hno => ?_⟩, ?_, ?_, ?_, ?_, ?_, ?_⟩
  · rw [hsame]
  · rw [hsame]
    exact hlists
  · rw [hsame]
    exact hphase
  · rw [← hseq, ← hnumber, ← hfirst (by rw [hlog]; exact hno), gateCurrent_rst]
  · rw [← gateCurrent_wsq, ha.wsq]
  · rw [← gateCurrent_wsq, ha.wsq]
  · rw [← gateCurrent_mfe_set, ha.mfe]
  · rw [← gateCurrent_frg, ha.frg]
  · rw [← gateCurrent_frg, ha.frg]
  · rw [← gateCurrent_clu]
    exact ha.step

/-- The findings of a sample whose order names `f` first: that finding, and then the others, each once. -/
theorem takeFindings_cons (f : Finding) (order : SampleOrder) (s : State) : ∃ rest : List Finding,
    takeFindings (f :: order) s
      = rest.foldl (takeFinding s.wsq.seq (stallOf s.mfe.stall)) (takeFinding s.wsq.seq (stallOf s.mfe.stall) s f)
    ∧ rest.Nodup ∧ (∀ g ∈ rest, g ≠ f ∧ (g ∈ order ∨ g = .stall ∨ g = .limit ∨ g = .phase))
    ∧ ∀ g, g ∈ order ∨ g = .stall ∨ g = .limit ∨ g = .phase → g ≠ f → g ∈ rest := by
  have hfirst : findingsOf (f :: order) = f :: ((order ++ [Finding.stall, .limit, .phase]).filter (fun g => !g == f)).eraseDups := by
    rw [findingsOf, List.cons_append, List.eraseDups_cons]
  have hnodup := findingsOf_nodup (f :: order)
  rw [hfirst] at hnodup
  obtain ⟨hnot, hnodup⟩ := List.nodup_cons.mp hnodup
  refine ⟨_, by rw [takeFindings, hfirst, List.foldl_cons], hnodup, fun g hg => ?_, fun g hg hne => ?_⟩
  · have hne : g ≠ f := fun h => hnot (h ▸ hg)
    have hmem := (findingsOf_mem (f :: order) g).mp (hfirst ▸ List.mem_cons_of_mem f hg)
    exact ⟨hne, hmem.imp_left fun h => (List.mem_cons.mp h).resolve_left hne⟩
  have hmem : g ∈ findingsOf (f :: order) := by
    rw [findingsOf_mem]
    exact hg.imp_left (List.mem_cons_of_mem f)
  rw [hfirst] at hmem
  exact (List.mem_cons.mp hmem).resolve_left hne

/-- R66: a sample whose first finding aborts the weld, and what one of its other findings brings about after that. -/
theorem sample_aborts {raw : Samples} {f : Finding} {order : SampleOrder} {kind : FaultKind} {input : Option Int}
    {s : State} (hreset : s.pins.lineReset = false) (hstart : s.wsq.seq ≠ .stopping)
    (h : Halting kind input s
      (takeFinding s.wsq.seq (stallOf (Machine.measure raw s).mfe.stall) (Machine.measure raw s) f)) :
    ∃ t, exec (.sample raw (f :: order)) s = .next t ∧ SampleAborted kind input s t
      ∧ Lingers (takeFinding s.wsq.seq (stallOf (Machine.measure raw s).mfe.stall) (Machine.measure raw s) f) t
      ∧ ∀ (g : Finding) (P : State → Prop), g ∈ order ∨ g = .stall ∨ g = .limit ∨ g = .phase → g ≠ f →
        (∀ t u, Lingers t u → P t → P u) →
        (∀ t, Lingers (takeFinding s.wsq.seq (stallOf (Machine.measure raw s).mfe.stall) (Machine.measure raw s) f) t →
          (g = .slip → t.mfe.slipNotice
            = (takeFinding s.wsq.seq (stallOf (Machine.measure raw s).mfe.stall) (Machine.measure raw s) f).mfe.slipNotice) →
          P (takeFinding s.wsq.seq (stallOf (Machine.measure raw s).mfe.stall) t g)) → P t := by
  obtain ⟨rest, hfound, -, -, hrest⟩ := takeFindings_cons f order (Machine.measure raw s)
  rw [measure_seq] at hfound
  refine ⟨_, exec_sample_of_notReset raw (f :: order) hreset, ?_, ?_, fun g P hg hne hkept hreached => ?_⟩
  · rw [hfound]
    exact (h.lingers (foldl_lingers _ hstart rest h.seq).1).sampleAborted
  · rw [hfound]
    exact (foldl_lingers _ hstart rest h.seq).1.trans (gateCurrent_lingers _)
  · rw [hfound]
    exact hkept _ _ (gateCurrent_lingers _) (foldl_reaches hstart h.seq (hrest g hg hne) hkept hreached)

end Sys2Proof.Proofs.SampleAborts

/-! The expiries, notices and findings that abort a weld (R3, R10 to R12, R53, R66, R69, R70, R81, R87, R93, R121, R137, R138);
the statements RateWindowCorrectsOrAborts, SensorRangeActsByState and ExpiriesAbortTheWeld. -/
namespace Sys2Proof.Proofs.Aborts
open Sys2Proof Sys2Proof.Machine Sys2Proof.Proofs.Samples Sys2Proof.Proofs.SampleReadings Sys2Proof.Proofs.Preheat
  Sys2Proof.Proofs.Outcomes Sys2Proof.Proofs.FlashBurn Sys2Proof.Proofs.SampleAborts Sys2Proof.Proofs.Wires

set_option Elab.async false

/-! ### The rate window -/

theorem unstableAfter_eq (f : Frg) (r : Nat) :
    unstableAfter f r = if f.rMin ≤ r ∧ r ≤ f.rMax then 0 else f.unstable + 1 := by
  unfold unstableAfter
  by_cases h : r < f.rMin ∨ f.rMax < r
  · rw [if_pos h, if_neg (by omega)]
  · rw [if_neg h, if_pos (by omega)]

/-- R87: what a rate window leaves that ends in FLASH, before FLASH_UNSTABLE is taken. -/
def windowEnded (k : Schedule) (s : State) : State :=
  activate .windowEnd { s with
    mfe := { s.mfe with onsets := 0 }
    frg := { s.frg with
      windowTimer := s.frg.windowTimer.map Timer.again, corrK := correctedK k s.frg (s.mfe.onsets * 10)
      unstable := unstableAfter s.frg (s.mfe.onsets * 10), lastRate := s.mfe.onsets * 10 } }

/-- Settles O28: the window ends with its activation, and then the count of unstable windows decides. -/
theorem rateWindowCorrectsOrAborts : Obligations.RateWindowCorrectsOrAborts := by
  intro s c w hctx hseq hwindow hdue
  have hsched : s.sched = (s.bank c.bank).image := sched_of_ctx hctx
  have hexec : exec .windowEnd s = .next (gateCurrent (endWindow s)) :=
    finish_turn ⟨hseq, by rw [hwindow]; exact hdue⟩
  obtain ⟨cut, hcut⟩ := activate_cut (s := { s with
    mfe := { s.mfe with onsets := 0 }
    frg := { s.frg with
      windowTimer := s.frg.windowTimer.map Timer.again, corrK := correctedK s.sched s.frg (s.mfe.onsets * 10)
      unstable := unstableAfter s.frg (s.mfe.onsets * 10), lastRate := s.mfe.onsets * 10 } }) (c := c) .windowEnd hctx
  change (windowEnded s.sched s).ctx = _ at hcut
  have hflash : (windowEnded s.sched s).wsq.seq = .flash := by simp [windowEnded, hseq]
  rw [hexec]
  by_cases hover : s.sched.unstableLimit ≤ unstableAfter s.frg (s.mfe.onsets * 10)
  · have hend : endWindow s = abortWeld .flashUnstable (some (s.mfe.onsets * 10 : Nat)) (windowEnded s.sched s) := by
      refine (if_pos hover).trans (takeFault_abortable _ _ ?_)
      change (windowEnded s.sched s).wsq.seq.abortable = true
      rw [hflash]
      rfl
    have ha := abortWeld_aborted .flashUnstable (some (s.mfe.onsets * 10 : Nat)) _ _ hcut
    rw [← hend] at ha
    obtain ⟨_, c', _, hc', hsame, -⟩ := ha.context
    refine ⟨_, c', rfl, hc', ?_⟩
    intro k r k' u
    have hu : u = unstableAfter s.frg r := (unstableAfter_eq s.frg r).symm
    have hk : k' = correctedK s.sched s.frg r := by rw [hsched]; rfl
    have hlimit : s.sched.unstableLimit = k.unstableLimit := by rw [hsched]
    rw [ha.frg, ha.wsq, ha.mfe, hsame, hu, hk]
    refine ⟨by simp [windowEnded, r], by simp [windowEnded, r], by simp [windowEnded, r], by simp [windowEnded],
      fun hless => absurd (hlimit ▸ hover) (Nat.not_le.mpr hless), fun _ => ⟨rfl, rfl, rfl, rfl⟩⟩
  · have hend : endWindow s = windowEnded s.sched s := if_neg hover
    have hopen : (windowEnded s.sched s).gateOpen = true := by simp [State.gateOpen, hflash]
    refine ⟨_, _, rfl, (gateCurrent_ctx _).trans (hend ▸ hcut), ?_⟩
    intro k r k' u
    have hu : u = unstableAfter s.frg r := (unstableAfter_eq s.frg r).symm
    have hk : k' = correctedK s.sched s.frg r := by rw [hsched]; rfl
    have hlimit : s.sched.unstableLimit = k.unstableLimit := by rw [hsched]
    rw [hend, gateCurrent_open _ hopen, hu, hk]
    refine ⟨by simp [windowEnded, r], by simp [windowEnded, r], by simp [windowEnded, r], by simp [windowEnded],
      fun _ => ⟨by simp [windowEnded], rfl, by simp [windowEnded], ?_, by simp [windowEnded], by simp [windowEnded],
        by simp [windowEnded], by simp [windowEnded], by constructor <;> simp [windowEnded]⟩,
      fun hless => absurd (hlimit ▸ hless) hover⟩
    simp [windowEnded, hwindow, Timer.again]

/-! ### SENSOR_RANGE -/

/-- R3: what stands as a range notice is taken: it is dropped, and the lock flag is set. -/
def noticeDropped (n : RangeNotice) (s : State) : State :=
  { s with mfe := { s.mfe with rangeNotices := s.mfe.rangeNotices.erase n }, wsq := { s.wsq with lock := true } }

theorem takeRangeNotice_eq {input : Input} {s : State} {n : RangeNotice} (h : s.rangeNotice input = some n) :
    takeRangeNotice input s =
      let s1 := takeStationFault .sensorRange n.value (noticeDropped n s)
      if s1.wsq.seq = .ready then enterState .locked s1 else s1 := by
  unfold takeRangeNotice
  rw [h]
  rfl

theorem takeRangeNotice_abortable {input : Input} {s : State} {n : RangeNotice} (h : s.rangeNotice input = some n)
    (ha : s.wsq.seq.abortable = true) :
    takeRangeNotice input s = abortWeld .sensorRange n.value (noticeDropped n s) := by
  rw [takeRangeNotice_eq h]
  have hfault : takeStationFault .sensorRange n.value (noticeDropped n s)
      = abortWeld .sensorRange n.value (noticeDropped n s) := if_pos ha
  dsimp only
  rw [hfault, if_neg (by simp [abortWeld, makeSafe_wsq])]

/-- R69: in HOLD, LET_GO and UNCLAMP the kind is entered, and becomes the abort kind where there is none. -/
theorem takeStationFault_late (kind : FaultKind) (i : Option Int) {s : State}
    (h : s.wsq.seq = .hold ∨ s.wsq.seq = .letGo ∨ s.wsq.seq = .unclamp) :
    takeStationFault kind i s = enterLate kind i s := by
  unfold takeStationFault
  rcases h with h | h | h <;> simp only [h, SeqState.abortable, Bool.false_eq_true, if_false]

theorem enterLate_eq (kind : FaultKind) (i : Option Int) (s : State) : enterLate kind i s = { enterFault kind i s with
    ctx := (enterFault kind i s).ctx.map (fun c => { c with
      abortKind := if c.abortKind = none then some kind else c.abortKind }) } := by
  unfold enterLate State.mapCtx
  congr 2
  funext c
  cases c.abortKind <;> rfl

theorem takeStationFault_plain (kind : FaultKind) (i : Option Int) {s : State}
    (h : s.wsq.seq = .stopping ∨ s.wsq.seq = .ready ∨ s.wsq.seq = .offline ∨ s.wsq.seq = .locked) :
    takeStationFault kind i s = enterFault kind i s := by
  unfold takeStationFault
  rcases h with h | h | h | h <;> simp only [h, SeqState.abortable, Bool.false_eq_true, if_false]

/-- R72: without a weld context a fault goes to the device fault log alone. -/
theorem enterFault_idle (kind : FaultKind) (i : Option Int) {s : State} (h : s.ctx = none) :
    enterFault kind i s = logFault kind none i s := by
  unfold enterFault enterFaultAs
  rw [h]

/-- R3: a notice that waits before a sample is the first of its input after it. -/
theorem measure_rangeNotice (raw : Samples) {input : Input} {s : State} {n : RangeNotice} (h : s.rangeNotice input = some n) :
    (Machine.measure raw s).rangeNotice input = some n := by
  unfold State.rangeNotice at *
  rw [measure_mfe, readings_notices, List.find?_append, h]
  rfl

theorem abortable_not_stopping {st : SeqState} (h : st.abortable = true) : st ≠ .stopping := by
  rintro rfl
  cases h

theorem enterState_idle (st : SeqState) {s : State} (h : s.ctx = none) : (enterState st s).ctx = none := by
  unfold enterState
  rw [activate_idle _ _ (by rw [h]; rfl), announceChange_ctx, h]
  rfl

/-- Settles O18: by state, from the operation that each state takes. -/
theorem sensorRangeActsByState : Obligations.SensorRangeActsByState := by
  intro input s
  refine ⟨fun n c hnotice hctx => ?_, fun n hnotice hctx hseq => ?_, fun hnone => ?_⟩
  · refine ⟨fun ha => ⟨⟨_, ?_, abortWeld_aborted _ _ _ c hctx⟩, fun raw order hreset => ?_⟩, fun hlate => ?_, fun hstop => ?_⟩
    · exact congrArg finish (takeRangeNotice_abortable hnotice ha)
    · have hmeasured := measure_rangeNotice raw hnotice
      have hfound : takeFinding s.wsq.seq (stallOf (Machine.measure raw s).mfe.stall) (Machine.measure raw s) (.range input)
          = abortWeld .sensorRange n.value (noticeDropped n (Machine.measure raw s)) :=
        takeRangeNotice_abortable hmeasured (by rw [measure_seq]; exact ha)
      have hhalt : Halting .sensorRange n.value s
          (abortWeld .sensorRange n.value (noticeDropped n (Machine.measure raw s))) :=
        abortWeld_halting hctx (measure_some raw hctx) rfl rfl (measure_seq raw s) (congrArg Rst.log (measure_rst raw s))
      obtain ⟨t, hexec, haborted, hlingers, -⟩ := sample_aborts (order := order) hreset (abortable_not_stopping ha)
        (hfound ▸ hhalt)
      refine ⟨t, hexec, haborted, hlingers.lock ?_⟩
      rw [hfound]
      simp [abortWeld, makeSafe_wsq, noticeDropped]
    · have hfault := takeStationFault_late .sensorRange n.value (s := noticeDropped n s) hlate
      have hnotReady : (enterLate .sensorRange n.value (noticeDropped n s)).wsq.seq ≠ .ready := by
        rw [show (enterLate .sensorRange n.value (noticeDropped n s)).wsq.seq = s.wsq.seq by
          simp [enterLate, enterFault, noticeDropped]]
        rcases hlate with h | h | h <;> rw [h] <;> decide
      refine ⟨enterFault .sensorRange n.value (noticeDropped n s), enterFault_entered _ _ _ c hctx, ?_⟩
      rw [← enterLate_eq]
      refine congrArg finish ?_
      rw [takeRangeNotice_eq hnotice]
      dsimp only
      rw [hfault, if_neg hnotReady]
    · refine ⟨enterFault .sensorRange n.value (noticeDropped n s), congrArg finish ?_, enterFault_entered _ _ _ c hctx⟩
      rw [takeRangeNotice_eq hnotice]
      dsimp only
      rw [takeStationFault_plain (s := noticeDropped n s) _ _ (.inl hstop), if_neg (by simp [enterFault, noticeDropped, hstop])]
  · have hplain : takeStationFault .sensorRange n.value (noticeDropped n s)
        = logFault .sensorRange none n.value (noticeDropped n s) :=
      (takeStationFault_plain (s := noticeDropped n s) _ _ (.inr hseq)).trans
        (enterFault_idle (s := noticeDropped n s) _ _ hctx)
    have hexec : exec (.sensorRange input) s = .next (gateCurrent (
        let s1 := logFault .sensorRange none n.value (noticeDropped n s)
        if s1.wsq.seq = .ready then enterState .locked s1 else s1)) := by
      rw [← hplain]
      exact congrArg finish (takeRangeNotice_eq hnotice)
    refine ⟨_, hexec, ?_⟩
    by_cases hready : s.wsq.seq = .ready
    · dsimp only
      rw [if_pos (by simp [noticeDropped, hready]), if_pos hready]
      refine ⟨(gateCurrent_ctx _).trans (enterState_idle _ (by simp [noticeDropped, hctx])), by simp [noticeDropped],
        by simp [noticeDropped], by simp [noticeDropped], by simp [noticeDropped], by simp [noticeDropped],
        by simp [noticeDropped], by simp [noticeDropped],
        by constructor <;> simp [noticeDropped]⟩
    · dsimp only
      rw [if_neg (by simp [noticeDropped, hready]), if_neg hready]
      refine ⟨by simp [noticeDropped, hctx], by simp [noticeDropped], by simp [noticeDropped], by simp [noticeDropped],
        by simp [noticeDropped], by simp [noticeDropped], by simp [noticeDropped], by simp [noticeDropped],
        by constructor <;> simp [noticeDropped]⟩
  · refine congrArg finish ?_
    unfold takeRangeNotice
    rw [hnone]

/-! ### The slip count through the findings of a sample (R12) -/

/-- R12: the slip count and its notice stand in the states that check the slip; out of them the count is 0. -/
def SlipKept (s t : State) : Prop :=
  (t.mfe.slip = s.mfe.slip ∧ t.mfe.slipNotice = s.mfe.slipNotice ∧ t.wsq.seq.slipChecked = s.wsq.seq.slipChecked)
    ∨ (t.mfe.slip = 0 ∧ t.wsq.seq.slipChecked = false)

theorem SlipKept.trans {s t u : State} (h : SlipKept s t) (k : SlipKept t u) : SlipKept s u := by
  rcases k with ⟨hslip, hnotice, hseq⟩ | k
  · rcases h with ⟨hslip', hnotice', hseq'⟩ | ⟨hslip', hseq'⟩
    · exact .inl ⟨hslip.trans hslip', hnotice.trans hnotice', hseq.trans hseq'⟩
    · exact .inr ⟨hslip.trans hslip', hseq.trans hseq'⟩
  · exact .inr k

theorem slipKept_of_eq {s t : State} (hslip : t.mfe.slip = s.mfe.slip) (hnotice : t.mfe.slipNotice = s.mfe.slipNotice)
    (hseq : t.wsq.seq = s.wsq.seq) : SlipKept s t := .inl ⟨hslip, hnotice, by rw [hseq]⟩

theorem SlipKept.refl (s : State) : SlipKept s s := slipKept_of_eq rfl rfl rfl

theorem abortWeld_slipKept (k : FaultKind) (i : Option Int) (s : State) : SlipKept s (abortWeld k i s) :=
  .inr (by simp [abortWeld, makeSafe_mfe, makeSafe_wsq, SeqState.slipChecked])

theorem takeFault_slipKept (k : FaultKind) (i : Option Int) (s : State) : SlipKept s (takeFault k i s) := by
  unfold takeFault
  split
  · exact abortWeld_slipKept k i s
  · split
    · exact slipKept_of_eq (by simp) (by simp) (by simp)
    · exact .refl s

theorem preheatSample_slipKept (s : State) : SlipKept s (preheatSample s) := by
  unfold preheatSample retreat
  repeat' split
  all_goals exact slipKept_of_eq (by simp [beginContact]) (by simp [beginContact]) (by simp [beginContact])

theorem mapSet_slipKept (f : Outputs → Outputs) (s : State) : SlipKept s (s.mapSet f) := slipKept_of_eq rfl rfl rfl

theorem backoffSample_slipKept (b : Backoff) (s : State) : SlipKept s (backoffSample b s) := by
  unfold backoffSample
  dsimp only
  split <;> exact slipKept_of_eq rfl rfl rfl

theorem enterHold_slipKept (s : State) : SlipKept s (enterHold s) := by
  refine .inr ?_
  unfold enterHold holdBroken
  dsimp only
  repeat' split
  all_goals simp [requestGate, SeqState.slipChecked]

theorem leaveUpset_slipKept (s : State) : SlipKept s (leaveUpset s) := by
  unfold leaveUpset
  split
  · exact enterHold_slipKept s
  · exact .refl s

theorem strokeSample_slipKept (s : State) : SlipKept s (strokeSample s) := by
  unfold strokeSample endStroke
  dsimp only
  repeat' split
  all_goals exact slipKept_of_eq (by simp) (by simp) (by simp)

theorem enterUpset_slipKept {s : State} (h : s.wsq.seq.slipChecked = true) : SlipKept s (enterUpset s) := by
  unfold enterUpset
  extract_lets entered wsq _ begun asked gated heated
  have hbegun : SlipKept s begun :=
    .inl ⟨by simp [begun, entered, SeqState.slipChecked], by simp [begun, entered],
      .trans (by simp [begun, entered, wsq, SeqState.slipChecked]) h.symm⟩
  have hasked : SlipKept begun asked := slipKept_of_eq rfl rfl rfl
  have hgated : SlipKept begun gated := by
    unfold gated
    repeat' split
    · exact hasked
    · exact hasked.trans (slipKept_of_eq (by simp) (by simp) (by simp))
    · exact .refl begun
  have hheated : SlipKept gated heated := by
    unfold heated
    split
    · exact slipKept_of_eq (by simp [heatOver]) (by simp [heatOver]) (by simp [heatOver])
    · exact .refl _
  have hworked : SlipKept heated (workStroke heated) := slipKept_of_eq (by simp) (by simp) (by simp)
  exact (((hbegun.trans hgated).trans hheated).trans hworked).trans
    ((strokeSample_slipKept _).trans (leaveUpset_slipKept _))

theorem endFlash_slipKept {s : State} (h : s.wsq.seq.slipChecked = true) : SlipKept s (endFlash s) := by
  unfold endFlash
  split
  · exact .inl ⟨by simp [enterBoost, SeqState.slipChecked], by simp [enterBoost],
      .trans (by simp [enterBoost, SeqState.slipChecked]) h.symm⟩
  · exact enterUpset_slipKept h

theorem flashSample_slipKept {s : State} (h : s.wsq.seq.slipChecked = true) : SlipKept s (flashSample s) := by
  unfold flashSample
  dsimp only
  split
  · exact (mapSet_slipKept _ s).trans (backoffSample_slipKept _ _)
  · split
    · exact ((mapSet_slipKept _ s).trans (mapSet_slipKept _ _)).trans (endFlash_slipKept h)
    · exact (mapSet_slipKept _ s).trans (mapSet_slipKept _ _)

theorem boostSample_slipKept {s : State} (h : s.wsq.seq.slipChecked = true) : SlipKept s (boostSample s) := by
  unfold boostSample
  dsimp only
  split
  · exact (mapSet_slipKept _ s).trans (backoffSample_slipKept _ _)
  · split
    · exact (mapSet_slipKept _ s).trans (enterUpset_slipKept h)
    · exact (mapSet_slipKept _ s).trans (mapSet_slipKept _ _)

theorem upsetSample_slipKept (s : State) : SlipKept s (upsetSample s) := by
  unfold upsetSample
  refine .trans ?_ ((strokeSample_slipKept _).trans (leaveUpset_slipKept _))
  split
  · exact .refl s
  · exact mapSet_slipKept _ s

/-- The states that check the slip are PREHEAT, FLASH, BOOST and UPSET. -/
theorem slipChecked_iff (st : SeqState) : st.slipChecked = true ↔ st ∈ [SeqState.preheat, .flash, .boost, .upset] := by
  cases st <;> decide

theorem phaseLaw_slipKept {s : State} (h : s.wsq.seq.slipChecked = true) : SlipKept s (phaseLaw s.wsq.seq s) := by
  cases hseq : s.wsq.seq with
  | preheat => exact preheatSample_slipKept s
  | flash => exact flashSample_slipKept h
  | boost => exact boostSample_slipKept h
  | upset => exact upsetSample_slipKept s
  | _ => rw [hseq] at h; cases h

theorem takePlatenStall_slipKept (found : Option Int) (s : State) : SlipKept s (takePlatenStall found s) := by
  cases found with
  | none => exact .refl s
  | some v =>
    unfold takePlatenStall
    dsimp only
    split
    · refine .trans ?_ (takeFault_slipKept _ _ _)
      exact slipKept_of_eq rfl rfl rfl
    · exact slipKept_of_eq rfl rfl rfl

/-- R12: a finding of a sample that took no notice. -/
theorem takeFinding_slipKept {start : SeqState} (stall : Option Int) (hstart : start.slipChecked = true) (s : State)
    {f : Finding} (hf : f = .stall ∨ f = .limit ∨ f = .phase) : SlipKept s (takeFinding start stall s f) := by
  rcases hf with rfl | rfl | rfl
  · exact takePlatenStall_slipKept stall s
  · simp only [takeFinding, takeStrokeLimit]
    split
    · exact takeFault_slipKept _ _ s
    · exact .refl s
  · by_cases hseq : s.wsq.seq = start
    · subst hseq
      simp only [takeFinding, takePhase_of_seq rfl]
      exact phaseLaw_slipKept hstart
    · simp only [takeFinding, takePhase, hseq, if_false]
      exact .refl s

theorem slipChecked_abortable {st : SeqState} (h : st.slipChecked = true) : st.abortable = true := by
  cases st <;> first | rfl | cases h

theorem regulated_abortable {st : SeqState} (h : st.regulated = true) : st.abortable = true := by
  cases st <;> first | rfl | cases h

theorem takeFindings_slipKept {order : SampleOrder} (hq : NoNotices order) {s : State}
    (h : s.wsq.seq.slipChecked = true) : SlipKept s (takeFindings order s) :=
  takeFindings_induct (P := SlipKept s) order (hs := .refl s) fun _ hf t ht =>
    ht.trans (takeFinding_slipKept _ h t (findings_quiet hq hf))

/-! ### The slip and the stall as a sample works them -/

/-- The state of a sample before its slip is counted. -/
def beforeSlip (raw : Samples) (s : State) : State :=
  takeStall (takeEnergy (takeShort { tickAll s with mfe := inputsTaken raw s }))

theorem readings_eq_slip (raw : Samples) (s : State) : readings raw s = takeSlip (beforeSlip raw s) := by
  rw [readings, takeInputs_tick]
  rfl

theorem takeEnergy_shape (s : State) : ∃ e, takeEnergy s = { s with mfe := { s.mfe with energy := e } } := by
  unfold takeEnergy
  split
  · exact ⟨_, rfl⟩
  · exact ⟨s.mfe.energy, rfl⟩

theorem beforeSlip_counts (raw : Samples) (s : State) : (beforeSlip raw s).mfe.slip = s.mfe.slip
    ∧ (beforeSlip raw s).mfe.slipNotice = s.mfe.slipNotice := by
  obtain ⟨e, he⟩ := takeEnergy_shape (takeShort { tickAll s with mfe := inputsTaken raw s })
  rw [beforeSlip, he]
  exact ⟨rfl, rfl⟩

theorem beforeSlip_state (raw : Samples) (s : State) : (beforeSlip raw s).wsq.seq = s.wsq.seq
    ∧ (beforeSlip raw s).ctx = s.ctx ∧ (beforeSlip raw s).rst = s.rst
    ∧ (beforeSlip raw s).pressure = (takeInput .clampPressure raw.clampPressure s.mfe.inputs.clampPressure).value := by
  obtain ⟨e, he⟩ := takeEnergy_shape (takeShort { tickAll s with mfe := inputsTaken raw s })
  rw [beforeSlip, he]
  exact ⟨rfl, rfl, rfl, rfl⟩

/-- R12: the slip count and its notice at a sample. -/
theorem readings_slip (raw : Samples) {s : State} {c : WeldCtx} (hctx : s.ctx = some c)
    (h : s.wsq.seq.slipChecked = true) :
    let k := (s.bank c.bank).image
    let pressure := (takeInput .clampPressure raw.clampPressure s.mfe.inputs.clampPressure).value
    ((k.clampMin : Int) ≤ pressure → (readings raw s).mfe.slip = 0)
    ∧ (pressure < k.clampMin → (readings raw s).mfe.slip = min (s.mfe.slip + 1) 50
      ∧ (readings raw s).mfe.slipNotice = if s.mfe.slip + 1 = 50 then some pressure else s.mfe.slipNotice) := by
  obtain ⟨hslip, hnotice⟩ := beforeSlip_counts raw s
  obtain ⟨hseq, hctx', hrst, hpressure⟩ := beforeSlip_state raw s
  have hsched : (beforeSlip raw s).sched = (s.bank c.bank).image := by
    rw [sched_of_ctx (hctx'.trans hctx), bank_of_rst hrst]
  rw [readings_eq_slip]
  generalize beforeSlip raw s = t at *
  intro k pressure
  unfold takeSlip
  rw [hseq, if_pos h, hsched, hpressure]
  refine ⟨fun hheld => ?_, fun hlow => ?_⟩
  · rw [if_neg (by simp only [k, pressure] at hheld; omega)]
  · rw [if_pos hlow]
    exact ⟨by rw [hslip]; rfl, by rw [hslip, hnotice]; rfl⟩

/-- R10: the stall window as a sample leaves it, in the states that check it. -/
theorem readings_stall_window (raw : Samples) {s : State} (hreg : s.wsq.seq.regulated = true) (hbackoff : s.frg.backoff = none)
    (hmoving : 10 ≤ s.mfe.set.velocity) :
    let w := s.mfe.stall ++ [(s.mfe.set.velocity, (takeInput .position raw.position s.mfe.inputs.position).value)]
    (readings raw s).mfe.stall = w.drop (w.length - 200) := by
  have hslip (t : State) : (takeSlip t).mfe.stall = t.mfe.stall := by
    unfold takeSlip
    repeat' split
    all_goals rfl
  have hdriven : (drivenAt s).velocity = s.mfe.set.velocity := (drivenAt_rest s).1
  have hbefore : ∀ t : State, t.mfe.stall = s.mfe.stall → t.mfe.driven = drivenAt s
      → t.position = (takeInput .position raw.position s.mfe.inputs.position).value → t.wsq.seq = s.wsq.seq
      → t.frg = s.frg.tick → (takeStall t).mfe.stall =
        let w := s.mfe.stall ++ [(s.mfe.set.velocity, (takeInput .position raw.position s.mfe.inputs.position).value)]
        w.drop (w.length - 200) := by
    intro t hstall hdrive hposition hseq hfrg
    have heligible : t.stallEligible = true := by
      simp [State.stallEligible, hdrive, hdriven, hseq, hreg, hfrg, Frg.tick, hbackoff, hmoving]
    simp only [takeStall, heligible, if_true, hstall, hdrive, hdriven, hposition, stallSize]
  obtain ⟨e, he⟩ := takeEnergy_shape (takeShort { tickAll s with mfe := inputsTaken raw s })
  rw [readings_eq_slip, hslip, beforeSlip, he]
  exact hbefore _ rfl rfl rfl rfl rfl

/-! ### The findings that abort a sample, and those taken after -/

/-- R69: every entry of that kind is one of STOPPING, or the weld held the kind before. -/
def Late (kind : FaultKind) (c c' : WeldCtx) : Prop :=
  ∀ e ∈ c'.faults, e.kind = kind → e.phase = .stopping ∨ kind ∈ c.faults.map (·.kind)

/-- The kind is listed, late. -/
def LateIn (kind : FaultKind) (c : WeldCtx) (t : State) : Prop :=
  ∃ c', t.ctx = some c' ∧ Listed kind c' ∧ Late kind c c'

theorem LateIn.listedLate {kind : FaultKind} {c : WeldCtx} {t : State} (h : LateIn kind c t) : ListedLate kind c t := by
  obtain ⟨c', hc', hlisted, hlate⟩ := h
  refine ⟨c', hc', hlisted.imp_right fun hin => ?_⟩
  obtain ⟨e, he, hkind⟩ := List.mem_map.mp hin
  exact ⟨e, he, hkind, hlate e he hkind⟩

theorem Late.lingers {kind : FaultKind} {c c₁ c₂ : WeldCtx} (h : Late kind c c₁) (hl : WeldLingers c₁ c₂) :
    Late kind c c₂ := by
  intro e he hkind
  rcases hl.late e he with hs | ⟨x, hx, hkind', hphase⟩
  · exact .inl hs
  · exact (h x hx (hkind'.trans hkind)).imp_left (hphase ▸ ·)

theorem LateIn.lingers {kind : FaultKind} {c : WeldCtx} {t u : State} (hl : Lingers t u) (h : LateIn kind c t) :
    LateIn kind c u := by
  obtain ⟨c', hc', hlisted, hlate⟩ := h
  obtain ⟨c'', hc'', hweld⟩ := hl.weld c' hc'
  exact ⟨c'', hc'', hweld.listed kind hlisted, hlate.lingers hweld⟩

/-- R66: an abort enters one kind; of every other the list stands. -/
theorem abortWeld_late {k kind : FaultKind} (i : Option Int) {u : State} {c cu : WeldCtx} (hne : kind ≠ k)
    (hu : u.ctx = some cu) (hfaults : cu.faults = c.faults) :
    ∃ c', (abortWeld k i u).ctx = some c' ∧ Late kind c c' := by
  obtain ⟨x, c', hx, hc', hsame, -⟩ := (abortWeld_aborted k i u cu hu).context
  cases hu.symm.trans hx
  refine ⟨c', (gateCurrent_ctx _).symm.trans hc', fun e he hkind => .inr ?_⟩
  rw [hsame] at he
  rcases addFault_entries he with ⟨hk, -⟩ | ⟨y, hy, hyk, -⟩
  · exact absurd (hkind.symm.trans hk) hne
  · exact List.mem_map.mpr ⟨y, hfaults ▸ hy, hyk.trans hkind⟩

/-- R69: a kind entered in STOPPING, in a weld whose entries of that kind are late. -/
theorem enterFaultAs_late (kind : FaultKind) (i : Option Int) {t : State} {c c' : WeldCtx} (hctx : t.ctx = some c')
    (hlate : Late kind c c') : LateIn kind c (enterFaultAs .stopping kind i t) := by
  obtain ⟨faults, full, cut, hctx', hlisted, -⟩ := enterFaultAs_shape .stopping kind i hctx
  obtain ⟨c'', hc'', hweld⟩ := (enterFaultAs_lingers kind i t).weld c' hctx
  cases hctx'.symm.trans hc''
  exact ⟨_, hctx', hlisted, hlate.lingers hweld⟩

theorem lingers_sched {s t : State} {c : WeldCtx} (h : Lingers s t) (hctx : s.ctx = some c) : t.sched = s.sched := by
  obtain ⟨c', hc', hweld⟩ := h.weld c hctx
  have hbank : c'.bank = c.bank := by rw [hweld.same]
  rw [sched_of_ctx hctx, sched_of_ctx hc', hbank]
  cases c.bank <;> simp only [State.bank] <;> rw [h.store]

theorem lingers_position {s t : State} (h : Lingers s t) : t.position = s.position := by
  rw [State.position, State.input, h.inputs]
  rfl

theorem abortWeld_sched (k : FaultKind) (i : Option Int) {u : State} {c : WeldCtx} (h : u.ctx = some c) :
    (abortWeld k i u).sched = u.sched := by
  have hkept : Welding c.weldNumber c.bank c.mode (u.bank c.bank).image (abortWeld k i u) :=
    Invariants.abortWeld_keeps (I := weldInvariant _ _ _ _) (welding_of_ctx h)
  rw [hkept.sched, sched_of_ctx h]

theorem abortWeld_position (k : FaultKind) (i : Option Int) (u : State) : (abortWeld k i u).position = u.position := by
  simp [State.position, State.input, abortWeld, makeSafe_mfe]

theorem abortWeld_slipNotice (k : FaultKind) (i : Option Int) (u : State) :
    (abortWeld k i u).mfe.slipNotice = u.mfe.slipNotice := by
  simp [abortWeld, makeSafe_mfe]

/-- After an abort in a sample the schedule and the position are those the sample has worked. -/
theorem lingers_of_abort {k : FaultKind} {i : Option Int} {u t : State} {c : WeldCtx} (hu : u.ctx = some c)
    (h : Lingers (abortWeld k i u) t) : t.sched = u.sched ∧ t.position = u.position := by
  obtain ⟨_, c', _, hc', -⟩ := (abortWeld_aborted k i u c hu).context
  exact ⟨(lingers_sched h ((gateCurrent_ctx _).symm.trans hc')).trans (abortWeld_sched k i hu),
    (lingers_position h).trans (abortWeld_position k i u)⟩

/-- A fault that a timer raises in a state that aborts. -/
theorem expiry_aborts {p : Prop} [Decidable p] {k : FaultKind} {i : Option Int} {s : State} {c : WeldCtx}
    (hctx : s.ctx = some c) (ha : s.wsq.seq.abortable = true) (h : p) :
    ∃ t, finish (if p then takeFault k i s else s) = .next t ∧ Aborted k i s t := by
  refine ⟨_, finish_turn h, ?_⟩
  rw [takeFault_abortable k i ha]
  exact abortWeld_aborted k i s c hctx

theorem measure_position_eq (raw : Samples) (s : State) : (Machine.measure raw s).position
    = (takeInput .position raw.position s.mfe.inputs.position).value := by
  rw [State.position, State.input, measure_mfe, readings_inputs]
  rfl

/-- R12: a slip that the fiftieth sample raises and the order names first. -/
theorem slip_first {raw : Samples} {s : State} {c : WeldCtx} {start : SeqState} {stall : Option Int}
    (hctx : s.ctx = some c) (hchecked : s.wsq.seq.slipChecked = true) (hslip : s.mfe.slip = 49)
    (hlow : (takeInput .clampPressure raw.clampPressure s.mfe.inputs.clampPressure).value < (s.bank c.bank).image.clampMin) :
    let pressure := (takeInput .clampPressure raw.clampPressure s.mfe.inputs.clampPressure).value
    (Machine.measure raw s).mfe.slipNotice = some pressure
    ∧ takeFinding start stall (Machine.measure raw s) .slip = abortWeld .clampSlip (some pressure)
      { Machine.measure raw s with mfe := { (Machine.measure raw s).mfe with slipNotice := none } } := by
  intro pressure
  have hnotice : (Machine.measure raw s).mfe.slipNotice = some pressure := by
    rw [measure_mfe, ((readings_slip raw hctx hchecked).2 hlow).2, hslip]
    rfl
  refine ⟨hnotice, ?_⟩
  simp only [takeFinding, takeClampSlip, hnotice]
  refine takeFault_abortable _ _ ?_
  change (Machine.measure raw s).wsq.seq.abortable = true
  rw [measure_seq]
  exact slipChecked_abortable hchecked

/-- R93: a stroke limit that the order names first. -/
theorem limit_first {raw : Samples} {s : State} {c : WeldCtx} {stall : Option Int} (hctx : s.ctx = some c)
    (hreg : s.wsq.seq.regulated = true)
    (hlong : ((s.bank c.bank).image.strokeLimit : Int) ≤ (takeInput .position raw.position s.mfe.inputs.position).value) :
    takeFinding s.wsq.seq stall (Machine.measure raw s) .limit = abortWeld .burnShort
      (some (takeInput .position raw.position s.mfe.inputs.position).value) (Machine.measure raw s) := by
  simp only [takeFinding, takeStrokeLimit]
  rw [measure_position_eq, measure_sched, sched_of_ctx hctx, measure_seq, if_pos ⟨hreg, hlong, .inl rfl⟩]
  exact takeFault_abortable _ _ (by rw [measure_seq]; exact regulated_abortable hreg)

/-- R11: a stall found in the states that check it, and named first. -/
theorem stall_first {raw : Samples} {s : State} {v : Int} (hreg : s.wsq.seq.regulated = true)
    (hwindow : (Machine.measure raw s).mfe.stall ≠ []) :
    takeFinding s.wsq.seq (some v) (Machine.measure raw s) .stall = abortWeld .platenStall (some v)
      { Machine.measure raw s with
        mfe := { (Machine.measure raw s).mfe with stall := [] }, wsq := { (Machine.measure raw s).wsq with lock := true } } := by
  have hseq := measure_seq raw s
  generalize Machine.measure raw s = m at *
  simp only [takeFinding, takePlatenStall]
  rw [if_pos (.inl ⟨by rw [hseq]; exact hreg, hwindow⟩)]
  exact takeFault_abortable _ _ (by rw [hseq]; exact regulated_abortable hreg)

/-- R11: a full window, one sample after 199, and the advance over it. -/
theorem stallOf_full {gone rest : List (Int × Int)} {old : Int × Int} {v p : Int} (hlen : rest.length = 198)
    (hslow : 4 * (1000 * (p - old.2)) < ((old :: rest).map (·.1)).sum + v) :
    let w := (gone ++ old :: rest) ++ [(v, p)]
    stallOf (w.drop (w.length - 200)) = some (p - old.2) ∧ w.drop (w.length - 200) ≠ [] := by
  intro w
  have hdrop : w.drop (w.length - 200) = old :: rest ++ [(v, p)] := by
    have hw : w = gone ++ (old :: rest ++ [(v, p)]) := by simp [w]
    have hcount : w.length - 200 = gone.length := by simp [w, hlen]
    rw [hcount, hw, List.drop_left]
  rw [hdrop]
  refine ⟨?_, by simp⟩
  have hlast : (old :: rest ++ [(v, p)]).getLast? = some (v, p) := List.getLast?_concat
  unfold stallOf
  rw [hlast]
  dsimp only [List.cons_append, List.head?_cons]
  refine if_pos ⟨by simp [stallSize, hlen], ?_⟩
  simpa [Int.add_assoc] using hslow

/-! ### The expiries and findings that abort -/

/-- R69: a slip's notice taken in STOPPING. -/
theorem takeClampSlip_stopping {s : State} {p : Int} (hnotice : s.mfe.slipNotice = some p) (hseq : s.wsq.seq = .stopping) :
    takeClampSlip s = enterFaultAs .stopping .clampSlip (some p) { s with mfe := { s.mfe with slipNotice := none } } := by
  unfold takeClampSlip
  rw [hnotice]
  exact takeFault_stopping _ _ hseq

theorem pairedForce_iff {s : State} {c : WeldCtx} (hctx : s.ctx = some c) (v : Int) : s.pairedForce = some v ↔
    ∃ (n : Nat) (live : Bool) (side : Option Side) (age : Nat) (st : TensorState) (force : Nat),
      c.pair = some n ∧ s.row n = .heard live side age (.tensor st force) ∧ v = force := by
  have hrow : s.pairedRow = c.pair.elim .empty s.row := by simp [State.pairedRow, State.pair, hctx]
  unfold State.pairedForce
  rw [hrow]
  constructor
  · intro h
    cases hp : c.pair with
    | none => simp [hp, PeerRow.tensorForce] at h
    | some n =>
      rw [hp, Option.elim_some] at h
      cases hr : s.row n with
      | empty => simp [hr, PeerRow.tensorForce] at h
      | heard live side age role =>
        cases role with
        | tensor st force =>
          refine ⟨n, live, side, age, st, force, rfl, hr, ?_⟩
          rw [hr] at h
          exact (Option.some.inj h).symm
        | _ => simp [hr, PeerRow.tensorForce] at h
  · rintro ⟨n, live, side, age, st, force, hp, hr, rfl⟩
    rw [hp, Option.elim_some, hr]
    rfl

/-- R10 to R12, R93: the abort that a sample's first finding takes, on the state measured with its notice dropped. -/
structure FirstAborts (raw : Samples) (s : State) (f : Finding) (kind : FaultKind) (i : Option Int) (u : State) : Prop where
  found : takeFinding s.wsq.seq (stallOf (Machine.measure raw s).mfe.stall) (Machine.measure raw s) f = abortWeld kind i u
  ctx   : u.ctx = (Machine.measure raw s).ctx
  seq   : u.wsq.seq = s.wsq.seq
  rst   : u.rst = s.rst
  input : u.mfe.inputs = (Machine.measure raw s).mfe.inputs

theorem FirstAborts.halting {raw : Samples} {s u : State} {c : WeldCtx} {f : Finding} {kind : FaultKind} {i : Option Int}
    (h : FirstAborts raw s f kind i u) (hctx : s.ctx = some c) : Halting kind i s (abortWeld kind i u) :=
  abortWeld_halting hctx (h.ctx.trans (measure_some raw hctx)) rfl rfl h.seq (congrArg Rst.log h.rst)

/-- R66: the sample aborts. -/
theorem FirstAborts.aborts {raw : Samples} {order : SampleOrder} {s u : State} {c : WeldCtx} {f : Finding}
    {kind : FaultKind} {i : Option Int} (h : FirstAborts raw s f kind i u) (hctx : s.ctx = some c)
    (hreset : s.pins.lineReset = false) (hstart : s.wsq.seq ≠ .stopping) :
    ∃ t, exec (.sample raw (f :: order)) s = .next t ∧ SampleAborted kind i s t ∧ Lingers (abortWeld kind i u) t := by
  obtain ⟨t, hexec, haborted, hlingers, -⟩ := sample_aborts (order := order) hreset hstart (h.found ▸ h.halting hctx)
  exact ⟨t, hexec, haborted, h.found ▸ hlingers⟩

/-- After the abort the schedule and the position are those of the sample. -/
theorem FirstAborts.reads {raw : Samples} {s u t : State} {c : WeldCtx} {f : Finding} {kind : FaultKind} {i : Option Int}
    (h : FirstAborts raw s f kind i u) (hctx : s.ctx = some c) (hl : Lingers (abortWeld kind i u) t) :
    t.sched = (s.bank c.bank).image ∧ t.position = (takeInput .position raw.position s.mfe.inputs.position).value := by
  have hu := h.ctx.trans (measure_some raw hctx)
  obtain ⟨hk, hp⟩ := lingers_of_abort hu hl
  refine ⟨hk.trans ?_, hp.trans ?_⟩
  · rw [sched_of_ctx hu, bank_of_rst h.rst]
  · rw [← measure_position_eq, State.position, State.input, h.input]
    rfl

/-- R69: the sample aborts, and another of its findings is entered late. -/
theorem FirstAborts.late {raw : Samples} {order : SampleOrder} {s u : State} {c : WeldCtx} {f g : Finding}
    {kind other : FaultKind} {i : Option Int} {P : State → Prop} (h : FirstAborts raw s f kind i u) (hctx : s.ctx = some c)
    (hreset : s.pins.lineReset = false) (hstart : s.wsq.seq ≠ .stopping)
    (hg : g ∈ order ∨ g = .stall ∨ g = .limit ∨ g = .phase) (hgf : g ≠ f) (hkind : other ≠ kind)
    (hkept : ∀ t u, Lingers t u → P t → P u)
    (htaken : ∀ t c', Lingers (abortWeld kind i u) t → t.wsq.seq = .stopping → t.ctx = some c' → Late other c c' →
      (g = .slip → t.mfe.slipNotice = u.mfe.slipNotice) →
      ∃ (j : Option Int) (t' : State), t'.ctx = t.ctx ∧ P (enterFaultAs .stopping other j t')
        ∧ takeFinding s.wsq.seq (stallOf (Machine.measure raw s).mfe.stall) t g = enterFaultAs .stopping other j t') :
    ∃ t, exec (.sample raw (f :: order)) s = .next t ∧ SampleAborted kind i s t ∧ ListedLate other c t ∧ P t := by
  obtain ⟨t, hexec, haborted, -, hreach⟩ := sample_aborts (order := order) hreset hstart (h.found ▸ h.halting hctx)
  rw [h.found] at hreach
  have hcu := h.ctx.trans (measure_some raw hctx)
  obtain ⟨c₀, hc₀, hlate₀⟩ := abortWeld_late (k := kind) (kind := other) (c := c) i hkind hcu rfl
  have hboth := hreach g (fun t => LateIn other c t ∧ P t) hg hgf
    (fun t u hl ⟨hlate, hP⟩ => ⟨hlate.lingers hl, hkept t u hl hP⟩) fun t hl hslip => by
      obtain ⟨c', hc', hweld⟩ := hl.weld c₀ hc₀
      have hlate := hlate₀.lingers hweld
      obtain ⟨j, t', ht', hP, htake⟩ := htaken t c' hl (hl.stays (h.halting hctx).seq) hc' hlate fun hg =>
        (hslip hg).trans (abortWeld_slipNotice _ _ _)
      rw [htake]
      exact ⟨enterFaultAs_late other j (ht'.trans hc') hlate, hP⟩
  exact ⟨t, hexec, haborted, hboth.1.listedLate, hboth.2⟩

theorem slip_firstAborts {raw : Samples} {s : State} {c : WeldCtx} (hctx : s.ctx = some c)
    (hchecked : s.wsq.seq.slipChecked = true) (hslip : s.mfe.slip = 49)
    (hlow : (takeInput .clampPressure raw.clampPressure s.mfe.inputs.clampPressure).value < (s.bank c.bank).image.clampMin) :
    FirstAborts raw s .slip .clampSlip
      (some (takeInput .clampPressure raw.clampPressure s.mfe.inputs.clampPressure).value)
      { Machine.measure raw s with mfe := { (Machine.measure raw s).mfe with slipNotice := none } } :=
  ⟨(slip_first hctx hchecked hslip hlow).2, rfl, measure_seq raw s, measure_rst raw s, rfl⟩

theorem limit_firstAborts {raw : Samples} {s : State} {c : WeldCtx} (hctx : s.ctx = some c)
    (hreg : s.wsq.seq.regulated = true)
    (hlong : ((s.bank c.bank).image.strokeLimit : Int) ≤ (takeInput .position raw.position s.mfe.inputs.position).value) :
    FirstAborts raw s .limit .burnShort (some (takeInput .position raw.position s.mfe.inputs.position).value)
      (Machine.measure raw s) :=
  ⟨limit_first hctx hreg hlong, rfl, measure_seq raw s, measure_rst raw s, rfl⟩

theorem stall_firstAborts {raw : Samples} {s : State} {v : Int} (hreg : s.wsq.seq.regulated = true)
    (hfound : stallOf (Machine.measure raw s).mfe.stall = some v) (hwindow : (Machine.measure raw s).mfe.stall ≠ []) :
    FirstAborts raw s .stall .platenStall (some v) { Machine.measure raw s with
      mfe := { (Machine.measure raw s).mfe with stall := [] }, wsq := { (Machine.measure raw s).wsq with lock := true } } :=
  ⟨by rw [hfound]; exact stall_first hreg hwindow, rfl, measure_seq raw s, measure_rst raw s, rfl⟩

/-- R11: a full window that is slow. -/
theorem measure_stalled {raw : Samples} {s : State} (hreg : s.wsq.seq.regulated = true) {gone rest : List (Int × Int)}
    {old : Int × Int} (hbackoff : s.frg.backoff = none) (hmoving : 10 ≤ s.mfe.set.velocity)
    (hwindow : s.mfe.stall = gone ++ old :: rest) (hlen : rest.length = 198)
    (hslow : 4 * (1000 * ((takeInput .position raw.position s.mfe.inputs.position).value - old.2))
      < ((old :: rest).map (·.1)).sum + s.mfe.set.velocity) :
    stallOf (Machine.measure raw s).mfe.stall
      = some ((takeInput .position raw.position s.mfe.inputs.position).value - old.2)
    ∧ (Machine.measure raw s).mfe.stall ≠ [] := by
  rw [measure_mfe, readings_stall_window raw hreg hbackoff hmoving, hwindow]
  exact stallOf_full hlen hslow

/-- R69: a stroke limit taken in STOPPING, at the sample that a regulated state began. -/
theorem takeStrokeLimit_stopping {start : SeqState} {t : State} (hreg : start.regulated = true)
    (hseq : t.wsq.seq = .stopping) (hlong : (t.sched.strokeLimit : Int) ≤ t.position) :
    takeStrokeLimit start t = enterFaultAs .stopping .burnShort (some t.position) t := by
  unfold takeStrokeLimit
  rw [if_pos ⟨hreg, hlong, .inr hseq⟩, takeFault_stopping _ _ hseq]

/-- R12: what a sample that takes no notice leaves of the slip count. -/
theorem quiet_slip {raw : Samples} {order : SampleOrder} {s : State} {c : WeldCtx} (hreset : s.pins.lineReset = false)
    (hctx : s.ctx = some c) (hchecked : s.wsq.seq.slipChecked = true) (hq : NoNotices order) :
    let k := (s.bank c.bank).image
    let pressure := (takeInput .clampPressure raw.clampPressure s.mfe.inputs.clampPressure).value
    ∃ t, exec (.sample raw order) s = .next t ∧
      ((k.clampMin : Int) ≤ pressure → t.mfe.slip = 0)
      ∧ (pressure < k.clampMin → t.wsq.seq.slipChecked = true →
        t.mfe.slip = min (s.mfe.slip + 1) 50
        ∧ t.mfe.slipNotice = if s.mfe.slip + 1 = 50 then some pressure else s.mfe.slipNotice) := by
  intro k pressure
  obtain ⟨hheld, hlow⟩ := readings_slip raw hctx hchecked
  have hkept : SlipKept (Machine.measure raw s) (takeFindings order (Machine.measure raw s)) :=
    takeFindings_slipKept hq (by rw [measure_seq]; exact hchecked)
  refine ⟨_, exec_sample_of_notReset raw order hreset, fun h => ?_, fun h hstays => ?_⟩
  · rw [gateCurrent_mfe_slip]
    rcases hkept with ⟨hslip, -, -⟩ | ⟨hslip, -⟩
    · rw [hslip, measure_mfe, hheld h]
    · exact hslip
  · rw [gateCurrent_wsq] at hstays
    rw [gateCurrent_mfe_slip, gateCurrent_mfe_slipNotice]
    rcases hkept with ⟨hslip, hnotice, -⟩ | ⟨-, hout⟩
    · rw [hslip, hnotice, measure_mfe]
      exact hlow h
    · rw [hout] at hstays
      cases hstays

/-- Settles O24: an expiry aborts at once; a finding named first aborts its sample, and the others are taken in STOPPING. -/
theorem expiriesAbortTheWeld : Obligations.ExpiriesAbortTheWeld := by
  intro s c hctx
  refine ⟨⟨fun hseq hdue => ?_, fun p hnotice ha => ?_, fun p hnotice => ⟨fun hseq => ?_, fun hseq => ?_⟩,
    fun hseq hstep hdue => ?_, fun hseq hdue => ?_, fun hseq hdue => ?_, fun hseq hdue => ?_⟩, fun raw order hreset => ?_⟩
  · exact expiry_aborts hctx (by rw [hseq]; rfl) ⟨hseq, hdue⟩
  · refine ⟨_, congrArg finish ?_, abortWeld_aborted _ _ { s with mfe := { s.mfe with slipNotice := none } } c hctx⟩
    unfold takeClampSlip
    rw [hnotice]
    exact takeFault_abortable _ _ ha
  · refine ⟨_, congrArg finish (takeClampSlip_stopping hnotice hseq), ?_⟩
    have := enterFault_entered .clampSlip (some p) { s with mfe := { s.mfe with slipNotice := none } } c hctx
    rwa [enterFault, show State.wsq { s with mfe := { s.mfe with slipNotice := none } } = s.wsq from rfl, hseq] at this
  · refine congrArg finish ?_
    unfold takeClampSlip
    rw [hnotice]
    dsimp only [takeFault]
    rcases hseq with h | h | h <;> simp only [h, SeqState.abortable, Bool.false_eq_true, if_false, reduceCtorEq]
  · exact expiry_aborts hctx (by rw [hseq]; rfl) ⟨hseq, hstep, hdue⟩
  · exact expiry_aborts hctx (by rw [hseq]; rfl) ⟨hseq, hdue⟩
  · exact expiry_aborts hctx (by rw [hseq]; rfl) ⟨hseq, hdue⟩
  · exact expiry_aborts hctx (by rcases hseq with h | h <;> rw [h] <;> rfl) ⟨hseq, hdue⟩
  intro k pressure position pressed
  have hpressed : pressed ↔ s.wsq.seq.slipChecked = true := (slipChecked_iff _).symm
  refine ⟨fun hin hq => ?_, fun hin hslip hlow => ?_, fun hin => ?_, pairedForce_iff hctx⟩
  · obtain ⟨t, hexec, hheld, hslips⟩ := quiet_slip hreset hctx (hpressed.mp hin) hq
    exact ⟨t, hexec, hheld, fun hlow hstays => hslips hlow ((slipChecked_iff _).mpr hstays)⟩
  · have hchecked := hpressed.mp hin
    obtain ⟨t, hexec, haborted, -⟩ := (slip_firstAborts hctx hchecked hslip hlow).aborts (order := order) hctx hreset
      (abortable_not_stopping (slipChecked_abortable hchecked))
    exact ⟨t, hexec, haborted⟩
  have hreg : s.wsq.seq.regulated = true := by
    revert hin
    cases s.wsq.seq <;> decide
  have hchecked : s.wsq.seq.slipChecked = true := by
    revert hin
    cases s.wsq.seq <;> decide
  have hstart := abortable_not_stopping (regulated_abortable hreg)
  refine ⟨fun hlong => ?_, fun gone rest old hbackoff hmoving hwindow hlen hslow => ?_, fun hslip hlow hlong => ?_⟩
  · obtain ⟨t, hexec, haborted, -⟩ := (limit_firstAborts hctx hreg hlong).aborts (order := order) hctx hreset hstart
    exact ⟨t, hexec, haborted⟩
  · obtain ⟨hfound, hfull⟩ := measure_stalled hreg hbackoff hmoving hwindow hlen hslow
    have hlate {t : State} (hseq : t.wsq.seq = .stopping) : ∃ (j : Option Int) (t' : State), t'.ctx = t.ctx
        ∧ (enterFaultAs .stopping .platenStall j t').wsq.lock = true
        ∧ takeFinding s.wsq.seq (stallOf (Machine.measure raw s).mfe.stall) t .stall
          = enterFaultAs .stopping .platenStall j t' :=
      ⟨_, { t with mfe := { t.mfe with stall := [] }, wsq := { t.wsq with lock := true } }, rfl, by simp,
        by rw [hfound]; exact takePlatenStall_stopping _ hseq⟩
    refine ⟨?_, fun hlong => ?_, fun hslip hlow => ?_⟩
    · obtain ⟨t, hexec, haborted, hl⟩ :=
        (stall_firstAborts hreg hfound hfull).aborts (order := order) hctx hreset hstart
      exact ⟨t, hexec, haborted, hl.lock (by simp [abortWeld, makeSafe_wsq])⟩
    · exact (limit_firstAborts hctx hreg hlong).late (P := fun t => t.wsq.lock = true) hctx hreset hstart (.inr (.inl rfl))
        (by decide) (by decide) (fun _ _ hl h => hl.lock h) fun t c' _ hseq _ _ _ => hlate hseq
    · exact (slip_firstAborts hctx hchecked hslip hlow).late (P := fun t => t.wsq.lock = true) hctx hreset hstart
        (.inr (.inl rfl)) (by decide) (by decide) (fun _ _ hl h => hl.lock h) fun t c' _ hseq _ _ _ => hlate hseq
  · refine ⟨?_, fun hnamed => ?_⟩
    · have hfirst := slip_firstAborts hctx hchecked hslip hlow
      obtain ⟨t, hexec, haborted, hlisted, -⟩ :=
        hfirst.late (order := order) (g := .limit) (other := .burnShort)
          (P := fun _ => True) hctx hreset hstart (.inr (.inr (.inl rfl))) (by decide) (by decide) (fun _ _ _ _ => trivial)
          fun t c' hl hseq _ _ _ => ⟨_, t, rfl, trivial, takeStrokeLimit_stopping hreg hseq (by
            obtain ⟨hk, hp⟩ := hfirst.reads hctx hl
            rw [hk, hp]
            exact hlong)⟩
      exact ⟨t, hexec, haborted, hlisted⟩
    · obtain ⟨t, hexec, haborted, hlisted, -⟩ :=
        (limit_firstAborts hctx hreg hlong).late (order := order) (g := .slip) (other := .clampSlip)
          (P := fun _ => True) hctx hreset hstart (.inl hnamed) (by decide) (by decide) (fun _ _ _ _ => trivial)
          fun t c' hl hseq _ _ hnotice => ⟨_, { t with mfe := { t.mfe with slipNotice := none } }, rfl, trivial,
            takeClampSlip_stopping ((hnotice rfl).trans (slip_first (start := .clamp) (stall := none) hctx hchecked hslip hlow).1)
              hseq⟩
      exact ⟨t, hexec, haborted, hlisted⟩

end Sys2Proof.Proofs.Aborts

/-! Freezes and their backoff (R7, R66, R91, R92); the statement FreezesAreCountedAndBackedOff. -/
namespace Sys2Proof.Proofs.Freezes
open Sys2Proof Sys2Proof.Machine Sys2Proof.Proofs.Samples Sys2Proof.Proofs.SampleReadings Sys2Proof.Proofs.Preheat
  Sys2Proof.Proofs.Outcomes Sys2Proof.Proofs.FlashBurn Sys2Proof.Proofs.SampleAborts Sys2Proof.Proofs.Aborts
  Sys2Proof.Proofs.Wires

set_option Elab.async false

/-! ### A freeze is counted -/

/-- R91: a freeze counted and raised. -/
def freezeTaken (s : State) : State :=
  activate .freeze (s.mapProgress (fun p => { p with freezeCount := p.freezeCount + 1 }))

theorem freezeTaken_ctx {s : State} {c : WeldCtx} (h : s.ctx = some c) : ∃ cut, (freezeTaken s).ctx = some { c with
    progress := { c.progress with freezeCount := c.progress.freezeCount + 1 }, truncated := cut } :=
  activate_cut (s := s.mapProgress (fun p => { p with freezeCount := p.freezeCount + 1 }))
    (c := { c with progress := { c.progress with freezeCount := c.progress.freezeCount + 1 } }) _ (by simp [h])

theorem freezeTaken_wsq (s : State) : (freezeTaken s).wsq = s.wsq := by simp [freezeTaken]
theorem freezeTaken_mfe (s : State) : (freezeTaken s).mfe = s.mfe := by simp [freezeTaken]
theorem freezeTaken_frg (s : State) : (freezeTaken s).frg = s.frg := by simp [freezeTaken]
theorem freezeTaken_rst (s : State) : (freezeTaken s).rst = s.rst := by simp [freezeTaken]

theorem freezeTaken_sched {s : State} {c : WeldCtx} (h : s.ctx = some c) :
    (freezeTaken s).sched = (s.bank c.bank).image := by
  obtain ⟨cut, hcut⟩ := freezeTaken_ctx h
  rw [sched_of_ctx hcut, bank_of_rst (freezeTaken_rst s)]

/-- R91: above the freeze limit the freeze aborts, and up to it a backoff begins. -/
theorem takeFreeze_cases {s : State} {c : WeldCtx} (h : s.ctx = some c) (ha : s.wsq.seq.abortable = true) :
    ((s.bank c.bank).image.freezeLimit < c.progress.freezeCount + 1 →
      takeFreeze s = abortWeld .freeze (some (c.progress.freezeCount + 1 : Nat)) (freezeTaken s))
    ∧ (c.progress.freezeCount + 1 ≤ (s.bank c.bank).image.freezeLimit → takeFreeze s = beginBackoff (freezeTaken s)) := by
  obtain ⟨cut, hcut⟩ := freezeTaken_ctx h
  have hcount : (freezeTaken s).freezeCount = c.progress.freezeCount + 1 := by simp [State.freezeCount, hcut]
  have hcase : takeFreeze s = if (s.bank c.bank).image.freezeLimit < c.progress.freezeCount + 1 then
      takeFault .freeze (some (c.progress.freezeCount + 1 : Nat)) (freezeTaken s) else beginBackoff (freezeTaken s) := by
    rw [← freezeTaken_sched h, ← hcount]
    rfl
  rw [hcase]
  refine ⟨fun hover => ?_, fun hless => if_neg (by omega)⟩
  rw [if_pos hover]
  exact takeFault_abortable _ _ (by rw [freezeTaken_wsq]; exact ha)

/-- R91: a notice taken in FLASH or BOOST. -/
theorem takeFreezeNotice_flashing {s : State} (hnotice : 0 < s.mfe.freezeNotices)
    (hseq : s.wsq.seq = .flash ∨ s.wsq.seq = .boost) : takeFreezeNotice s =
      takeFreeze { s with mfe := { s.mfe with freezeNotices := s.mfe.freezeNotices - 1 } } := by
  unfold takeFreezeNotice
  rw [if_neg (by omega)]
  exact if_pos hseq

theorem flashing_abortable {st : SeqState} (h : st = .flash ∨ st = .boost) : st.abortable = true := by
  rcases h with rfl | rfl <;> rfl

theorem flashing_regulated {st : SeqState} (h : st = .flash ∨ st = .boost) : st.regulated = true := by
  rcases h with rfl | rfl <;> rfl

theorem flashing_open {s : State} (h : s.wsq.seq = .flash ∨ s.wsq.seq = .boost) : s.gateOpen = true :=
  (gateOpen_iff s).mpr (.inr (h.imp_right .inl))

/-! ### The samples of a backoff -/

/-- R92: the law of FLASH and BOOST in a backoff. -/
theorem backoff_law {s : State} {c : WeldCtx} {b : Backoff} (hctx : s.ctx = some c)
    (hseq : s.wsq.seq = .flash ∨ s.wsq.seq = .boost) (hback : s.frg.backoff = some b) :
    let k := (s.bank c.bank).image
    let demand := (if s.wsq.seq = .flash then k.iFlash else k.iBoost) * c.share / 1000
    phaseLaw s.wsq.seq s = { s with
      mfe := { s.mfe with set := { s.mfe.set with current := demand, velocity := -300 } }
      frg := { s.frg with backoff := if s.position ≤ max (b.start - k.dB) 0 then none else some b } } := by
  intro k demand
  have hsched : s.sched = k := sched_of_ctx hctx
  have hlaw : phaseLaw s.wsq.seq s = backoffSample b (s.mapSet (fun o => { o with current := demand })) := by
    rcases hseq with h | h
    · rw [h]
      simp only [phaseLaw, flashSample, hback, hsched, scaled_of_ctx hctx, demand, h, if_true]
    · rw [h]
      simp only [phaseLaw, boostSample, hback, hsched, scaled_of_ctx hctx, demand, h, reduceCtorEq, if_false]
  have hsched' : (s.mapSet (fun o => { o with current := demand })).sched = k := hsched
  have hposition : (s.mapSet (fun o => { o with current := demand })).position = s.position := rfl
  rw [hlaw]
  unfold backoffSample
  rw [hsched', hposition]
  dsimp only
  split
  · rfl
  · show { s with mfe := _, frg := s.frg } = _
    rw [← hback]
    rfl

theorem takePlatenStall_emptied (found : Option Int) {s : State} (hstall : s.mfe.stall = [])
    (hseq : s.wsq.seq ≠ .stopping) : takePlatenStall found s = s := by
  cases found with
  | none => rfl
  | some v =>
    unfold takePlatenStall
    dsimp only
    rw [if_neg (by simp [hstall, hseq]), ← hstall]

/-- The law of the phase is the one finding that acts, where neither the stall nor the limit does before it or after. -/
theorem foldl_phase {start : SeqState} {stall : Option Int} {fs : List Finding} (hnodup : fs.Nodup)
    (hquiet : ∀ f ∈ fs, f = .stall ∨ f = .limit ∨ f = .phase) (hphase : .phase ∈ fs) {s : State}
    (hidle : ∀ t, t = s ∨ t = takePhase start s → takePlatenStall stall t = t ∧ takeStrokeLimit start t = t) :
    fs.foldl (takeFinding start stall) s = takePhase start s := by
  have hskip : ∀ (gs : List Finding), (∀ f ∈ gs, f = .stall ∨ f = .limit) → ∀ t, t = s ∨ t = takePhase start s →
      gs.foldl (takeFinding start stall) t = t := by
    intro gs hgs t ht
    induction gs with
    | nil => rfl
    | cons g gs ih =>
      have hone : takeFinding start stall t g = t := by
        rcases hgs g (.head _) with rfl | rfl
        · exact (hidle t ht).1
        · exact (hidle t ht).2
      rw [List.foldl_cons, hone]
      exact ih fun f hf => hgs f (.tail _ hf)
  obtain ⟨before, after, rfl, hno⟩ := List.eq_append_cons_of_mem hphase
  obtain ⟨-, hrest, -⟩ := List.nodup_append.mp hnodup
  have hlast : Finding.phase ∉ after := (List.nodup_cons.mp hrest).1
  have hother {gs : List Finding} (hin : ∀ f ∈ gs, f ∈ before ++ .phase :: after) (hnot : Finding.phase ∉ gs) :
      ∀ f ∈ gs, f = .stall ∨ f = .limit := fun f hf => by
    rcases hquiet f (hin f hf) with h | h | h
    · exact .inl h
    · exact .inr h
    · exact absurd (h ▸ hf) hnot
  rw [List.foldl_append, hskip before (hother (fun f hf => by simp [hf]) hno) s (.inl rfl), List.foldl_cons]
  exact hskip after (hother (fun f hf => by simp [hf]) hlast) _ (.inr rfl)

/-- R10: with a backoff on, the sample empties the stall window. -/
theorem readings_stall_backoff (raw : Samples) {s : State} {b : Backoff} (hback : s.frg.backoff = some b) :
    (readings raw s).mfe.stall = [] := by
  have hslip (t : State) : (takeSlip t).mfe.stall = t.mfe.stall := by
    unfold takeSlip
    repeat' split
    all_goals rfl
  obtain ⟨e, he⟩ := takeEnergy_shape (takeShort { tickAll s with mfe := inputsTaken raw s })
  have hineligible : ∀ t : State, t.frg = s.frg.tick → (takeStall t).mfe.stall = [] := fun t hfrg => by
    simp [takeStall, State.stallEligible, hfrg, Frg.tick, hback]
  rw [readings_eq_slip, hslip, beforeSlip, he]
  exact hineligible _ rfl

/-- R7: the freeze notices after a sample's measurement. -/
theorem measure_freezeNotices (raw : Samples) {s : State} {c : WeldCtx} (hctx : s.ctx = some c)
    (h : 0 < s.mfe.freezeNotices ∨ ((takeInput .voltage raw.voltage s.mfe.inputs.voltage).value < (s.bank c.bank).image.vShort
      ∧ ((s.bank c.bank).image.iShort : Int) < (takeInput .current raw.current s.mfe.inputs.current).value
      ∧ s.mfe.shortDuration + 1 = (s.bank c.bank).image.tFz)) : 0 < (Machine.measure raw s).mfe.freezeNotices := by
  obtain ⟨-, -, -, hnotices⟩ := readings_shorts raw s
  have hsched : State.sched { tickAll s with mfe := inputsTaken raw s } = (s.bank c.bank).image :=
    sched_of_ctx (s := { tickAll s with mfe := inputsTaken raw s }) hctx
  have hwas : (inputsTaken raw s).shortDuration = s.mfe.shortDuration
    ∧ (inputsTaken raw s).freezeNotices = s.mfe.freezeNotices := ⟨rfl, rfl⟩
  rw [measure_mfe, hnotices]
  simp only [takeShort, hsched, hwas.1, hwas.2]
  rcases h with h | ⟨hv, hi, hd⟩
  · split <;> omega
  · have hshorted : State.sampleShorted { tickAll s with mfe := inputsTaken raw s } = true :=
      (taken_shorted_iff hctx).mpr ⟨hv, hi⟩
    rw [hshorted, hd]
    simp

/-- R92: the sample of a backoff: the law of the phase alone, on what the sample has measured. -/
theorem backoff_sample {raw : Samples} {order : SampleOrder} {s : State} {c : WeldCtx} {b : Backoff}
    (hreset : s.pins.lineReset = false) (hctx : s.ctx = some c) (hseq : s.wsq.seq = .flash ∨ s.wsq.seq = .boost)
    (hq : NoNotices order) (hback : s.frg.backoff = some b)
    (hshort : (takeInput .position raw.position s.mfe.inputs.position).value < (s.bank c.bank).image.strokeLimit) :
    exec (.sample raw order) s = .next (phaseLaw s.wsq.seq (Machine.measure raw s))
    ∧ (phaseLaw s.wsq.seq (Machine.measure raw s)).wsq.seq = s.wsq.seq := by
  have hstall : (Machine.measure raw s).mfe.stall = [] := by
    rw [measure_mfe, readings_stall_backoff raw hback]
  have hfound := takeFindings_regulated raw hq hctx (flashing_regulated hseq) (by rw [hstall]; rfl) hshort
  have hmback : (Machine.measure raw s).frg.backoff = some { b with timer := b.timer.tick } := by
    rw [measure_frg]
    simp [Frg.tick, hback]
  have hlaw := backoff_law (measure_some raw hctx) (by rw [measure_seq]; exact hseq) hmback
  rw [measure_seq] at hlaw
  have hstays : (phaseLaw s.wsq.seq (Machine.measure raw s)).wsq.seq = s.wsq.seq := by
    rw [hlaw]
    exact measure_seq raw s
  refine ⟨?_, hstays⟩
  rw [exec_sample_of_notReset raw order hreset, hfound, gateCurrent_open _ (flashing_open (by rw [hstays]; exact hseq))]

/-- R66, R91: the sample whose order names a freeze first. -/
theorem freeze_first {raw : Samples} {s : State} {stall : Option Int}
    (hseq : s.wsq.seq = .flash ∨ s.wsq.seq = .boost) (hnotice : 0 < (Machine.measure raw s).mfe.freezeNotices) :
    ∃ u : State, u.ctx = (Machine.measure raw s).ctx ∧ u.wsq.seq = s.wsq.seq ∧ u.rst = s.rst
      ∧ u.position = (takeInput .position raw.position s.mfe.inputs.position).value ∧ u.mfe.set = s.mfe.set
      ∧ takeFinding s.wsq.seq stall (Machine.measure raw s) .freeze = takeFreeze u := by
  refine ⟨{ Machine.measure raw s with
      mfe := { (Machine.measure raw s).mfe with freezeNotices := (Machine.measure raw s).mfe.freezeNotices - 1 } },
    rfl, measure_seq raw s, measure_rst raw s, measure_position_eq raw s, ?_, ?_⟩
  · change (Machine.measure raw s).mfe.set = _
    rw [measure_mfe, readings_set]
  · exact takeFreezeNotice_flashing hnotice (by rw [measure_seq]; exact hseq)

theorem beginBackoff_at {s : State} : (beginBackoff s).wsq = s.wsq ∧ (beginBackoff s).ctx = s.ctx
    ∧ (beginBackoff s).rst = s.rst ∧ (beginBackoff s).mfe.stall = [] ∧ (beginBackoff s).position = s.position
    ∧ (beginBackoff s).mfe.set = { s.mfe.set with velocity := -300 }
    ∧ (beginBackoff s).frg = { s.frg with
        backoff := some { start := s.position, timer := { length := 1000, elapsed := 0 } } } :=
  ⟨rfl, rfl, rfl, rfl, rfl, rfl, rfl⟩

/-- R92: what the sample of a backoff leaves. -/
theorem backoff_sample_at {raw : Samples} {s : State} {c : WeldCtx} {b : Backoff} (hctx : s.ctx = some c)
    (hseq : s.wsq.seq = .flash ∨ s.wsq.seq = .boost) (hback : s.frg.backoff = some b) :
    let k := (s.bank c.bank).image
    let p := (takeInput .position raw.position s.mfe.inputs.position).value
    let demand := (if s.wsq.seq = .flash then k.iFlash else k.iBoost) * c.share / 1000
    let t := phaseLaw s.wsq.seq (Machine.measure raw s)
    t.mfe.set = { s.mfe.set with current := demand, velocity := -300 } ∧ t.mfe.stall = []
    ∧ t.frg.backoff = if p ≤ max (b.start - k.dB) 0 then none
        else some { b with timer := { b.timer with elapsed := b.timer.elapsed + 1 } } := by
  intro k p demand t
  have hmback : (Machine.measure raw s).frg.backoff = some { b with timer := b.timer.tick } := by
    rw [measure_frg]
    simp [Frg.tick, hback]
  have hlaw := backoff_law (measure_some raw hctx) (by rw [measure_seq]; exact hseq) hmback
  have hbank : ((Machine.measure raw s).bank c.bank).image = k := congrArg Bank.image (bank_of_rst (measure_rst raw s) _)
  have hset : (Machine.measure raw s).mfe.set = s.mfe.set := by rw [measure_mfe, readings_set]
  have hstall : (Machine.measure raw s).mfe.stall = [] := by rw [measure_mfe, readings_stall_backoff raw hback]
  dsimp only at hlaw
  rw [measure_seq, measure_position_eq, hset] at hlaw
  simp only [t, hlaw, hbank, hstall]
  exact ⟨rfl, trivial, rfl⟩

theorem progressOf_freezeCount (s : State) (p : Progress) : (progressOf s p).freezeCount = p.freezeCount := by
  unfold progressOf
  repeat' split
  all_goals rfl

/-- R66, R91: a freeze above the limit, named first, aborts its sample. -/
theorem freeze_aborts {raw : Samples} {order : SampleOrder} {s : State} {c : WeldCtx} (hreset : s.pins.lineReset = false)
    (hctx : s.ctx = some c) (hseq : s.wsq.seq = .flash ∨ s.wsq.seq = .boost)
    (hnotice : 0 < (Machine.measure raw s).mfe.freezeNotices)
    (hover : (s.bank c.bank).image.freezeLimit < c.progress.freezeCount + 1) :
    ∃ t, exec (.sample raw (.freeze :: order)) s = .next t
      ∧ SampleAborted .freeze (some (c.progress.freezeCount + 1 : Nat)) s t := by
  obtain ⟨u, huctx, huseq, hurst, -, -, hfound⟩ :=
    freeze_first (stall := stallOf (Machine.measure raw s).mfe.stall) hseq hnotice
  have hctx' := huctx.trans (measure_some raw hctx)
  have habort := (takeFreeze_cases hctx' (by rw [huseq]; exact flashing_abortable hseq)).1
    (by rw [bank_of_rst hurst, progressOf_freezeCount]; exact hover)
  rw [progressOf_freezeCount] at habort
  obtain ⟨cut, hcut⟩ := freezeTaken_ctx hctx'
  have hhalt : Halting .freeze (some (c.progress.freezeCount + 1 : Nat)) s
      (abortWeld .freeze (some (c.progress.freezeCount + 1 : Nat)) (freezeTaken u)) :=
    abortWeld_halting hctx hcut rfl rfl (by rw [freezeTaken_wsq, huseq]) (by rw [freezeTaken_rst, hurst])
  obtain ⟨t, hexec, haborted, -⟩ := sample_aborts (order := order) hreset
    (abortable_not_stopping (flashing_abortable hseq)) ((hfound.trans habort) ▸ hhalt)
  exact ⟨t, hexec, haborted⟩

/-- R91, R92: a freeze up to the limit, named first, begins the backoff with its sample (log 41). -/
theorem freeze_backs_off {raw : Samples} {order : SampleOrder} {s : State} {c : WeldCtx} (hreset : s.pins.lineReset = false)
    (hctx : s.ctx = some c) (hseq : s.wsq.seq = .flash ∨ s.wsq.seq = .boost) (hq : NoNotices order)
    (hnotice : 0 < (Machine.measure raw s).mfe.freezeNotices) :
    let k := (s.bank c.bank).image
    let p := (takeInput .position raw.position s.mfe.inputs.position).value
    let demand := (if s.wsq.seq = .flash then k.iFlash else k.iBoost) * c.share / 1000
    c.progress.freezeCount + 1 ≤ k.freezeLimit → p < k.strokeLimit →
      ∃ t c', exec (.sample raw (.freeze :: order)) s = .next t ∧ t.ctx = some c' ∧ t.wsq.seq = s.wsq.seq
        ∧ c'.progress.freezeCount = c.progress.freezeCount + 1 ∧ t.mfe.stall = []
        ∧ t.mfe.set = { s.mfe.set with current := demand, velocity := -300 }
        ∧ t.frg.backoff = if p ≤ max (p - k.dB) 0 then none
            else some { start := p, timer := { length := 1000, elapsed := 0 } } := by
  intro k p demand hless hshort
  obtain ⟨u, huctx, huseq, hurst, hposition, hset, hfound⟩ :=
    freeze_first (stall := stallOf (Machine.measure raw s).mfe.stall) hseq hnotice
  have hctx' := huctx.trans (measure_some raw hctx)
  have hbegun := (takeFreeze_cases hctx' (by rw [huseq]; exact flashing_abortable hseq)).2
    (by rw [bank_of_rst hurst, progressOf_freezeCount]; exact hless)
  obtain ⟨cut, hcut⟩ := freezeTaken_ctx hctx'
  obtain ⟨bwsq, bctx, brst, bstall, bposition, bset, bfrg⟩ := beginBackoff_at (s := freezeTaken u)
  have hvseq : (beginBackoff (freezeTaken u)).wsq.seq = s.wsq.seq := by rw [bwsq, freezeTaken_wsq, huseq]
  have hvctx := bctx.trans hcut
  have hvbank : ((beginBackoff (freezeTaken u)).bank c.bank).image = k :=
    congrArg Bank.image (bank_of_rst (brst.trans ((freezeTaken_rst u).trans hurst)) _)
  have hvposition : (beginBackoff (freezeTaken u)).position = p := by
    rw [bposition, State.position, State.input, freezeTaken_mfe]
    exact hposition
  have hvset : (beginBackoff (freezeTaken u)).mfe.set = { s.mfe.set with velocity := -300 } := by
    rw [bset, freezeTaken_mfe, hset]
  have hvback : (beginBackoff (freezeTaken u)).frg.backoff
      = some { start := p, timer := { length := 1000, elapsed := 0 } } := by
    rw [bfrg, ← bposition, hvposition]
  have hvsched := sched_of_ctx hvctx
  generalize beginBackoff (freezeTaken u) = v at *
  have hlaw := backoff_law hvctx (by rw [hvseq]; exact hseq) hvback
  have hphase : takePhase s.wsq.seq v = phaseLaw v.wsq.seq v := by rw [takePhase_of_seq hvseq, hvseq]
  dsimp only at hlaw
  rw [hvseq, hvposition, hvset, hvbank] at hlaw
  rw [hvseq, hlaw] at hphase
  have hstart := abortable_not_stopping (flashing_abortable hseq)
  obtain ⟨rest, hsample, hnodup, hmem, hin⟩ := takeFindings_cons .freeze order (Machine.measure raw s)
  have hfold : rest.foldl (takeFinding s.wsq.seq (stallOf (Machine.measure raw s).mfe.stall)) v = takePhase s.wsq.seq v := by
    refine foldl_phase hnodup (fun f hf => ((hmem f hf).2).elim (hq f) id) (hin .phase (by simp) (by decide)) fun t ht => ?_
    have hsame : t.mfe.stall = [] ∧ t.wsq.seq ≠ .stopping ∧ t.position < t.sched.strokeLimit := by
      rcases ht with rfl | rfl
      · exact ⟨bstall, by rw [hvseq]; exact hstart, by rw [hvposition, hvsched, hvbank]; exact hshort⟩
      · rw [hphase]
        refine ⟨bstall, by rw [← hvseq] at hstart; exact hstart, ?_⟩
        change v.position < v.sched.strokeLimit
        rw [hvposition, hvsched, hvbank]
        exact hshort
    exact ⟨takePlatenStall_emptied _ hsame.1 hsame.2.1, takeStrokeLimit_short hsame.2.2⟩
  rw [measure_seq, hfound, hbegun, hfold, hphase] at hsample
  have hopen : (takeFindings (.freeze :: order) (Machine.measure raw s)).gateOpen = true :=
    flashing_open (by rw [hsample]; rw [← hvseq] at hseq; exact hseq)
  refine ⟨_, _, (exec_sample_of_notReset raw _ hreset).trans
    (congrArg Host.Outcome.next ((gateCurrent_open _ hopen).trans hsample)), hvctx, hvseq, ?_,
    bstall, rfl, rfl⟩
  exact congrArg (· + 1) (progressOf_freezeCount _ _)

/-- A freeze notice dropped. -/
def freezeDropped (s : State) : State := { s with mfe := { s.mfe with freezeNotices := s.mfe.freezeNotices - 1 } }

/-- R91: what FREEZE_NOTICE leaves in FLASH and BOOST. -/
theorem freezeNotice_at {s : State} {c : WeldCtx} (hnotice : 0 < s.mfe.freezeNotices) (hctx : s.ctx = some c)
    (hseq : s.wsq.seq = .flash ∨ s.wsq.seq = .boost) :
    ∃ t c', exec .freezeNotice s = .next t ∧ t.ctx = some c'
      ∧ c'.progress = { c.progress with freezeCount := c.progress.freezeCount + 1 }
      ∧ t.mfe.freezeNotices = s.mfe.freezeNotices - 1
      ∧ (c.progress.freezeCount + 1 ≤ (s.bank c.bank).image.freezeLimit →
          t.wsq = s.wsq ∧ t.mfe.set = { s.mfe.set with velocity := -300 } ∧ t.mfe.stall = []
          ∧ t.frg.backoff = some { start := s.position, timer := { length := 1000, elapsed := 0 } }
          ∧ t.frg = { s.frg with backoff := t.frg.backoff })
      ∧ ((s.bank c.bank).image.freezeLimit < c.progress.freezeCount + 1 →
          t.wsq.seq = .stopping ∧ c'.abortKind = some .freeze ∧ t.frg.backoff = none
          ∧ t.mfe.set = { current := 0, velocity := 0, force := 0, clamp := .opn }) := by
  have hexec : exec .freezeNotice s = .next (gateCurrent (takeFreeze (freezeDropped s))) :=
    congrArg finish (takeFreezeNotice_flashing hnotice hseq)
  obtain ⟨hover, hless⟩ := takeFreeze_cases (s := freezeDropped s) hctx (flashing_abortable hseq)
  obtain ⟨cut, hcut⟩ := freezeTaken_ctx (s := freezeDropped s) hctx
  have hbank : (freezeDropped s).bank c.bank = s.bank c.bank := bank_of_rst rfl c.bank
  have hmfe := freezeTaken_mfe (freezeDropped s)
  have hwsq : (freezeTaken (freezeDropped s)).wsq = s.wsq := freezeTaken_wsq (freezeDropped s)
  have hfrg : (freezeTaken (freezeDropped s)).frg = s.frg := freezeTaken_frg (freezeDropped s)
  rw [hbank] at hover hless
  rw [hexec]
  generalize freezeTaken (freezeDropped s) = w at *
  by_cases hlimit : c.progress.freezeCount + 1 ≤ (s.bank c.bank).image.freezeLimit
  · obtain ⟨bwsq, bctx, -, bstall, -, bset, bfrg⟩ := beginBackoff_at (s := w)
    have hposition : w.position = s.position := by
      rw [State.position, State.input, hmfe]
      rfl
    have hopen : (beginBackoff w).gateOpen = true := flashing_open (by rw [bwsq, hwsq]; exact hseq)
    rw [hless hlimit, gateCurrent_open _ hopen]
    refine ⟨_, _, rfl, bctx.trans hcut, rfl, congrArg Mfe.freezeNotices hmfe,
      fun _ => ⟨bwsq.trans hwsq, ?_, bstall, ?_, ?_⟩, fun h => absurd hlimit (by omega)⟩
    · rw [bset, hmfe]
      rfl
    · rw [bfrg, hposition]
    · rw [bfrg, hfrg]
  · have ha := abortWeld_aborted .freeze (some (c.progress.freezeCount + 1 : Nat)) w _ hcut
    obtain ⟨x, c', hx, hc', hsame, -⟩ := ha.context
    cases hcut.symm.trans hx
    obtain ⟨faults, full, hshape⟩ := addFault_shape .freeze w.wsq.seq
      { c with progress := { c.progress with freezeCount := c.progress.freezeCount + 1 }, truncated := cut }
    have hnot : w.wsq.seq ≠ .preheat := by
      rw [hwsq]
      rcases hseq with h | h <;> simp [h]
    rw [if_neg hnot, hshape] at hsame
    rw [hover (by omega)]
    refine ⟨_, c', rfl, hc', ?_⟩
    rw [ha.mfe, ha.frg, ha.wsq, hsame]
    exact ⟨rfl, congrArg Mfe.freezeNotices hmfe, fun h => absurd h hlimit, fun _ => ⟨rfl, rfl, rfl, rfl⟩⟩

/-- Settles O19: at its notice, at its samples, and named first in a sample. -/
theorem freezesAreCountedAndBackedOff : Obligations.FreezesAreCountedAndBackedOff := by
  refine ⟨fun s c hnotice hctx hseq => ?_, fun s hnotice hflash hboost => ?_, fun s hnone => ?_, fun s b hback hdue => ?_,
    fun s hback => ?_, fun raw order s c hreset hctx hseq hq => ?_⟩
  · exact freezeNotice_at hnotice hctx hseq
  · refine congrArg finish ?_
    unfold takeFreezeNotice
    rw [if_neg (by omega)]
    exact if_neg (by simp [hflash, hboost])
  · refine congrArg finish ?_
    unfold takeFreezeNotice
    rw [if_pos hnone]
  · exact finish_turn (by simpa [hback, Timer.due] using hdue)
  · exact finish_ite_neg (by simp [hback])
  intro k p demand frozen
  refine ⟨fun b hback hshort => ?_, fun hfreeze => ?_⟩
  · obtain ⟨hexec, hstays⟩ := backoff_sample hreset hctx hseq hq hback hshort
    exact ⟨_, hexec, hstays, backoff_sample_at hctx hseq hback⟩
  · have hnotice := measure_freezeNotices raw hctx hfreeze
    exact ⟨freeze_aborts hreset hctx hseq hnotice, freeze_backs_off hreset hctx hseq hq hnotice⟩

end Sys2Proof.Proofs.Freezes

/-! The upset and the hold (R98 to R109, R127, R140): what ends a stroke, what HOLD begins with and what ends it; the
statements UpsetTimerEndsHeatAndStroke, HoldEndsInLetGoOrUnclamp and FlashFollowsTheVelocityLaw. -/
namespace Sys2Proof.Proofs.Upset
open Sys2Proof Sys2Proof.Machine Sys2Proof.Proofs.Samples Sys2Proof.Proofs.SampleReadings Sys2Proof.Proofs.Preheat
  Sys2Proof.Proofs.Outcomes Sys2Proof.Proofs.FlashBurn Sys2Proof.Proofs.SampleAborts Sys2Proof.Proofs.Aborts

set_option Elab.async false

/-! ### The entries of one kind in the fault list -/

/-- R71: a kind that is entered leaves the entries of every other kind. -/
theorem addFault_others {k : FaultKind} {p : SeqState} {c : WeldCtx} {e : FaultEntry} (h : e ∈ (c.addFault k p).1.faults)
    (hne : e.kind ≠ k) : e ∈ c.faults := by
  unfold WeldCtx.addFault at h
  repeat' split at h
  · obtain ⟨x, hx, hxe⟩ := List.mem_map.mp h
    split at hxe
    next hk => exact absurd (by rw [← hxe]; simpa using hk) hne
    next => exact hxe ▸ hx
  · exact h
  · rcases List.mem_append.mp h with h | h
    · exact h
    · exact absurd (by rw [List.mem_singleton.mp h]) hne
  · exact h

/-- R71: a kind that the list did not hold stands there with its phase, counted once. -/
theorem addFault_fresh {k : FaultKind} {p : SeqState} {c : WeldCtx} (hno : k ∉ c.faults.map (·.kind)) {e : FaultEntry}
    (h : e ∈ (c.addFault k p).1.faults) (hk : e.kind = k) : e.phase = p ∧ e.count = 1 := by
  have hnone : c.faults.find? (fun x => x.kind == k) = none := by
    rw [List.find?_eq_none]
    intro x hx hxk
    exact hno (List.mem_map.mpr ⟨x, hx, by simpa using hxk⟩)
  have hold : e ∉ c.faults := fun he => hno (List.mem_map.mpr ⟨e, he, hk⟩)
  unfold WeldCtx.addFault at h
  rw [hnone] at h
  dsimp only at h
  split at h
  · rcases List.mem_append.mp h with h | h
    · exact absurd h hold
    · rw [List.mem_singleton.mp h]
      exact ⟨rfl, rfl⟩
  · exact absurd h hold

/-! ### HOLD entered -/

/-- R106, R107: what the entry to HOLD leaves. -/
structure HoldEntered (c : WeldCtx) (s t : State) : Prop where
  wsq     : t.wsq = { s.wsq with
    seq := .hold, upsetTimer := none, holdTimer := some { length := s.sched.tH * 1000, elapsed := 0 }, holdTicks := 0
    holdBroken := s.tensioned && !s.gateHolds }
  mfe     : t.mfe = { s.mfe with
    set := { current := 0, velocity := 0, force := s.sched.fH, clamp := .keep }, slip := 0, stall := [], slipNotice := none }
  frg     : t.frg = s.frg
  clu     : t.clu = s.clu
  whole   : s.tensioned = false → t.tnl = s.tnl
  watched : s.tensioned = true → t.tnl = { s.tnl with watch := .hold, gateMet := s.gateHolds }
  logged  : s.tensioned = true → s.gateHolds = false → t.rst.log = s.rst.log.file
    { kind := .holdBroken, state := .hold, weldNumber := some c.weldNumber, input := s.pairedForce }
  context : ∃ faults full cut, t.ctx = some { c with
      phaseReached := .hold, progress := { c.progress with holdElapsed := 0 }, faults := faults, overflow := full
      truncated := cut }
    ∧ (∀ j, Listed j c → Listed j { c with faults := faults, overflow := full })
    ∧ (∀ e ∈ faults, e.kind ≠ .holdBroken → e ∈ c.faults)
    ∧ (s.tensioned = true → s.gateHolds = false → Listed .holdBroken { c with faults := faults, overflow := full }
      ∧ (.holdBroken ∉ c.faults.map (·.kind) → ∀ e ∈ faults, e.kind = .holdBroken → e.phase = .hold ∧ e.count = 1))
    ∧ (s.tensioned = false ∨ s.gateHolds = true → faults = c.faults ∧ full = c.overflow)

theorem enterHold_entered {s : State} {c : WeldCtx} (h : s.ctx = some c) : HoldEntered c s (enterHold s) := by
  obtain ⟨cut, hc1⟩ := enterState_forward (st := .hold) rfl h
  have hsched := enterState_sched .hold h
  unfold enterHold
  extract_lets s1 m1 w1 s2 s3
  have hctx2 : s2.ctx = some { c with
      phaseReached := .hold, progress := { c.progress with holdElapsed := 0 }, truncated := cut } := by
    simp [s2, s1, hc1]
  have hsched2 : s2.sched = s.sched := by
    rw [← hsched, sched_of_ctx hctx2, sched_of_ctx hc1]
    exact congrArg Bank.image (bank_of_rst (by simp [s2, s1]) _)
  obtain ⟨hgate, -, hforce⟩ := gate_of_same h hctx2 rfl rfl hsched2 (by simp [s2, s1])
  have htensioned : s2.tensioned = s.tensioned := by simp [State.tensioned, h, hctx2]
  have hw2 : s2.wsq = { s.wsq with
      seq := .hold, upsetTimer := none, holdTimer := some { length := s.sched.tH * 1000, elapsed := 0 }, holdTicks := 0
      holdBroken := false } := by simp [s2, w1, s1, startTimer]
  have hm2 : s2.mfe = { s.mfe with
      set := { current := 0, velocity := 0, force := s.sched.fH, clamp := .keep }, slip := 0, stall := []
      slipNotice := none } := by simp [s2, m1, s1, SeqState.slipChecked, SeqState.regulated]
  have hf2 : s2.frg = s.frg := by simp [s2, s1]
  have hk2 : s2.clu = s.clu := by simp [s2, s1]
  have ht2 : s2.tnl = s.tnl := by simp [s2, s1]
  have hr2 : s2.rst = s.rst := by simp [s2, s1]
  have hs3 : s3 = { s2 with tnl := { s2.tnl with watch := .hold, gateMet := s2.gateHolds } } := rfl
  clear_value s2
  clear s1 m1 w1
  rw [htensioned]
  cases hmode : s.tensioned
  · rw [if_neg (by decide)]
    refine ⟨by rw [hw2, hmode]; rfl, hm2, hf2, hk2, fun _ => ht2, fun hno => absurd hno (by simp [hmode]),
      fun hno => absurd hno (by simp [hmode]), ?_⟩
    exact ⟨c.faults, c.overflow, cut, hctx2, fun _ hj => hj, fun _ he _ => he, fun hno => absurd hno (by simp [hmode]),
      fun _ => ⟨rfl, rfl⟩⟩
  rw [if_pos rfl, hs3, hgate]
  cases hmet : s.gateHolds
  · rw [if_neg (by simp), holdBroken, if_neg (by simp [hw2])]
    have hpaired : State.pairedForce { s2 with tnl := { s2.tnl with watch := .hold, gateMet := false } } = s.pairedForce :=
      hforce
    have hseq : State.wsq { s2 with tnl := { s2.tnl with watch := .hold, gateMet := false } }
        = s2.wsq := rfl
    rw [hpaired, enterFault, hseq, show s2.wsq.seq = .hold by rw [hw2]]
    generalize hs4 : ({ s2 with tnl := { s2.tnl with watch := .hold, gateMet := false } } : State) = s4
    have hctx4 : s4.ctx = _ := (congrArg State.ctx hs4).symm.trans hctx2
    obtain ⟨cut', hcut'⟩ := enterFaultAs_cut .hold .holdBroken s.pairedForce hctx4
    obtain ⟨faults, full, hshape⟩ := addFault_shape .holdBroken .hold { c with
      phaseReached := .hold, progress := { c.progress with holdElapsed := 0 }, truncated := cut }
    have hlists := addFault_lists .holdBroken .hold { c with
      phaseReached := .hold, progress := { c.progress with holdElapsed := 0 }, truncated := cut }
    have hothers {e : FaultEntry} := addFault_others (k := .holdBroken) (p := .hold) (e := e) (c := { c with
      phaseReached := .hold, progress := { c.progress with holdElapsed := 0 }, truncated := cut })
    have hfresh (hno) {e : FaultEntry} := addFault_fresh (k := .holdBroken) (p := .hold) (e := e) (c := { c with
      phaseReached := .hold, progress := { c.progress with holdElapsed := 0 }, truncated := cut }) hno
    rw [hshape] at hcut' hlists
    rw [hshape] at hothers
    rw [hshape] at hfresh
    refine ⟨?_, ?_, ?_, ?_, fun hno => absurd hno (by simp [hmode]), fun _ => ?_, fun _ _ => ?_,
      faults, full, cut', hcut', hlists.2, fun e he hne => hothers he hne,
      fun _ _ => ⟨hlists.1, fun hno e he hk => hfresh hno he hk⟩, fun hno => by simp [hmode, hmet] at hno⟩
    · dsimp only
      rw [enterFaultAs_wsq, ← hs4, hw2, hmode, hmet]
      rfl
    · dsimp only
      rw [enterFaultAs_mfe, ← hs4, hm2]
    · dsimp only
      rw [enterFaultAs_frg, ← hs4, hf2]
    · dsimp only
      rw [enterFaultAs_clu, ← hs4, hk2]
    · dsimp only
      rw [enterFaultAs_tnl, ← hs4, hmet, ht2]
    · dsimp only
      rw [(enterFaultAs_ctx _ _ _ _ _ hctx4).2, ← hs4, hr2, hw2]
  · rw [if_pos rfl]
    refine ⟨by rw [hw2, hmode, hmet]; rfl, hm2, hf2, hk2, fun hno => absurd hno (by simp [hmode]),
      fun _ => by rw [← ht2, hmet], fun _ hno => absurd hno (by simp [hmet]), ?_⟩
    exact ⟨c.faults, c.overflow, cut, hctx2, fun _ hj => hj, fun _ he _ => he, fun _ hno => absurd hno (by simp [hmet]),
      fun _ => ⟨rfl, rfl⟩⟩

/-- What HOLD reads when it is entered on the state `w`, worked in UPSET from the weld `c` of the state `s`. -/
structure Upsetting (c : WeldCtx) (s : State) (cw : WeldCtx) (w : State) : Prop where
  ctx    : w.ctx = some cw
  number : cw.weldNumber = c.weldNumber
  mode   : cw.mode = c.mode
  abort  : cw.abortKind = c.abortKind
  sched  : w.sched = (s.bank c.bank).image
  gate   : w.gateHolds = s.gateHolds
  force  : w.pairedForce = s.pairedForce
  broken : ∀ e ∈ cw.faults, e.kind = .holdBroken → e ∈ c.faults
  whole  : c.mode = .free → w.tnl.watch = s.tnl.watch ∧ w.tnl.gateMet = s.tnl.gateMet

theorem tensioned_of {s : State} {c : WeldCtx} (h : s.ctx = some c) : s.tensioned = (c.mode == .tensioned) := by
  simp [State.tensioned, h]

theorem holdBegun_of {c cw : WeldCtx} {s w : State} (h : Upsetting c s cw w) : HoldBegun c s (gateCurrent (enterHold w)) := by
  have he := enterHold_entered h.ctx
  have htensioned : w.tensioned = (c.mode == .tensioned) := by rw [tensioned_of h.ctx, h.mode]
  obtain ⟨faults, full, cut, hctx, -, hothers, hbroken, hwhole⟩ := he.context
  refine ⟨?_, ?_, ?_, ?_, ⟨_, (gateCurrent_ctx _).trans hctx, rfl, rfl, h.abort, fun hm hno => ?_, fun hin => ?_⟩,
    fun hm => ?_, fun hm hno => ?_, fun hm => ?_⟩
  · rw [gateCurrent_wsq, he.wsq]
  · rw [gateCurrent_wsq, he.wsq, h.sched]
  · rw [gateCurrent_wsq, he.wsq]
  · rw [gateCurrent_mfe_set, he.mfe, h.sched]
  · obtain ⟨hlisted, hfresh⟩ := hbroken (by rw [htensioned, hm]; rfl) (h.gate.trans hno)
    refine ⟨hlisted, fun hnot => hfresh fun hin => hnot ?_⟩
    obtain ⟨e, he, hk⟩ := List.mem_map.mp hin
    exact List.mem_map.mpr ⟨e, h.broken e he hk, hk⟩
  · obtain ⟨hf, -⟩ := hwhole (hin.imp (fun hm => by rw [htensioned, hm]; rfl) h.gate.trans)
    intro e he hk
    exact h.broken e (hf ▸ he) hk
  · have ht : w.tensioned = true := by rw [htensioned, hm]; rfl
    rw [gateCurrent_wsq, gateCurrent_tnl, he.wsq, he.watched ht, h.gate, ht]
    exact ⟨rfl, rfl, rfl⟩
  · have ht : w.tensioned = true := by rw [htensioned, hm]; rfl
    refine ⟨w.rst.log, ?_⟩
    rw [gateCurrent_rst, he.logged ht (h.gate.trans hno), h.number, h.force]
  · have ht : w.tensioned = false := by rw [htensioned, hm]; rfl
    rw [gateCurrent_wsq, gateCurrent_tnl, he.wsq, he.whole ht, ht]
    exact ⟨rfl, h.whole hm⟩

/-! ### The end of the heat and of the stroke -/

/-- R100, R127: what the end of the heat leaves. -/
structure HeatOver (c : WeldCtx) (s t : State) : Prop where
  ctx   : ∃ cut, t.ctx = some { c with truncated := cut }
  wsq   : t.wsq = { s.wsq with tucExpired := true }
  mfe   : t.mfe = { s.mfe with set := { s.mfe.set with current := 0 } }
  frg   : t.frg = s.frg
  tnl   : t.tnl = s.tnl
  peers : t.lnp.peers = s.lnp.peers
  sched : t.sched = s.sched
  step  : t.clu.step = .idle
  claim : s.clu.step ≠ .idle → s.clu.step ≠ .waiting → s.clu.step ≠ .backoff → t.clu.ownClaim = 0

theorem heatOver_at {s : State} {c : WeldCtx} (h : s.ctx = some c) : HeatOver c s (heatOver s) := by
  have hkept : Welding c.weldNumber c.bank c.mode (s.bank c.bank).image (heatOver s) :=
    Invariants.yieldOwnClaim_keeps (I := weldInvariant _ _ _ _) (s := { s with
      mfe := { s.mfe with set := { s.mfe.set with current := 0 } }, wsq := { s.wsq with tucExpired := true } })
      ⟨⟨c, h, rfl, rfl, rfl⟩, rfl⟩
  have hover : heatOver s = yieldOwnClaim { s with
      mfe := { s.mfe with set := { s.mfe.set with current := 0 } }, wsq := { s.wsq with tucExpired := true } } := rfl
  rw [hover] at hkept ⊢
  refine ⟨yieldOwnClaim_cut (by exact h), by simp, by simp, by simp, by simp, by simp, ?_, by simp, ?_⟩
  · rw [hkept.sched, sched_of_ctx h]
  · intro hidle hwaiting hbackoff
    exact (yieldOwnClaim_clu _).2.1 (by exact hidle) (by exact hwaiting) (by exact hbackoff)

/-- R102, R103: what the end of a stroke leaves. -/
structure StrokeEnded (short : Bool) (c : WeldCtx) (s t : State) : Prop where
  ctx   : ∃ faults full cut, t.ctx = some { c with faults := faults, overflow := full, truncated := cut }
    ∧ (∀ j, Listed j c → Listed j { c with faults := faults, overflow := full })
    ∧ (∀ e ∈ faults, e.kind ≠ .upsetShort → e ∈ c.faults)
    ∧ (short = true → Listed .upsetShort { c with faults := faults, overflow := full })
    ∧ (short = false → faults = c.faults ∧ full = c.overflow)
  wsq   : t.wsq = { s.wsq with stroke := .ended }
  mfe   : t.mfe = { s.mfe with set := { s.mfe.set with velocity := 0 } }
  frg   : t.frg = s.frg
  clu   : t.clu = s.clu
  tnl   : t.tnl = s.tnl
  peers : t.lnp.peers = s.lnp.peers
  bank  : t.rst = { s.rst with log := t.rst.log }

theorem endStroke_at (short : Bool) {s : State} {c : WeldCtx} (h : s.ctx = some c) :
    StrokeEnded short c s (endStroke short s) := by
  obtain ⟨cut, hcut⟩ := activate_cut (s := { s with
    mfe := { s.mfe with set := { s.mfe.set with velocity := 0 } }, wsq := { s.wsq with stroke := .ended } }) (c := c)
    .upsetPeak h
  unfold endStroke
  extract_lets s1 w1 s2
  change s2.ctx = _ at hcut
  cases short
  · rw [if_neg (by simp)]
    exact ⟨⟨c.faults, c.overflow, cut, hcut, fun _ hj => hj, fun _ he _ => he, fun hno => by simp at hno, fun _ => ⟨rfl, rfl⟩⟩,
      by simp [s2, w1, s1], by simp [s2, s1], by simp [s2, s1], by simp [s2, s1], by simp [s2, s1], by simp [s2, s1],
      by simp [s2, s1]⟩
  · rw [if_pos rfl]
    obtain ⟨faults, full, cut', hctx, hlisted, hkept⟩ :=
      enterFaultAs_shape s2.wsq.seq .upsetShort (some (s.ctx.elim 0 (·.progress.upsetDistance) : Nat)) hcut
    obtain ⟨log, hlog⟩ := enterFaultAs_rst s2.wsq.seq .upsetShort (some (s.ctx.elim 0 (·.progress.upsetDistance) : Nat)) s2
    obtain ⟨cut₂, hcut₂⟩ :=
      enterFaultAs_cut s2.wsq.seq .upsetShort (some (s.ctx.elim 0 (·.progress.upsetDistance) : Nat)) hcut
    have hfaults : faults = (WeldCtx.addFault .upsetShort s2.wsq.seq { c with truncated := cut }).1.faults := by
      have := Option.some.inj (hctx.symm.trans hcut₂)
      exact congrArg WeldCtx.faults this
    refine ⟨⟨faults, full, cut', hctx, hkept,
      fun e he hne => addFault_others (c := { c with truncated := cut }) (hfaults ▸ he) hne, fun _ => hlisted,
      fun hno => by simp at hno⟩, by simp [s2, w1, s1, enterFault], by simp [s2, s1, enterFault], by simp [s2, s1, enterFault],
      by simp [s2, s1, enterFault], by simp [s2, s1, enterFault], by simp [s2, s1, enterFault], ?_⟩
    rw [enterFault, hlog]
    simp [s2, s1]

theorem StrokeEnded.sched {short : Bool} {c : WeldCtx} {s t : State} (h : StrokeEnded short c s t) (hs : s.ctx = some c) :
    t.sched = s.sched := by
  obtain ⟨faults, full, cut, hctx, -⟩ := h.ctx
  rw [sched_of_ctx hs, sched_of_ctx hctx]
  cases c.bank <;> simp only [State.bank] <;> rw [h.bank]

theorem leaveUpset_over {s : State} (hseq : s.wsq.seq = .upset) (hstroke : s.wsq.stroke = .ended)
    (hheat : s.wsq.tucExpired = true) : leaveUpset s = enterHold s := if_pos ⟨hseq, hstroke, hheat⟩

theorem leaveUpset_on {s : State} (h : s.wsq.stroke ≠ .ended ∨ s.wsq.tucExpired = false) : leaveUpset s = s := by
  refine if_neg ?_
  rintro ⟨-, hstroke, hheat⟩
  rcases h with h | h
  · exact h hstroke
  · rw [h] at hheat
    cases hheat

theorem leaveUpset_some {s : State} {c : WeldCtx} (h : s.ctx = some c) : ∃ c', (leaveUpset s).ctx = some c'
    ∧ c'.progress.upsetDistance = c.progress.upsetDistance ∧ c'.progress.peakForce = c.progress.peakForce
    ∧ (∀ j, Listed j c → Listed j c') ∧ (leaveUpset s).wsq.stroke = s.wsq.stroke := by
  unfold leaveUpset
  split
  · have he := enterHold_entered h
    obtain ⟨faults, full, cut, hctx, hlists, -⟩ := he.context
    exact ⟨_, hctx, rfl, rfl, hlists, by rw [he.wsq]⟩
  · exact ⟨c, h, rfl, rfl, fun _ hj => hj, rfl⟩

/-! ### The upset timer's marks -/

theorem heatOver_upsetting {s w : State} {c : WeldCtx} {cut : Bool} (hctx : s.ctx = some c)
    (hw : w.ctx = some { c with truncated := cut }) (h : HeatOver c s w) : Upsetting c s { c with truncated := cut } w := by
  obtain ⟨hgate, -, hforce⟩ := gate_of_same hctx hw rfl rfl h.sched h.peers
  exact ⟨hw, rfl, rfl, rfl, h.sched.trans (sched_of_ctx hctx), hgate, hforce, fun _ he _ => he,
    fun _ => by rw [h.tnl]; exact ⟨rfl, rfl⟩⟩

theorem strokeEnded_upsetting {short : Bool} {s u w : State} {c cu : WeldCtx} (hu : Upsetting c s cu u)
    (h : StrokeEnded short cu u w) : ∃ faults full cut, Upsetting c s { cu with faults := faults, overflow := full, truncated := cut } w
      ∧ (∀ j, Listed j cu → Listed j { cu with faults := faults, overflow := full })
      ∧ (short = true → Listed .upsetShort { cu with faults := faults, overflow := full })
      ∧ (short = false → faults = cu.faults ∧ full = cu.overflow) := by
  obtain ⟨faults, full, cut, hctx, hlists, hothers, hshort, hlong⟩ := h.ctx
  obtain ⟨hgate, -, hforce⟩ := gate_of_same hu.ctx hctx rfl rfl (h.sched hu.ctx) h.peers
  refine ⟨faults, full, cut, ⟨hctx, hu.number, hu.mode, hu.abort, (h.sched hu.ctx).trans hu.sched, hgate.trans hu.gate,
    hforce.trans hu.force, fun e he hk => hu.broken e (hothers e he (by rw [hk]; decide)) hk, fun hm => ?_⟩, hlists, hshort, hlong⟩
  rw [h.tnl]
  exact hu.whole hm

theorem upsetting_refl {s : State} {c : WeldCtx} (h : s.ctx = some c) : Upsetting c s c s :=
  ⟨h, rfl, rfl, rfl, sched_of_ctx h, rfl, rfl, fun _ he _ => he, fun _ => ⟨rfl, rfl⟩⟩

/-- R100, R104, R127: what t_uc leaves. -/
theorem tUcExpiry_at {s : State} {c : WeldCtx} (hctx : s.ctx = some c) (hseq : s.wsq.seq = .upset)
    (hheat : s.wsq.tucExpired = false) (hdue : timerReached s.wsq.upsetTimer (s.bank c.bank).image.tUc = true) :
    ∃ t c', exec .tUcExpiry s = .next t ∧ t.ctx = some c' ∧ t.wsq.tucExpired = true ∧ t.mfe.set.current = 0
      ∧ t.mfe.driven.current = 0 ∧ t.clu.step = .idle
      ∧ (s.clu.step = .granted ∨ s.clu.step = .shed → t.clu.ownClaim = 0)
      ∧ (s.wsq.stroke ≠ .ended →
          t.wsq = { s.wsq with tucExpired := true } ∧ t.mfe.set = { s.mfe.set with current := 0 } ∧ SameTruncated c c')
      ∧ (s.wsq.stroke = .ended → HoldBegun c s t) := by
  have hexec : exec .tUcExpiry s = .next (gateCurrent (leaveUpset (heatOver s))) :=
    finish_turn ⟨hseq, by rw [hheat]; rfl, by rw [sched_of_ctx hctx]; exact hdue⟩
  have hover := heatOver_at hctx
  generalize heatOver s = w at *
  obtain ⟨cut, hw⟩ := hover.ctx
  have hclaim : s.clu.step = .granted ∨ s.clu.step = .shed → w.clu.ownClaim = 0 := fun h => by
    apply hover.claim <;> rcases h with h | h <;> rw [h] <;> decide
  by_cases hstroke : s.wsq.stroke = .ended
  · have hleft : leaveUpset w = enterHold w := leaveUpset_over (by rw [hover.wsq]; exact hseq)
      (by rw [hover.wsq]; exact hstroke) (by rw [hover.wsq])
    have he := enterHold_entered hw
    obtain ⟨faults, full, cut', hctx', -⟩ := he.context
    have hclosed : (enterHold w).gateOpen = false := by simp [State.gateOpen, he.wsq]
    rw [hexec, hleft]
    refine ⟨_, _, rfl, (gateCurrent_ctx _).trans hctx', ?_, ?_, ?_, ?_, ?_, fun h => absurd hstroke h,
      fun _ => holdBegun_of (heatOver_upsetting hctx hw hover)⟩
    · rw [gateCurrent_wsq, he.wsq, hover.wsq]
    · rw [gateCurrent_mfe_set, he.mfe]
    · rw [gateCurrent_driven, hclosed]
      rfl
    · rw [gateCurrent_clu, he.clu, hover.step]
    · rw [gateCurrent_clu, he.clu]
      exact hclaim
  · have hleft : leaveUpset w = w := leaveUpset_on (.inl (by rw [hover.wsq]; exact hstroke))
    have hclosed : w.gateOpen = false := by simp [State.gateOpen, hover.wsq, hseq]
    rw [hexec, hleft]
    refine ⟨_, _, rfl, (gateCurrent_ctx _).trans hw, ?_, ?_, ?_, ?_, ?_, fun _ => ⟨?_, ?_, rfl⟩, fun h => absurd h hstroke⟩
    · rw [gateCurrent_wsq, hover.wsq]
    · rw [gateCurrent_mfe_set, hover.mfe]
    · rw [gateCurrent_driven, hclosed]
      rfl
    · rw [gateCurrent_clu, hover.step]
    · rw [gateCurrent_clu]
      exact hclaim
    · rw [gateCurrent_wsq, hover.wsq]
    · rw [gateCurrent_mfe_set, hover.mfe]

/-- R103, R104: what the limit of the upset leaves. -/
theorem upsetLimit_at {s : State} {c : WeldCtx} (hctx : s.ctx = some c) (hseq : s.wsq.seq = .upset)
    (hstroke : s.wsq.stroke = .stroke) (hdue : timerDue s.wsq.upsetTimer = true) :
    ∃ t c', exec .upsetLimit s = .next t ∧ t.ctx = some c' ∧ t.wsq.stroke = .ended
      ∧ (c'.overflow = true ∨ .upsetShort ∈ c'.faults.map (·.kind))
      ∧ c'.progress.upsetDistance = c.progress.upsetDistance ∧ c'.progress.peakForce = c.progress.peakForce
      ∧ (s.wsq.tucExpired = false →
          t.wsq = { s.wsq with stroke := .ended } ∧ t.mfe.set = { s.mfe.set with velocity := 0 })
      ∧ (s.wsq.tucExpired = true → HoldBegun c s t) := by
  have hexec : exec .upsetLimit s = .next (gateCurrent (leaveUpset (endStroke true s))) :=
    finish_turn ⟨hseq, hstroke, hdue⟩
  have hended := endStroke_at true hctx
  generalize endStroke true s = w at *
  obtain ⟨faults, full, cut, hw, -, hshort, -⟩ := strokeEnded_upsetting (upsetting_refl hctx) hended
  obtain ⟨c', hc', hdistance, hpeak, hlists, hkept⟩ := leaveUpset_some hw.ctx
  rw [hexec]
  refine ⟨_, c', rfl, (gateCurrent_ctx _).trans hc', ?_, hlists _ (hshort rfl), hdistance, hpeak, fun hheat => ?_,
    fun hheat => ?_⟩
  · rw [gateCurrent_wsq, hkept, hended.wsq]
  · rw [leaveUpset_on (.inr (by rw [hended.wsq]; exact hheat)), gateCurrent_wsq, gateCurrent_mfe_set, hended.wsq, hended.mfe]
    exact ⟨rfl, rfl⟩
  · rw [leaveUpset_over (by rw [hended.wsq]; exact hseq) (by rw [hended.wsq]) (by rw [hended.wsq]; exact hheat)]
    exact holdBegun_of hw

/-! ### A sample of UPSET -/

/-- The gate, the release test and the force shown do not read a row's age. -/
theorem measure_gates (raw : Samples) {s : State} {c : WeldCtx} (hctx : s.ctx = some c) :
    (Machine.measure raw s).gateHolds = s.gateHolds ∧ (Machine.measure raw s).releaseHolds = s.releaseHolds
    ∧ (Machine.measure raw s).pairedForce = s.pairedForce := by
  have hm := measure_some raw hctx
  have hrow : (Machine.measure raw s).pairedRow = s.pairedRow.older := by
    simp only [State.pairedRow, State.pair, hm, hctx, Option.bind_some]
    cases c.pair with
    | none => rfl
    | some n => exact row_tick s raw n
  have hsched := measure_sched raw s
  refine ⟨?_, ?_, ?_⟩
  · simp only [State.gateHolds, State.fLo, hrow, hm, hctx, hsched, Option.elim_some]
    cases s.pairedRow with
    | empty => rfl
    | heard live side age role =>
      cases role with
      | tensor st f => cases live <;> cases st <;> rfl
      | _ => cases live <;> rfl
  · simp only [State.releaseHolds, hrow, hm, hctx, Option.elim_some]
    cases s.pairedRow with
    | empty => rfl
    | heard live side age role =>
      cases role with
      | tensor st f => cases live <;> cases st <;> rfl
      | _ => cases live <;> rfl
  · simp only [State.pairedForce, hrow, older_tensorForce]

/-- R101: the progress that a sample of UPSET works while the stroke runs. -/
theorem progressOf_upset {raw : Samples} {s : State} (hseq : s.wsq.seq = .upset) (p : Progress) :
    progressOf (readings raw s) p = if s.wsq.stroke = .stroke then
      { p with
        upsetDistance := ((s.mfe.inputs.takeAll raw).position.value - s.wsq.upsetEntry).toNat
        peakForce := max p.peakForce (s.mfe.inputs.takeAll raw).force.value.toNat }
    else p := by
  have hwsq : (readings raw s).wsq = s.wsq.tick := by
    rw [readings_eq]
    rfl
  have hposition : (readings raw s).position = (s.mfe.inputs.takeAll raw).position.value := by
    rw [State.position, State.input, readings_inputs]
    rfl
  have hforce : (readings raw s).input .force = (s.mfe.inputs.takeAll raw).force.value := by
    rw [State.input, readings_inputs]
    rfl
  have hseq' : (readings raw s).wsq.seq = .upset := by rw [hwsq]; exact hseq
  have hstroke : (readings raw s).wsq.stroke = s.wsq.stroke := by rw [hwsq]; rfl
  have hentry : (readings raw s).wsq.upsetEntry = s.wsq.upsetEntry := by rw [hwsq]; rfl
  unfold progressOf
  rw [hseq']
  dsimp only
  rw [hstroke, hposition, hforce, hentry]

/-- R100: the state of a sample of UPSET once its current demand is set. -/
def upsetDriven (raw : Samples) (s : State) (demand : Nat) : State :=
  (Machine.measure raw s).mapSet (fun o => { o with current := demand })

theorem upsetSample_eq {raw : Samples} {s : State} {c : WeldCtx} (hctx : s.ctx = some c) :
    upsetSample (Machine.measure raw s) = leaveUpset (strokeSample (upsetDriven raw s
      (if s.wsq.tucExpired then s.mfe.set.current else (s.bank c.bank).image.iUpset * c.share / 1000))) := by
  have hheat : (Machine.measure raw s).wsq.tucExpired = s.wsq.tucExpired := by rw [measure_wsq]; rfl
  have hset : (Machine.measure raw s).mfe.set = s.mfe.set := by rw [measure_mfe, readings_set]
  have hscaled : (Machine.measure raw s).scaled (Machine.measure raw s).sched.iUpset
      = (s.bank c.bank).image.iUpset * c.share / 1000 := by
    rw [scaled_of_ctx (measure_some raw hctx), measure_sched, sched_of_ctx hctx]
  unfold upsetSample upsetDriven
  rw [hheat, hscaled, ← hset]
  split <;> rfl

/-- What is known of the state that a sample of UPSET has worked, before the end of its stroke. -/
theorem upsetDriven_upsetting (raw : Samples) {s : State} {c : WeldCtx} (demand : Nat) (hctx : s.ctx = some c) :
    Upsetting c s { c with progress := progressOf (readings raw s) c.progress } (upsetDriven raw s demand) := by
  obtain ⟨hgate, -, hforce⟩ := measure_gates raw hctx
  refine ⟨measure_some raw hctx, rfl, rfl, rfl, ?_, hgate, hforce, fun _ he _ => he, fun _ => ?_⟩
  · exact (measure_sched raw s).trans (sched_of_ctx hctx)
  · rw [upsetDriven, mapSet_tnl, measure_tnl]
    exact ⟨rfl, rfl⟩

theorem upsetDriven_state (raw : Samples) (s : State) (demand : Nat) :
    (upsetDriven raw s demand).wsq = s.wsq.tick
    ∧ (upsetDriven raw s demand).mfe.set = { s.mfe.set with current := demand }
    ∧ (upsetDriven raw s demand).position = (s.mfe.inputs.takeAll raw).position.value
    ∧ (upsetDriven raw s demand).input .force = (s.mfe.inputs.takeAll raw).force.value := by
  refine ⟨measure_wsq raw s, ?_, ?_, ?_⟩
  · rw [upsetDriven, mapSet_mfe, measure_mfe, readings_set]
  · rw [upsetDriven, State.position, State.input, mapSet_mfe, measure_mfe]
    dsimp only
    rw [readings_inputs]
    rfl
  · rw [upsetDriven, State.input, mapSet_mfe, measure_mfe]
    dsimp only
    rw [readings_inputs]
    rfl

/-- R102: what the end of the stroke at a sample comes to. -/
theorem strokeSample_cases {s : State} :
    (s.wsq.stroke ≠ .stroke → strokeSample s = s)
    ∧ (s.wsq.stroke = .stroke →
      let d := (s.position - s.wsq.upsetEntry).toNat
      (s.sched.dU ≤ d → strokeSample s = endStroke false s)
      ∧ (d < s.sched.dU → (s.sched.fUpMax : Int) ≤ s.input .force → strokeSample s = endStroke (d < s.sched.dUMin) s)
      ∧ (d < s.sched.dU → s.input .force < s.sched.fUpMax → strokeSample s = s)) := by
  unfold strokeSample
  refine ⟨fun h => if_pos h, fun h => ?_⟩
  simp only [h, ne_eq, not_true_eq_false, if_false]
  refine ⟨fun hd => if_pos hd, fun hd hf => ?_, fun hd hf => ?_⟩
  · rw [if_neg (by omega), if_pos hf]
  · rw [if_neg (by omega), if_neg (by omega)]

/-- R101 to R107: a sample in STROKE, on the state `u` it has worked. -/
theorem stroke_sample {s u : State} {c cu : WeldCtx} {demand : Nat} (hu : Upsetting c s cu u) (hwsq : u.wsq = s.wsq.tick)
    (hset : u.mfe.set = { s.mfe.set with current := demand }) (hseq : s.wsq.seq = .upset)
    (hstroke : s.wsq.stroke = .stroke) (hfaults : cu.faults = c.faults) :
    let k := (s.bank c.bank).image
    let d := (u.position - s.wsq.upsetEntry).toNat
    let onDistance := k.dU ≤ d
    let onForce := d < k.dU ∧ (k.fUpMax : Int) ≤ u.input .force
    let t := gateCurrent (leaveUpset (strokeSample u))
    ∃ c', t.ctx = some c' ∧ c'.progress.upsetDistance = cu.progress.upsetDistance
      ∧ c'.progress.peakForce = cu.progress.peakForce
      ∧ (¬onDistance → ¬onForce → t.wsq.seq = .upset ∧ t.wsq.stroke = .stroke ∧ c'.faults = c.faults
        ∧ t.mfe.set = { s.mfe.set with current := demand })
      ∧ (onDistance ∨ onForce →
        t.wsq.stroke = .ended ∧ t.mfe.set.velocity = 0
        ∧ (onForce → d < k.dUMin → c'.overflow = true ∨ .upsetShort ∈ c'.faults.map (·.kind))
        ∧ (s.wsq.tucExpired = false → t.wsq.seq = .upset
          ∧ t.mfe.set = { s.mfe.set with current := demand, velocity := 0 }
          ∧ (onDistance ∨ k.dUMin ≤ d → c'.faults = c.faults))
        ∧ (s.wsq.tucExpired = true → HoldBegun c s t)) := by
  intro k d onDistance onForce t
  have hsched : u.sched = k := hu.sched
  have hentry : u.wsq.upsetEntry = s.wsq.upsetEntry := by rw [hwsq]; rfl
  have hrunning : u.wsq.stroke = .stroke := by rw [hwsq]; exact hstroke
  obtain ⟨hfar, hforced, hon⟩ := strokeSample_cases.2 hrunning
  rw [hentry, hsched] at hfar hforced hon
  by_cases hend : onDistance ∨ onForce
  · obtain ⟨short, hended, hshort⟩ : ∃ short, strokeSample u = endStroke short u
        ∧ (short = true ↔ d < k.dU ∧ d < k.dUMin) := by
      rcases hend with h | ⟨hd, hf⟩
      · exact ⟨false, hfar h, by simp only [Bool.false_eq_true, false_iff]; omega⟩
      · exact ⟨decide (d < k.dUMin), hforced hd hf, by simp [hd]⟩
    have hw := endStroke_at short hu.ctx
    obtain ⟨faults, full, cut, hup, -, hlisted, hwhole⟩ := strokeEnded_upsetting hu hw
    rw [← hended] at hw hup
    obtain ⟨c', hc', hdistance, hpeak, hlists, hkept⟩ := leaveUpset_some hup.ctx
    have hwheat : (strokeSample u).wsq.tucExpired = s.wsq.tucExpired := by rw [hw.wsq, hwsq]; rfl
    have hwseq : (strokeSample u).wsq.seq = .upset := by rw [hw.wsq, hwsq]; exact hseq
    have hstays (hheat : s.wsq.tucExpired = false) : leaveUpset (strokeSample u) = strokeSample u :=
      leaveUpset_on (.inr (hwheat.trans hheat))
    refine ⟨c', (gateCurrent_ctx _).trans hc', hdistance, hpeak, fun hno hno' => ?_, fun _ => ⟨?_, ?_, fun hf hd => ?_,
      fun hheat => ⟨?_, ?_, fun hin => ?_⟩, fun hheat => ?_⟩⟩
    · exact absurd hend (by simp [hno, hno'])
    · rw [gateCurrent_wsq, hkept, hw.wsq]
    · rw [gateCurrent_mfe_set]
      cases hheat : s.wsq.tucExpired
      · rw [hstays hheat, hw.mfe]
      · rw [leaveUpset_over hwseq (by rw [hw.wsq]) (hwheat.trans hheat), (enterHold_entered hup.ctx).mfe]
    · exact hlists _ (hlisted (hshort.mpr ⟨hf.1, hd⟩))
    · rw [gateCurrent_wsq, hstays hheat, hwseq]
    · rw [gateCurrent_mfe_set, hstays hheat, hw.mfe, hset]
    · rw [hstays hheat] at hc'
      cases hc'.symm.trans hup.ctx
      have hlong : short = false := by
        rw [← Bool.not_eq_true, hshort]
        rcases hin with h | h <;> simp only [onDistance] at * <;> omega
      exact (hwhole hlong).1.trans hfaults
    · rw [show t = gateCurrent (enterHold (strokeSample u)) from
        congrArg gateCurrent (leaveUpset_over hwseq (by rw [hw.wsq]) (hwheat.trans hheat))]
      exact holdBegun_of hup
  · obtain ⟨hnear, hfree⟩ := not_or.mp hend
    have hd : d < k.dU := Nat.lt_of_not_le hnear
    have hgoes : strokeSample u = u := hon hd (not_le.mp fun h => hfree ⟨hd, h⟩)
    have hstays : leaveUpset u = u := leaveUpset_on (.inl (by rw [hrunning]; decide))
    have ht : t = gateCurrent u := by simp only [t, hgoes, hstays]
    rw [ht]
    refine ⟨cu, (gateCurrent_ctx _).trans hu.ctx, rfl, rfl, fun _ _ => ⟨?_, ?_, hfaults, ?_⟩, fun h => absurd h hend⟩
    · rw [gateCurrent_wsq, hwsq]
      exact hseq
    · rw [gateCurrent_wsq, hrunning]
    · rw [gateCurrent_mfe_set, hset]

/-- R66, R105: the weld after a sample that its first finding has aborted. -/
theorem firstAborts_weld {raw : Samples} {s u t : State} {c : WeldCtx} {f : Finding} {kind : FaultKind} {i : Option Int}
    (h : FirstAborts raw s f kind i u) (hctx : s.ctx = some c) (hseq : s.wsq.seq ≠ .preheat)
    (hl : Lingers (abortWeld kind i u) t) :
    ∃ c', t.ctx = some c' ∧ c'.abortKind = some kind ∧ c'.progress = progressOf (readings raw s) c.progress
      ∧ t.wsq.stroke = .none := by
  have hu := h.ctx.trans (measure_some raw hctx)
  have ha := abortWeld_aborted kind i u _ hu
  obtain ⟨x, c₁, hx, hc₁, hsame, -⟩ := ha.context
  cases hu.symm.trans hx
  rw [if_neg (by rw [h.seq]; exact hseq)] at hsame
  obtain ⟨c', hc', hweld⟩ := hl.weld c₁ ((gateCurrent_ctx _).symm.trans hc₁)
  refine ⟨c', hc', ?_, ?_, ?_⟩
  · rw [hweld.same, hsame]
  · rw [hweld.same, hsame]
  · rw [hl.wsq]
    exact (congrArg Wsq.stroke (gateCurrent_wsq _)).symm.trans (by rw [ha.wsq])

/-- Settles O29: by the two marks, the samples of the stroke, and the sample that a slip aborts. -/
theorem upsetTimerEndsHeatAndStroke : Obligations.UpsetTimerEndsHeatAndStroke := by
  refine ⟨fun s c hctx hseq hheat hdue => tUcExpiry_at hctx hseq hheat hdue,
    fun s c hctx hseq hstroke hdue => upsetLimit_at hctx hseq hstroke hdue,
    fun raw order s c hreset hctx hseq hq => ?_, fun raw order s c hreset hctx hseq hslip hlow => ?_⟩
  · have hfound : takeFindings order (Machine.measure raw s) = upsetSample (Machine.measure raw s) := by
      rw [takeFindings_unregulated raw s hq (by rw [hseq]; rfl), takePhase_of_seq (measure_seq raw s), hseq]
      rfl
    have hinputs := sample_inputs raw order s
    have hexec := exec_sample_of_notReset raw order hreset
    rw [hfound, upsetSample_eq hctx] at hinputs hexec
    generalize hdem : (if s.wsq.tucExpired then s.mfe.set.current else (s.bank c.bank).image.iUpset * c.share / 1000)
      = demand at *
    have hu := upsetDriven_upsetting raw demand hctx
    obtain ⟨hwsq, hset, hposition, hforce⟩ := upsetDriven_state raw s demand
    have hprogress := progressOf_upset (raw := raw) hseq c.progress
    by_cases hstroke : s.wsq.stroke = .stroke
    · obtain ⟨c', hc', hdistance, hpeak, hon, hend⟩ := stroke_sample hu hwsq hset hseq hstroke rfl
      rw [if_pos hstroke] at hprogress
      rw [hprogress] at hdistance hpeak
      refine ⟨_, c', hexec, hc', ?_⟩
      rw [State.position, State.input, State.input, hinputs]
      rw [hposition, hforce] at hon hend
      subst hdem
      exact ⟨fun _ => ⟨hdistance, hpeak, hon, hend⟩, fun h => absurd (hstroke.symm.trans h) (by decide)⟩
    · have hgoes : strokeSample (upsetDriven raw s demand) = upsetDriven raw s demand :=
        strokeSample_cases.1 (by rw [hwsq]; exact hstroke)
      rw [hgoes] at hexec
      rw [if_neg hstroke] at hprogress
      obtain ⟨c', hc', hdistance, hpeak, -⟩ := leaveUpset_some hu.ctx
      rw [hprogress] at hdistance hpeak
      exact ⟨_, c', hexec, (gateCurrent_ctx _).trans hc', fun h => absurd h hstroke, fun _ => ⟨hdistance, hpeak⟩⟩
  · have hchecked : s.wsq.seq.slipChecked = true := by rw [hseq]; rfl
    have hfirst := slip_firstAborts hctx hchecked hslip hlow
    obtain ⟨t, hexec, haborted, hl⟩ := hfirst.aborts (order := order) hctx hreset (by rw [hseq]; decide)
    obtain ⟨c', hc', habort, hprogress, hstroke⟩ := firstAborts_weld hfirst hctx (by rw [hseq]; decide) hl
    have hinput (i : Input) : t.input i = ((s.mfe.inputs.takeAll raw).get i).value := by
      rw [State.input, hl.inputs]
      simp [abortWeld, makeSafe_mfe, measure_mfe]
    rw [progressOf_upset hseq] at hprogress
    refine ⟨t, c', hexec, hc', haborted.seq, hstroke, habort, fun hrun => ?_, fun hrest => ?_⟩
    · rw [hprogress, if_pos hrun, State.position, hinput, hinput]
      exact ⟨rfl, rfl⟩
    · rw [hprogress, if_neg hrest]
      exact ⟨rfl, rfl⟩

end Sys2Proof.Proofs.Upset

/-! The end of the hold (R106, R109, R111, R140); the statement HoldEndsInLetGoOrUnclamp. -/
namespace Sys2Proof.Proofs.HoldEnds
open Sys2Proof Sys2Proof.Machine Sys2Proof.Proofs.Samples Sys2Proof.Proofs.SampleReadings Sys2Proof.Proofs.Preheat
  Sys2Proof.Proofs.Outcomes Sys2Proof.Proofs.FlashBurn Sys2Proof.Proofs.Upset

set_option Elab.async false

/-! ### A sample of HOLD -/

/-- R106: a sample of HOLD that takes no notice works hold elapsed, and the timers run on. -/
theorem hold_sample {raw : Samples} {order : SampleOrder} {s : State} {c : WeldCtx} (hreset : s.pins.lineReset = false)
    (hctx : s.ctx = some c) (hseq : s.wsq.seq = .hold) (hq : NoNotices order) :
    exec (.sample raw order) s = .next (gateCurrent (Machine.measure raw s))
    ∧ (Machine.measure raw s).ctx = some { c with progress := { c.progress with
        holdElapsed := min (c.progress.holdElapsed + 1) ((s.bank c.bank).image.tH * 1000) } } := by
  have hfound : takeFindings order (Machine.measure raw s) = Machine.measure raw s := by
    rw [takeFindings_unregulated raw s hq (by rw [hseq]; rfl), takePhase_of_seq (measure_seq raw s), hseq]
    rfl
  have hread : (readings raw s).wsq.seq = .hold := by rw [readings_seq, hseq]
  have hsched : (readings raw s).sched = (s.bank c.bank).image := by
    rw [readings_eq]
    exact sched_of_ctx (s := { tickAll s with mfe := (readings raw s).mfe }) hctx
  refine ⟨by rw [exec_sample_of_notReset raw order hreset, hfound], ?_⟩
  rw [measure_some raw hctx]
  simp only [progressOf, hread, hsched]

/-! ### The hold timer expires -/

/-- R106: the state at the end of a hold, before LET_GO or UNCLAMP is entered. -/
def holdOver (s : State) : State :=
  endWatch (activate .holdTick { (s.mapSet (fun o => { o with force := 0 })).mapProgress
      (fun p => { p with holdElapsed := s.sched.tH * 1000 }) with
    wsq := { s.wsq with holdTimer := none, holdTicks := s.sched.tH } })

structure HoldOver (c : WeldCtx) (s t : State) : Prop where
  ctx     : ∃ cut, t.ctx = some { c with
    progress := { c.progress with holdElapsed := s.sched.tH * 1000 }, truncated := cut }
  wsq     : t.wsq = { s.wsq with holdTimer := none, holdTicks := s.sched.tH }
  set     : t.mfe.set = { s.mfe.set with force := 0 }
  frg     : t.frg = s.frg
  clu     : t.clu = s.clu
  tnl     : t.tnl = { s.tnl with watch := .none }
  lnp     : t.lnp = s.lnp
  rst     : t.rst = s.rst
  outside : SameOutside s t

theorem holdOver_at {s : State} {c : WeldCtx} (h : s.ctx = some c) : HoldOver c s (holdOver s) := by
  obtain ⟨cut, hcut⟩ := activate_cut (s := { (s.mapSet (fun o => { o with force := 0 })).mapProgress
      (fun p => { p with holdElapsed := s.sched.tH * 1000 }) with
    wsq := { s.wsq with holdTimer := none, holdTicks := s.sched.tH } })
    (c := { c with progress := { c.progress with holdElapsed := s.sched.tH * 1000 } }) .holdTick (by simp [h])
  exact ⟨⟨cut, hcut⟩, by simp [holdOver, endWatch], by simp [holdOver, endWatch], by simp [holdOver, endWatch],
    by simp [holdOver, endWatch], by simp [holdOver, endWatch], by simp [holdOver, endWatch], by simp [holdOver, endWatch],
    by constructor <;> simp [holdOver, endWatch]⟩

theorem holdOver_gates {s : State} {c : WeldCtx} (h : s.ctx = some c) :
    (holdOver s).tensioned = s.tensioned ∧ (holdOver s).releaseHolds = s.releaseHolds := by
  have ho := holdOver_at h
  obtain ⟨cut, hctx⟩ := ho.ctx
  refine ⟨by rw [tensioned_of h, tensioned_of hctx], ?_⟩
  refine (gate_of_same h hctx rfl rfl ?_ (by rw [ho.lnp])).2.1
  rw [sched_of_ctx h, sched_of_ctx hctx]
  exact congrArg Bank.image (bank_of_rst ho.rst _)

theorem endHold_cases (s : State) (h : (holdOver s).tensioned = s.tensioned) : endHold s =
    if s.tensioned then enterLetGo (holdOver s) else enterUnclamp (holdOver s) := by
  rw [← h]
  rfl

/-- R111: the line through the entry to UNCLAMP. -/
theorem enterUnclamp_announced (s : State) : Announced s (enterUnclamp s) :=
  (enterState_announced .unclamp s).trans (.of_eq rfl rfl rfl)

theorem mem_of_announced {s t : State} (h : Announced s t) {f : OutFrame} (hf : f ∈ s.lnp.queue) : f ∈ t.lnp.queue := by
  rcases h.queue with e | ⟨-, e⟩ <;> rw [e]
  · exact hf
  · exact List.mem_append_left _ hf

theorem enterUnclamp_blocks (s : State) : (enterUnclamp s).frg = s.frg ∧ (enterUnclamp s).clu = s.clu := by
  simp [enterUnclamp]

/-- R109: LET_GO as it is entered, before its release test. -/
def letGoBegun (s : State) : State :=
  let s1 := sendLetGo (enterState .letGo s)
  { s1 with wsq := { s1.wsq with releaseWait := startTimer 30000 } }

theorem enterLetGo_eq (s : State) : enterLetGo s =
    if (letGoBegun s).releaseHolds then enterUnclamp (letGoBegun s) else letGoBegun s := rfl

structure LetGoBegun (c : WeldCtx) (s t : State) : Prop where
  ctx      : ∃ cut, t.ctx = some { c with phaseReached := .letGo, truncated := cut }
  wsq      : t.wsq = { s.wsq with seq := .letGo, releaseWait := some { length := 30000, elapsed := 0 } }
  set      : t.mfe.set = s.mfe.set
  frg      : t.frg = s.frg
  clu      : t.clu = s.clu
  watch    : t.tnl.watch = s.tnl.watch
  release  : t.releaseHolds = s.releaseHolds
  called   : ∀ p, c.pair = some p → s.wsq.silence = false → s.lnp.calls = [] → s.lnp.queue.length < 7 →
    .call p s.lnp.nextCall (.letGo c.weldNumber) ∈ t.lnp.queue
    ∧ t.lnp.calls = [{ dest := p, number := s.lnp.nextCall, closure := false, deadline := none }]
    ∧ t.tnl.call = some { closure := false, dest := p, weldNumber := c.weldNumber, number := some s.lnp.nextCall }
  silenced : s.wsq.silence = true → t.lnp.calls = s.lnp.calls ∧ t.tnl.call = s.tnl.call
  outside  : SameOutside s t

theorem letGoBegun_at {s : State} {c : WeldCtx} (h : s.ctx = some c) : LetGoBegun c s (letGoBegun s) := by
  obtain ⟨cut, hcut⟩ := enterState_forward (st := .letGo) rfl h
  have hann := enterState_announced .letGo s
  have hctx : (letGoBegun s).ctx = some { c with phaseReached := .letGo, truncated := cut } := by
    simp only [letGoBegun, sendLetGo_ctx, hcut]
  refine ⟨⟨cut, hctx⟩, by simp [letGoBegun, startTimer], by simp [letGoBegun], by simp [letGoBegun], by simp [letGoBegun],
    ?_, ?_, fun p hp hv hcalls hroom => ?_, fun hv => ?_, by constructor <;> simp [letGoBegun]⟩
  · simp only [letGoBegun]
    rw [sendLetGo_tnl, hann.tnl]
  · refine (gate_of_same h hctx rfl rfl ?_ (by simp [letGoBegun])).2.1
    have hkept : Welding c.weldNumber c.bank c.mode (s.bank c.bank).image (sendLetGo (enterState .letGo s)) :=
      Invariants.sendLetGo_keeps (I := weldInvariant _ _ _ _)
        (Invariants.enterState_keeps (I := weldInvariant _ _ _ _) (welding_of_ctx h))
    exact (Welding.sched hkept).trans (sched_of_ctx h).symm
  · have hlen := hann.length
    have hnumber : (enterState .letGo s).weldNumber = c.weldNumber := by
      simp [State.weldNumber, State.weldNumber?, hcut]
    have hcall := sendLetGo_call (enterState .letGo s) p (by simp [State.pair, hcut, hp]) (by rw [hann.quiet, hv])
      (by rw [hann.calls.1, hcalls]) (by omega)
    simp only [letGoBegun]
    rw [hcall, hnumber, hann.calls.2.2]
    exact ⟨by simp, rfl, rfl⟩
  · simp only [letGoBegun]
    rw [sendLetGo_silenced _ (by rw [hann.quiet, hv]), hann.calls.1, hann.tnl]
    exact ⟨rfl, rfl⟩

/-- What HOLD_TIMER_EXPIRY leaves, whichever state it enters: the statement's clauses that the next state does not touch. -/
structure HoldEnded (c : WeldCtx) (s t : State) : Prop where
  context : ∃ st cut, t.ctx = some { c with
    progress := { c.progress with holdElapsed := s.sched.tH * 1000 }, phaseReached := st, truncated := cut }
    ∧ t.wsq.seq = st
    ∧ (c.mode = .free ∨ s.releaseHolds = true → st = .unclamp
      ∧ t.wsq.clampTimer = some { length := 5000, elapsed := 0 }
      ∧ t.mfe.set = { s.mfe.set with force := 0, clamp := .opn })
    ∧ (c.mode = .tensioned → s.releaseHolds = false → st = .letGo
      ∧ t.wsq.releaseWait = some { length := 30000, elapsed := 0 } ∧ t.mfe.set = { s.mfe.set with force := 0 })
  timer   : t.wsq.holdTimer = none
  closed  : t.gateOpen = false
  watch   : t.tnl.watch = .none
  frg     : t.frg = s.frg
  clu     : t.clu = s.clu
  called  : ∀ p, c.mode = .tensioned → c.pair = some p → s.wsq.silence = false → s.lnp.calls = [] →
    s.lnp.queue.length < 7 →
    .call p s.lnp.nextCall (.letGo c.weldNumber) ∈ t.lnp.queue
    ∧ t.lnp.calls = [{ dest := p, number := s.lnp.nextCall, closure := false, deadline := none }]
    ∧ t.tnl.call = some { closure := false, dest := p, weldNumber := c.weldNumber, number := some s.lnp.nextCall }
  quiet   : c.mode = .free ∨ s.wsq.silence = true → t.lnp.calls = s.lnp.calls ∧ t.tnl.call = s.tnl.call
  outside : SameOutside s t

theorem free_not_tensioned {m : Mode} (h : m = .free) : m ≠ .tensioned := by
  rw [h]
  decide

/-- R109, R111: a FREE weld enters UNCLAMP from the hold. -/
theorem holdEnded_free {s : State} {c : WeldCtx} (h : s.ctx = some c) (hm : c.mode = .free) :
    HoldEnded c s (enterUnclamp (holdOver s)) := by
  have ho := holdOver_at h
  obtain ⟨cut, hctx⟩ := ho.ctx
  obtain ⟨⟨cut', hctx'⟩, hwsq, hset⟩ := enterUnclamp_at hctx
  have hann := enterUnclamp_announced (holdOver s)
  refine ⟨⟨.unclamp, cut', hctx', by rw [hwsq], fun _ => ⟨rfl, by rw [hwsq], ?_⟩,
    fun hno => absurd hno (free_not_tensioned hm)⟩, ?_, by simp [State.gateOpen, hwsq], ?_, ?_, ?_,
    fun _ hno => absurd hno (free_not_tensioned hm), fun _ => ?_, ?_⟩
  · rw [hset, ho.set]
  · rw [hwsq, ho.wsq]
  · rw [hann.tnl, ho.tnl]
  · exact (enterUnclamp_blocks _).1.trans ho.frg
  · exact (enterUnclamp_blocks _).2.trans ho.clu
  · rw [hann.calls.1, hann.tnl, ho.lnp, ho.tnl]
    exact ⟨rfl, rfl⟩
  · exact ⟨(enterUnclamp_pins _).trans ho.outside.pins, (enterUnclamp_svp _).trans ho.outside.svp,
      (enterUnclamp_freeCount _).trans ho.outside.freeCount, (enterUnclamp_pending _).trans ho.outside.pending⟩

/-- R109: a TENSIONED weld enters LET_GO from the hold, and goes on to UNCLAMP where the release test passes. -/
theorem holdEnded_tensioned {s : State} {c : WeldCtx} (h : s.ctx = some c) (hm : c.mode = .tensioned) :
    HoldEnded c s (enterLetGo (holdOver s)) := by
  have ho := holdOver_at h
  obtain ⟨cut, hctx⟩ := ho.ctx
  have hl := letGoBegun_at hctx
  have hrelease : (letGoBegun (holdOver s)).releaseHolds = s.releaseHolds := hl.release.trans (holdOver_gates h).2
  have hcalled : ∀ p, c.pair = some p → s.wsq.silence = false → s.lnp.calls = [] → s.lnp.queue.length < 7 →
      .call p s.lnp.nextCall (.letGo c.weldNumber) ∈ (letGoBegun (holdOver s)).lnp.queue
      ∧ (letGoBegun (holdOver s)).lnp.calls = [{ dest := p, number := s.lnp.nextCall, closure := false, deadline := none }]
      ∧ (letGoBegun (holdOver s)).tnl.call
        = some { closure := false, dest := p, weldNumber := c.weldNumber, number := some s.lnp.nextCall } := by
    have := hl.called
    rw [ho.wsq, ho.lnp] at this
    exact this
  have hquiet : s.wsq.silence = true → (letGoBegun (holdOver s)).lnp.calls = s.lnp.calls
      ∧ (letGoBegun (holdOver s)).tnl.call = s.tnl.call := by
    have := hl.silenced
    rw [ho.wsq, ho.lnp, ho.tnl] at this
    exact this
  have hwatch : (letGoBegun (holdOver s)).tnl.watch = .none := by rw [hl.watch, ho.tnl]
  have hnotFree : c.mode ≠ .free := by rw [hm]; decide
  have houtside : SameOutside s (letGoBegun (holdOver s)) :=
    ⟨hl.outside.pins.trans ho.outside.pins, hl.outside.svp.trans ho.outside.svp,
      hl.outside.freeCount.trans ho.outside.freeCount, hl.outside.pending.trans ho.outside.pending⟩
  have hfrg := hl.frg.trans ho.frg
  have hclu := hl.clu.trans ho.clu
  have hset := hl.set.trans ho.set
  have hwsq := hl.wsq
  rw [ho.wsq] at hwsq
  obtain ⟨cut₁, hctx₁⟩ := hl.ctx
  rw [enterLetGo_eq, hrelease]
  generalize letGoBegun (holdOver s) = w at *
  cases hholds : s.releaseHolds
  · rw [if_neg (by decide)]
    refine ⟨⟨.letGo, cut₁, hctx₁, by rw [hwsq], fun hin => ?_, fun _ _ => ⟨rfl, by rw [hwsq], hset⟩⟩, by rw [hwsq],
      by simp [State.gateOpen, hwsq], hwatch, hfrg, hclu, fun p _ hp => hcalled p hp,
      fun hin => hquiet (hin.resolve_left hnotFree), houtside⟩
    exact absurd (hin.resolve_left hnotFree) (by rw [hholds]; decide)
  · rw [if_pos rfl]
    obtain ⟨⟨cut', hctx'⟩, hwsq', hset'⟩ := enterUnclamp_at hctx₁
    have hann := enterUnclamp_announced w
    refine ⟨⟨.unclamp, cut', hctx', by rw [hwsq'], fun _ => ⟨rfl, by rw [hwsq'], by rw [hset', hset]⟩,
      fun _ hno => absurd (hholds.symm.trans hno) (by decide)⟩, by rw [hwsq', hwsq], by simp [State.gateOpen, hwsq'],
      by rw [hann.tnl, hwatch], (enterUnclamp_blocks w).1.trans hfrg, (enterUnclamp_blocks w).2.trans hclu,
      fun p _ hp hv hc hroom => ?_, fun hin => ?_, ?_⟩
    · obtain ⟨hmem, hcalls, hcall⟩ := hcalled p hp hv hc hroom
      exact ⟨mem_of_announced hann hmem, hann.calls.1.trans hcalls, by rw [hann.tnl, hcall]⟩
    · obtain ⟨hcalls, hcall⟩ := hquiet (hin.resolve_left hnotFree)
      exact ⟨hann.calls.1.trans hcalls, by rw [hann.tnl, hcall]⟩
    · exact ⟨(enterUnclamp_pins w).trans houtside.pins, (enterUnclamp_svp w).trans houtside.svp,
        (enterUnclamp_freeCount w).trans houtside.freeCount, (enterUnclamp_pending w).trans houtside.pending⟩

theorem holdEnded {s : State} {c : WeldCtx} (h : s.ctx = some c) : HoldEnded c s (endHold s) := by
  rw [endHold_cases s (holdOver_gates h).1, tensioned_of h]
  cases hm : c.mode with
  | tensioned => exact holdEnded_tensioned h hm
  | free => exact holdEnded_free h hm

/-- Settles O30: a sample of HOLD, and what the end of the hold leaves by mode and release test. -/
theorem holdEndsInLetGoOrUnclamp : Obligations.HoldEndsInLetGoOrUnclamp := by
  refine ⟨fun raw order s c hreset hctx hseq hq => ?_, fun s c hctx hseq hdue => ?_⟩
  · obtain ⟨hexec, hctx'⟩ := hold_sample hreset hctx hseq hq
    refine ⟨_, hexec, ?_, (gateCurrent_ctx _).trans hctx', ?_, ?_, ?_, ?_, ?_, ?_, ?_⟩
    · rw [gateCurrent_wsq, measure_seq, hseq]
    · rw [gateCurrent_wsq, measure_wsq]
      rfl
    · rw [gateCurrent_mfe_set, measure_mfe, readings_set]
    · rw [gateCurrent_wsq, measure_wsq]
      rfl
    · rw [gateCurrent_wsq, measure_wsq]
      rfl
    · rw [gateCurrent_tnl, measure_tnl]
    · rw [gateCurrent_tnl, measure_tnl]
    · rw [gateCurrent_rst, measure_rst]
  · have hexec : exec .holdTimerExpiry s = .next (gateCurrent (endHold s)) := finish_turn ⟨hseq, hdue⟩
    have he := holdEnded hctx
    obtain ⟨st, cut, hc', hst, hfree, htensioned⟩ := he.context
    rw [sched_of_ctx hctx] at hc'
    refine ⟨_, _, hexec, (gateCurrent_ctx _).trans hc', rfl, ?_, ?_, ?_, ?_, ?_, fun hin => ?_, fun hm hno => ?_,
      fun p hm hp hv hcalls hroom => ?_, fun hin => ?_, ?_⟩
    · rw [gateCurrent_wsq, he.timer]
    · rw [gateCurrent_tnl, he.watch]
    · rw [gateCurrent_driven, he.closed]
      rfl
    · rw [gateCurrent_frg, he.frg]
    · rw [gateCurrent_clu, he.clu]
    · rw [gateCurrent_wsq, gateCurrent_mfe_set, hst]
      obtain ⟨rfl, hclamps, hset⟩ := hfree hin
      exact ⟨rfl, rfl, hclamps, hset⟩
    · rw [gateCurrent_wsq, gateCurrent_mfe_set, hst]
      obtain ⟨rfl, hwait, hset⟩ := htensioned hm hno
      exact ⟨rfl, rfl, hwait, hset⟩
    · rw [gateCurrent_lnp, gateCurrent_tnl]
      exact he.called p hm hp hv hcalls hroom
    · rw [gateCurrent_lnp, gateCurrent_tnl]
      exact he.quiet hin
    · exact ⟨(gateCurrent_pins _).trans he.outside.pins, (gateCurrent_svp _).trans he.outside.svp,
        (gateCurrent_freeCount _).trans he.outside.freeCount, (gateCurrent_pending _).trans he.outside.pending⟩

end Sys2Proof.Proofs.HoldEnds

/-! The entry to the upset from FLASH and BOOST (R76, R88, R90, R94, R95, R98 to R104); the statement
FlashFollowsTheVelocityLaw. -/
namespace Sys2Proof.Proofs.UpsetEntry
open Sys2Proof Sys2Proof.Machine Sys2Proof.Proofs.Samples Sys2Proof.Proofs.SampleReadings Sys2Proof.Proofs.Preheat
  Sys2Proof.Proofs.Outcomes Sys2Proof.Proofs.FlashBurn Sys2Proof.Proofs.Upset

set_option Elab.async false

/-! ### UPSET entered, before its stroke is tested -/

/-- R98, R99: UPSET as it is entered: the entry position, the stroke and its timer, and the outputs. -/
def upsetBegun (s : State) : State :=
  let s1 := enterState .upset s
  ({ s1 with
    frg := { s1.frg with windowTimer := none }
    wsq := { s1.wsq with
      upsetEntry := s1.position, stroke := .stroke, upsetTimer := startTimer 2000, tucExpired := false } }.mapSet
    (fun _ => { current := s1.scaled s1.sched.iUpset, velocity := s1.sched.vUp, force := 0, clamp := .keep })).mapProgress
  (fun p => { p with upsetDistance := 0, peakForce := 0 })

/-- R138: the gate is evaluated once at the entry in TENSIONED mode. -/
def upsetGated (s : State) : State :=
  if s.tensioned then
    let g := endWatch (requestGate .upset s)
    if g.tnl.gateMet then g else enterFault .tensorLost g.pairedForce g
  else s

/-- R100: heat is over at once where t_uc is 0. -/
def upsetHeated (s : State) : State := if s.sched.tUc = 0 then heatOver s else s

theorem enterUpset_eq (s : State) :
    enterUpset s = leaveUpset (strokeSample (workStroke (upsetHeated (upsetGated (upsetBegun s))))) := rfl

structure UpsetBegunAt (c : WeldCtx) (s t : State) : Prop where
  ctx    : ∃ cut, t.ctx = some { c with
    phaseReached := .upset, progress := { c.progress with upsetDistance := 0, peakForce := 0 }, truncated := cut }
  wsq    : t.wsq = { s.wsq with
    seq := .upset, upsetEntry := s.position, stroke := .stroke, upsetTimer := some { length := 2000, elapsed := 0 }
    tucExpired := false }
  set    : t.mfe.set =
    { current := s.sched.iUpset * c.share / 1000, velocity := s.sched.vUp, force := 0, clamp := .keep }
  inputs : t.mfe.inputs = s.mfe.inputs
  frg    : t.frg = { s.frg with windowTimer := none }
  clu    : t.clu = s.clu
  tnl    : t.tnl = s.tnl
  peers  : t.lnp.peers = s.lnp.peers
  rst    : t.rst = s.rst

theorem upsetBegun_at {s : State} {c : WeldCtx} (h : s.ctx = some c) : UpsetBegunAt c s (upsetBegun s) := by
  obtain ⟨cut, hc1⟩ := enterState_forward (st := .upset) rfl h
  have hsched := enterState_sched .upset h
  have hposition : (enterState .upset s).position = s.position := by simp [State.position, State.input]
  refine ⟨⟨cut, by simp [upsetBegun, hc1]⟩, ?_, ?_, by simp [upsetBegun], by simp [upsetBegun], by simp [upsetBegun],
    by simp [upsetBegun], by simp [upsetBegun], by simp [upsetBegun]⟩
  · simp only [upsetBegun, mapProgress_wsq, mapSet_wsq]
    rw [hposition, enterState_wsq]
    rfl
  · simp only [upsetBegun, mapProgress_mfe, mapSet_mfe]
    rw [hsched, scaled_of_ctx hc1]

/-- R98 to R101: UPSET entered, its gate evaluated and its first sample worked, before the stroke is tested. -/
structure UpsetEntered (c : WeldCtx) (s t : State) : Prop where
  ctx    : ∃ faults full cut, t.ctx = some { c with
      phaseReached := .upset
      progress := { c.progress with upsetDistance := 0, peakForce := (s.input .force).toNat }
      faults := faults, overflow := full, truncated := cut }
    ∧ (∀ e ∈ faults, e.kind ≠ .tensorLost → e ∈ c.faults)
    ∧ (c.mode = .tensioned → s.gateHolds = false → Listed .tensorLost { c with faults := faults, overflow := full })
    ∧ (c.mode = .free ∨ s.gateHolds = true → faults = c.faults ∧ full = c.overflow)
  wsq    : t.wsq = { s.wsq with
    seq := .upset, upsetEntry := s.position, stroke := .stroke, upsetTimer := some { length := 2000, elapsed := 0 }
    tucExpired := decide (s.sched.tUc = 0) }
  set    : t.mfe.set =
    { current := if s.sched.tUc = 0 then 0 else s.sched.iUpset * c.share / 1000
      velocity := s.sched.vUp, force := 0, clamp := .keep }
  inputs : t.mfe.inputs = s.mfe.inputs
  window : t.frg.windowTimer = none
  claim  : s.sched.tUc = 0 → t.clu.step = .idle
  watch  : c.mode = .tensioned → t.tnl.watch = .none
  whole  : c.mode = .free → t.tnl = s.tnl
  sched  : t.sched = s.sched
  gate   : t.gateHolds = s.gateHolds
  force  : t.pairedForce = s.pairedForce

/-- What the gate and the heat of the entry leave, whichever way they go. -/
structure EntryKept (c : WeldCtx) (s t : State) : Prop where
  ctx    : ∃ faults full cut, t.ctx = some { c with faults := faults, overflow := full, truncated := cut }
    ∧ (∀ e ∈ faults, e.kind ≠ .tensorLost → e ∈ c.faults)
    ∧ (c.mode = .tensioned → s.gateHolds = false → Listed .tensorLost { c with faults := faults, overflow := full })
    ∧ (c.mode = .free ∨ s.gateHolds = true → faults = c.faults ∧ full = c.overflow)
  wsq    : t.wsq = s.wsq
  mfe    : t.mfe = s.mfe
  frg    : t.frg = s.frg
  clu    : t.clu = s.clu
  watch  : c.mode = .tensioned → t.tnl.watch = .none
  whole  : c.mode = .free → t.tnl = s.tnl
  peers  : t.lnp.peers = s.lnp.peers
  sched  : t.sched = s.sched

theorem upsetGated_at {s : State} {c : WeldCtx} (h : s.ctx = some c) : EntryKept c s (upsetGated s) := by
  unfold upsetGated
  rw [tensioned_of h]
  cases hm : c.mode with
  | free =>
    exact ⟨⟨c.faults, c.overflow, c.truncated, h, fun _ he _ => he, fun hno => absurd (hm.symm.trans hno) (by decide),
      fun _ => ⟨rfl, rfl⟩⟩, rfl, rfl, rfl, rfl, fun hno => absurd (hm.symm.trans hno) (by decide), fun _ => rfl, rfl, rfl⟩
  | tensioned =>
    have hg : endWatch (requestGate .upset s) = { s with tnl := { s.tnl with watch := .none, gateMet := s.gateHolds } } :=
      rfl
    have hnotFree : c.mode ≠ .free := by rw [hm]; decide
    rw [hg, if_pos (show (Mode.tensioned == Mode.tensioned) = true from rfl)]
    dsimp only
    cases hmet : s.gateHolds
    · rw [if_neg (by decide)]
      generalize hu : ({ s with tnl := { s.tnl with watch := .none, gateMet := false } } : State) = u
      have huctx : u.ctx = some c := hu ▸ h
      have husched : u.sched = s.sched := by rw [← hu]; rfl
      obtain ⟨faults, full, cut, hctx, hlisted, -⟩ := enterFaultAs_shape u.wsq.seq .tensorLost u.pairedForce huctx
      obtain ⟨cut₂, hcut₂⟩ := enterFaultAs_cut u.wsq.seq .tensorLost u.pairedForce huctx
      have hfaults : faults = (c.addFault .tensorLost u.wsq.seq).1.faults :=
        congrArg WeldCtx.faults (Option.some.inj (hctx.symm.trans hcut₂))
      have hkept : Welding c.weldNumber c.bank c.mode (u.bank c.bank).image (enterFault .tensorLost u.pairedForce u) :=
        Invariants.enterFault_keeps (I := weldInvariant _ _ _ _) (welding_of_ctx huctx)
      refine ⟨⟨faults, full, cut, hctx, fun e he hne => addFault_others (hfaults ▸ he) hne, fun _ _ => hlisted, fun hin => ?_⟩,
        ?_, ?_, ?_, ?_, fun _ => ?_, fun hno => absurd hno hnotFree, ?_, ?_⟩
      · rcases hin with hin | hin
        · exact absurd hin hnotFree
        · exact absurd (hmet.symm.trans hin) (by decide)
      · rw [enterFault, enterFaultAs_wsq, ← hu]
      · rw [enterFault, enterFaultAs_mfe, ← hu]
      · rw [enterFault, enterFaultAs_frg, ← hu]
      · rw [enterFault, enterFaultAs_clu, ← hu]
      · rw [enterFault, enterFaultAs_tnl, ← hu]
      · rw [enterFault, enterFaultAs_peers, ← hu]
      · rw [Welding.sched hkept, ← husched, sched_of_ctx huctx]
    · rw [if_pos rfl]
      exact ⟨⟨c.faults, c.overflow, c.truncated, h, fun _ he _ => he, fun _ hno => absurd (hmet.symm.trans hno) (by decide),
        fun _ => ⟨rfl, rfl⟩⟩, rfl, rfl, rfl, rfl, fun _ => rfl, fun hno => absurd hno hnotFree, rfl, rfl⟩

theorem workStroke_ctx {s : State} {c : WeldCtx} (h : s.ctx = some c) (hstroke : s.wsq.stroke = .stroke) :
    (workStroke s).ctx = some { c with progress := { c.progress with
      upsetDistance := (s.position - s.wsq.upsetEntry).toNat
      peakForce := max c.progress.peakForce (s.input .force).toNat } } := by
  simp [workStroke, h, hstroke]

/-- R100: what the heat at the entry leaves. -/
structure HeatedAt (c : WeldCtx) (s t : State) : Prop where
  ctx    : ∃ cut, t.ctx = some { c with truncated := cut }
  wsq    : t.wsq = { s.wsq with tucExpired := s.wsq.tucExpired || decide (s.sched.tUc = 0) }
  mfe    : t.mfe = { s.mfe with set := { s.mfe.set with
    current := if s.sched.tUc = 0 then 0 else s.mfe.set.current } }
  frg    : t.frg = s.frg
  tnl    : t.tnl = s.tnl
  peers  : t.lnp.peers = s.lnp.peers
  sched  : t.sched = s.sched
  claim  : s.sched.tUc = 0 → t.clu.step = .idle

theorem upsetHeated_at {s : State} {c : WeldCtx} (h : s.ctx = some c) : HeatedAt c s (upsetHeated s) := by
  unfold upsetHeated
  by_cases hz : s.sched.tUc = 0
  · have ho := heatOver_at h
    rw [if_pos hz]
    exact ⟨ho.ctx, by rw [ho.wsq]; simp [hz], by rw [ho.mfe, if_pos hz], ho.frg, ho.tnl, ho.peers, ho.sched, fun _ => ho.step⟩
  · rw [if_neg hz]
    exact ⟨⟨c.truncated, h⟩, by simp [hz], by rw [if_neg hz], rfl, rfl, rfl, rfl, fun hno => absurd hno hz⟩

/-- R101: the schedule, the gate and the blocks through the working of the stroke. -/
theorem workStroke_sched {s : State} {c : WeldCtx} (h : s.ctx = some c) (hstroke : s.wsq.stroke = .stroke) :
    (workStroke s).sched = s.sched := by
  rw [sched_of_ctx h, sched_of_ctx (workStroke_ctx h hstroke)]
  exact congrArg Bank.image (bank_of_rst (by simp) _)

theorem upsetEntered_at {s : State} {c : WeldCtx} (h : s.ctx = some c) :
    UpsetEntered c s (workStroke (upsetHeated (upsetGated (upsetBegun s)))) := by
  have hb := upsetBegun_at h
  obtain ⟨cut, hbctx⟩ := hb.ctx
  have hbsched : (upsetBegun s).sched = s.sched := by
    rw [sched_of_ctx h, sched_of_ctx hbctx]
    exact congrArg Bank.image (bank_of_rst hb.rst _)
  have hbgate := (gate_of_same h hbctx rfl rfl hbsched hb.peers).1
  generalize upsetBegun s = b at *
  have hg := upsetGated_at hbctx
  obtain ⟨faults, full, cut₂, hgctx, hothers, hlost, hwhole⟩ := hg.ctx
  rw [hbgate] at hlost hwhole
  generalize upsetGated b = g at *
  have hh := upsetHeated_at hgctx
  obtain ⟨cut₃, hhctx⟩ := hh.ctx
  generalize upsetHeated g = w at *
  have hstroke : w.wsq.stroke = .stroke := by rw [hh.wsq, hg.wsq, hb.wsq]
  have hinputs : w.mfe.inputs = s.mfe.inputs := by rw [hh.mfe, hg.mfe, hb.inputs]
  have hposition : w.position = w.wsq.upsetEntry := by
    rw [hh.wsq, hg.wsq, hb.wsq, State.position, State.input, hinputs]
    rfl
  have hforce : w.input .force = s.input .force := by rw [State.input, State.input, hinputs]
  have hwctx := workStroke_ctx hhctx hstroke
  have hgsched : g.sched = s.sched := hg.sched.trans hbsched
  have hsched : (workStroke w).sched = s.sched := (workStroke_sched hhctx hstroke).trans (hh.sched.trans hgsched)
  have hpeers : (workStroke w).lnp.peers = s.lnp.peers := by
    rw [show (workStroke w).lnp = w.lnp by simp, hh.peers, hg.peers, hb.peers]
  rw [hposition, hforce, Int.sub_self] at hwctx
  obtain ⟨hgate, -, hpaired⟩ := gate_of_same h hwctx rfl rfl hsched hpeers
  refine ⟨⟨faults, full, cut₃, ?_, hothers, hlost, hwhole⟩, ?_, ?_, ?_, ?_, ?_, fun hm => ?_, fun hm => ?_, hsched, hgate, hpaired⟩
  · rw [hwctx]
    simp
  · rw [workStroke_wsq, hh.wsq, hg.wsq, hb.wsq, hgsched]
    simp
  · rw [workStroke_mfe, hh.mfe, hg.mfe, hgsched, hb.set]
  · rw [workStroke_mfe, hinputs]
  · rw [workStroke_frg, hh.frg, hg.frg, hb.frg]
  · rw [workStroke_clu, ← hgsched]
    exact hh.claim
  · rw [workStroke_tnl, hh.tnl]
    exact hg.watch hm
  · rw [workStroke_tnl, hh.tnl, hg.whole hm, hb.tnl]

/-! ### The statement's two ends of the entry -/

/-- The entry to UPSET, on the state `u` that a sample has worked with the progress `p`. -/
structure EntrySample (c : WeldCtx) (p : Progress) (s u : State) : Prop where
  ctx    : u.ctx = some { c with progress := p }
  sched  : u.sched = (s.bank c.bank).image
  gate   : u.gateHolds = s.gateHolds
  force  : u.pairedForce = s.pairedForce
  tnl    : u.tnl.watch = s.tnl.watch ∧ u.tnl.gateMet = s.tnl.gateMet

theorem UpsetEntered.upsetting {c : WeldCtx} {p : Progress} {s u w : State} (hu : EntrySample c p s u)
    (hw : UpsetEntered { c with progress := p } u w) : ∃ cw, Upsetting c s cw w ∧ cw.phaseReached = .upset
      ∧ cw.progress = { p with upsetDistance := 0, peakForce := (u.input .force).toNat }
      ∧ (c.mode = .tensioned → s.gateHolds = false → Listed .tensorLost cw)
      ∧ (c.mode = .free ∨ s.gateHolds = true → cw.faults = c.faults ∧ cw.overflow = c.overflow) := by
  obtain ⟨faults, full, cut, hctx, hothers, hlost, hwhole⟩ := hw.ctx
  rw [hu.gate] at hlost hwhole
  exact ⟨_, ⟨hctx, rfl, rfl, rfl, hw.sched.trans hu.sched, hw.gate.trans hu.gate, hw.force.trans hu.force,
    fun e he hk => hothers e he (by rw [hk]; decide), fun hm => by rw [hw.whole hm]; exact hu.tnl⟩, rfl, rfl,
    hlost, hwhole⟩

theorem entered_distance {c : WeldCtx} {s w : State} (h : UpsetEntered c s w) :
    (w.position - w.wsq.upsetEntry).toNat = 0 := by
  have hentry : w.wsq.upsetEntry = w.position := by
    rw [h.wsq, State.position, State.position, State.input, State.input, h.inputs]
  rw [hentry, Int.sub_self]
  rfl

theorem input_of_inputs {s t : State} (h : t.mfe.inputs = s.mfe.inputs) (i : Input) : t.input i = s.input i := by
  rw [State.input, State.input, h]

/-- R98 to R101: UPSET entered short of the end of its stroke. -/
theorem enterUpset_goesOn {c : WeldCtx} {p : Progress} {s u : State} (hu : EntrySample c p s u)
    (hno : ¬((s.bank c.bank).image.dU = 0 ∨ ((s.bank c.bank).image.fUpMax : Int) ≤ u.input .force)) :
    UpsetBegun c p s (gateCurrent (enterUpset u)) := by
  have hw := upsetEntered_at hu.ctx
  rw [enterUpset_eq]
  generalize workStroke (upsetHeated (upsetGated (upsetBegun u))) = w at *
  obtain ⟨cw, hup, hphase, hprogress, hlost, hwhole⟩ := hw.upsetting hu
  have hstroke : w.wsq.stroke = .stroke := by rw [hw.wsq]
  have hforce := input_of_inputs hw.inputs .force
  have hgoes : strokeSample w = w := by
    refine (strokeSample_cases.2 hstroke).2.2 ?_ ?_
    · rw [entered_distance hw, hup.sched]
      omega
    · rw [hforce, hup.sched]
      omega
  have hstays : leaveUpset w = w := leaveUpset_on (.inl (by rw [hstroke]; decide))
  have hsched := hu.sched
  rw [hgoes, hstays]
  refine ⟨⟨cw, (gateCurrent_ctx _).trans hup.ctx, hphase, ?_, fun hm hn => ⟨hup.abort, hlost hm hn⟩, fun h => (hwhole h).1⟩,
    ?_, ?_, ?_, ?_, ?_, ?_, ?_, fun hm => ?_, fun hz => ?_⟩
  · rw [hprogress, input_of_inputs (gateCurrent_mfe_inputs w), hforce]
  · rw [gateCurrent_wsq, hw.wsq]
  · rw [gateCurrent_wsq, hw.wsq]
  · rw [gateCurrent_wsq, hw.wsq, State.position, State.position, input_of_inputs (gateCurrent_mfe_inputs w),
      input_of_inputs hw.inputs]
  · rw [gateCurrent_wsq, hw.wsq]
  · rw [gateCurrent_wsq, hw.wsq, hsched]
  · rw [gateCurrent_mfe_set, hw.set, hsched]
  · rw [gateCurrent_frg, hw.window]
  · rw [gateCurrent_tnl, hw.watch hm]
  · rw [gateCurrent_clu, hw.claim (by rw [hsched]; exact hz)]

/-- R102 to R104: UPSET entered, its stroke ended at that sample. -/
theorem enterUpset_ends {c : WeldCtx} {p : Progress} {s u : State} (hu : EntrySample c p s u)
    (hend : (s.bank c.bank).image.dU = 0 ∨ ((s.bank c.bank).image.fUpMax : Int) ≤ u.input .force) :
    UpsetEndedAtOnce c p s (gateCurrent (enterUpset u)) := by
  have hw := upsetEntered_at hu.ctx
  rw [enterUpset_eq]
  generalize workStroke (upsetHeated (upsetGated (upsetBegun u))) = w at *
  obtain ⟨cw, hup, hphase, hprogress, hlost, hwhole⟩ := hw.upsetting hu
  have hstroke : w.wsq.stroke = .stroke := by rw [hw.wsq]
  have hforce := input_of_inputs hw.inputs .force
  have hsched := hu.sched
  obtain ⟨hfar, hforced, -⟩ := strokeSample_cases.2 hstroke
  rw [entered_distance hw, hup.sched] at hfar hforced
  rw [hforce] at hforced
  obtain ⟨short, hended, hshort⟩ : ∃ short, strokeSample w = endStroke short w
      ∧ (short = true ↔ 0 < (s.bank c.bank).image.dU ∧ 0 < (s.bank c.bank).image.dUMin) := by
    by_cases hz : (s.bank c.bank).image.dU = 0
    · exact ⟨false, hfar (by omega), by simp [hz]⟩
    · exact ⟨decide (0 < (s.bank c.bank).image.dUMin), hforced (by omega) (hend.resolve_left hz), by simp; omega⟩
  have he := endStroke_at short hup.ctx
  obtain ⟨faults, full, cut, hup', hlists, hlisted, hclean⟩ := strokeEnded_upsetting hup he
  rw [hended]
  generalize endStroke short w = v at *
  have hvseq : v.wsq.seq = .upset := by rw [he.wsq, hw.wsq]
  have hvheat : v.wsq.tucExpired = decide ((s.bank c.bank).image.tUc = 0) := by rw [he.wsq, hw.wsq, hsched]
  have hvinputs : v.mfe.inputs = u.mfe.inputs := by rw [he.mfe, hw.inputs]
  by_cases hz : (s.bank c.bank).image.tUc = 0
  · have hleft : leaveUpset v = enterHold v := leaveUpset_over hvseq (by rw [he.wsq]) (by rw [hvheat, hz]; rfl)
    have hh := enterHold_entered hup'.ctx
    obtain ⟨faults', full', cut', hctx', hlists', -, -, hwhole'⟩ := hh.context
    have hinputs : (gateCurrent (enterHold v)).input .force = u.input .force := by
      rw [input_of_inputs (gateCurrent_mfe_inputs _), State.input, State.input, hh.mfe, hvinputs]
    rw [hleft]
    refine ⟨⟨_, (gateCurrent_ctx _).trans hctx', hup'.abort, (if_pos hz).symm, ?_, fun hm hn => ?_, fun hd hdm => ?_,
      fun hin hd => ?_⟩, ?_, fun hpos => absurd hz (by omega), fun _ => ⟨holdBegun_of hup', ?_⟩⟩
    · rw [hprogress, hinputs, if_pos hz]
    · exact hlists' _ (hlists _ (hlost hm hn))
    · exact hlists' _ (hlisted (hshort.mpr ⟨hd, hdm⟩))
    · have hlong : short = false := by
        rw [← Bool.not_eq_true, hshort]
        omega
      have htensioned : v.tensioned = false ∨ v.gateHolds = true := hin.imp
        (fun hm => by rw [tensioned_of hup'.ctx, hup'.mode, hm]; rfl) hup'.gate.trans
      exact ((hwhole' htensioned).1.trans (hclean hlong).1).trans (hwhole hin).1
    · rw [gateCurrent_frg, hh.frg, he.frg, hw.window]
    · rw [gateCurrent_clu, hh.clu, he.clu, hw.claim (by rw [hsched]; exact hz)]
  · have hstays : leaveUpset v = v := leaveUpset_on (.inr (by rw [hvheat]; simp [hz]))
    have hinput (i : Input) : (gateCurrent v).input i = u.input i := by
      rw [input_of_inputs (gateCurrent_mfe_inputs _), input_of_inputs hvinputs]
    rw [hstays]
    refine ⟨⟨_, (gateCurrent_ctx _).trans hup'.ctx, hup'.abort, hphase.trans (if_neg hz).symm, ?_, fun hm hn => ?_,
      fun hd hdm => ?_, fun hin hd => ?_⟩, ?_, fun _ => ⟨?_, ?_, ?_, ?_, ?_, ?_, fun hm => ?_⟩, fun hno => absurd hno hz⟩
    · rw [hinput, if_neg hz]
      exact hprogress
    · exact hlists _ (hlost hm hn)
    · exact hlisted (hshort.mpr ⟨hd, hdm⟩)
    · have hlong : short = false := by
        rw [← Bool.not_eq_true, hshort]
        omega
      exact (hclean hlong).1.trans (hwhole hin).1
    · rw [gateCurrent_frg, he.frg, hw.window]
    · rw [gateCurrent_wsq, hvseq]
    · rw [gateCurrent_wsq, he.wsq]
    · rw [gateCurrent_wsq, hvheat]
      simp [hz]
    · rw [gateCurrent_wsq, State.position, hinput, he.wsq, hw.wsq]
      rfl
    · rw [gateCurrent_wsq, he.wsq, hw.wsq]
    · rw [gateCurrent_mfe_set, he.mfe, hw.set, hsched, if_neg hz]
    · rw [gateCurrent_tnl, he.tnl, hw.watch hm]

/-! ### The samples of FLASH and BOOST -/

theorem entrySample_of {raw : Samples} {s u : State} {c : WeldCtx} (hctx : s.ctx = some c)
    (huctx : u.ctx = (Machine.measure raw s).ctx) (hrst : u.rst = s.rst)
    (htnl : u.tnl.watch = s.tnl.watch ∧ u.tnl.gateMet = s.tnl.gateMet)
    (hpeers : u.lnp.peers = (Machine.measure raw s).lnp.peers) :
    EntrySample c (progressOf (readings raw s) c.progress) s u := by
  have hm := measure_some raw hctx
  have hu := huctx.trans hm
  obtain ⟨hgate, -, hforce⟩ := measure_gates raw hctx
  have hsched : u.sched = (s.bank c.bank).image := by
    rw [sched_of_ctx hu]
    exact congrArg Bank.image (bank_of_rst hrst _)
  obtain ⟨hgate', -, hforce'⟩ := gate_of_same hm hu rfl rfl
    (hsched.trans (by rw [measure_sched, sched_of_ctx hctx])) hpeers
  exact ⟨hu, hsched, hgate'.trans hgate, hforce'.trans hforce, htnl⟩

theorem progressOf_flash {raw : Samples} {s : State} (hseq : s.wsq.seq = .flash) (p : Progress) :
    progressOf (readings raw s) p = { p with
      flashTime := p.flashTime + 1
      flashBurn := ((s.mfe.inputs.takeAll raw).position.value - s.frg.flashEntry).toNat } := by
  have hread : (readings raw s).wsq.seq = .flash := by rw [readings_seq, hseq]
  have hposition : (readings raw s).position = (s.mfe.inputs.takeAll raw).position.value := by
    rw [State.position, State.input, readings_inputs]
    rfl
  have hfrg : (readings raw s).frg = s.frg.tick := by
    rw [readings_eq]
    rfl
  simp only [progressOf, hread, hposition, hfrg]
  rfl

theorem progressOf_boost {raw : Samples} {s : State} (hseq : s.wsq.seq = .boost) (p : Progress) :
    progressOf (readings raw s) p = { p with
      boostBurn := ((s.mfe.inputs.takeAll raw).position.value - s.frg.boostEntry).toNat } := by
  have hread : (readings raw s).wsq.seq = .boost := by rw [readings_seq, hseq]
  have hposition : (readings raw s).position = (s.mfe.inputs.takeAll raw).position.value := by
    rw [State.position, State.input, readings_inputs]
    rfl
  have hfrg : (readings raw s).frg = s.frg.tick := by
    rw [readings_eq]
    rfl
  simp only [progressOf, hread, hposition, hfrg]
  rfl

/-- R94: what the entry to BOOST leaves. -/
theorem enterBoost_at {s : State} {c : WeldCtx} (h : s.ctx = some c) :
    (∃ cut, (enterBoost s).ctx = some { c with
      phaseReached := .boost, progress := { c.progress with boostBurn := 0 }, truncated := cut })
    ∧ (enterBoost s).wsq = { s.wsq with seq := .boost } ∧ (enterBoost s).mfe.set = s.mfe.set
    ∧ (enterBoost s).mfe.inputs = s.mfe.inputs
    ∧ (enterBoost s).frg = { s.frg with windowTimer := none, boostEntry := s.position } := by
  obtain ⟨cut, hcut⟩ := enterState_forward (st := .boost) rfl h
  refine ⟨⟨cut, by simp [enterBoost, hcut]⟩, by simp [enterBoost], by simp [enterBoost], by simp [enterBoost], ?_⟩
  simp [enterBoost, State.position, State.input]

/-- The sample of FLASH or BOOST with its outputs set. -/
def flashDriven (raw : Samples) (s : State) (current : Nat) (velocity : Int) : State :=
  (Machine.measure raw s).mapSet (fun o => { o with current := current, velocity := velocity })

theorem flashDriven_state (raw : Samples) (s : State) (current : Nat) (velocity : Int) :
    (flashDriven raw s current velocity).wsq.seq = s.wsq.seq
    ∧ (flashDriven raw s current velocity).mfe.set = { s.mfe.set with current := current, velocity := velocity }
    ∧ (flashDriven raw s current velocity).mfe.inputs = s.mfe.inputs.takeAll raw
    ∧ (flashDriven raw s current velocity).frg = s.frg.tick
    ∧ (flashDriven raw s current velocity).position = (s.mfe.inputs.takeAll raw).position.value := by
  have hinputs : (flashDriven raw s current velocity).mfe.inputs = s.mfe.inputs.takeAll raw := by
    rw [flashDriven, mapSet_mfe, measure_mfe]
    exact readings_inputs raw s
  refine ⟨measure_seq raw s, ?_, hinputs, measure_frg raw s, ?_⟩
  · rw [flashDriven, mapSet_mfe, measure_mfe, readings_set]
  · rw [State.position, State.input, hinputs]
    rfl

theorem flashDriven_entry {raw : Samples} {s : State} {c : WeldCtx} (current : Nat) (velocity : Int) (hctx : s.ctx = some c) :
    EntrySample c (progressOf (readings raw s) c.progress) s (flashDriven raw s current velocity) :=
  entrySample_of hctx rfl (measure_rst raw s)
    (by rw [flashDriven, mapSet_tnl, measure_tnl]; exact ⟨rfl, rfl⟩) rfl

/-- R88: the velocity law, as R88 spells it out. -/
theorem lawVelocity_eq {s : State} {c : WeldCtx} {k : Schedule} (h : s.ctx = some c) (hk : s.sched = k) :
    s.lawVelocity =
      let vp : Int := k.vS + (((k.vE : Int) - k.vS) * (min c.progress.flashBurn c.plan.bAdj : Nat)).tdiv c.plan.bAdj
      max 5 (min 300 ((vp * c.share).tdiv 1000 + s.frg.corrK)) := by
  simp only [State.lawVelocity, h, hk, flashVelocity, programmedVelocity, clampVelocity_eq]

/-- R76, R88, R90: the law of a sample of FLASH outside a backoff. -/
theorem flash_law {raw : Samples} {s : State} {c : WeldCtx} (hctx : s.ctx = some c) (hseq : s.wsq.seq = .flash)
    (hback : s.frg.backoff = none) :
    let k := (s.bank c.bank).image
    let x := ((s.mfe.inputs.takeAll raw).position.value - s.frg.flashEntry).toNat
    let vp : Int := k.vS + (((k.vE : Int) - k.vS) * (min x c.plan.bAdj : Nat)).tdiv c.plan.bAdj
    let u := flashDriven raw s (k.iFlash * c.share / 1000) (max 5 (min 300 ((vp * c.share).tdiv 1000 + s.frg.corrK)))
    phaseLaw .flash (Machine.measure raw s) = if c.plan.bAdj ≤ x then
      (if 0 < k.dBoost then enterBoost u else enterUpset u) else u := by
  intro k x vp u
  have hm := measure_some raw hctx
  rw [progressOf_flash hseq] at hm
  have hsched : (Machine.measure raw s).sched = k := by rw [measure_sched, sched_of_ctx hctx]
  have hfrg := measure_frg raw s
  have hmback : (Machine.measure raw s).frg.backoff = none := by rw [hfrg]; simp [Frg.tick, hback]
  have hcorr : (Machine.measure raw s).frg.corrK = s.frg.corrK := by rw [hfrg]; rfl
  have hlaw := lawVelocity_eq hm hsched
  have hu : (Machine.measure raw s).mapSet (fun o => { o with
      current := k.iFlash * c.share / 1000, velocity := (Machine.measure raw s).lawVelocity }) = u := by
    rw [hlaw, hcorr]
    rfl
  have husched : u.sched = k := hsched
  have hadj : (Machine.measure raw s).bAdj = c.plan.bAdj := by simp [State.bAdj, hm]
  have hburn : (Machine.measure raw s).flashBurn = x := by simp [State.flashBurn, hm, x]
  have hlawed : phaseLaw .flash (Machine.measure raw s) = if (Machine.measure raw s).bAdj ≤ (Machine.measure raw s).flashBurn
      then endFlash ((Machine.measure raw s).mapSet (fun o => { o with
        current := k.iFlash * c.share / 1000, velocity := (Machine.measure raw s).lawVelocity }))
      else (Machine.measure raw s).mapSet (fun o => { o with
        current := k.iFlash * c.share / 1000, velocity := (Machine.measure raw s).lawVelocity }) := by
    simp only [phaseLaw, flashSample, hmback]
    rw [hsched, scaled_of_ctx hm]
    rfl
  rw [hlawed, hu, hadj, hburn]
  simp only [endFlash, husched]

/-- R76, R94, R95: the law of a sample of BOOST outside a backoff. -/
theorem boost_law {raw : Samples} {s : State} {c : WeldCtx} (hctx : s.ctx = some c) (hseq : s.wsq.seq = .boost)
    (hback : s.frg.backoff = none) :
    let k := (s.bank c.bank).image
    let y := ((s.mfe.inputs.takeAll raw).position.value - s.frg.boostEntry).toNat
    phaseLaw .boost (Machine.measure raw s) = if k.dBoost ≤ y then
        enterUpset (flashDriven raw s (k.iBoost * c.share / 1000) s.mfe.set.velocity)
      else flashDriven raw s (k.iBoost * c.share / 1000) (max 5 (min 300 (k.vBoost : Int))) := by
  intro k y
  have hm := measure_some raw hctx
  rw [progressOf_boost hseq] at hm
  have hsched : (Machine.measure raw s).sched = k := by rw [measure_sched, sched_of_ctx hctx]
  have hmback : (Machine.measure raw s).frg.backoff = none := by rw [measure_frg]; simp [Frg.tick, hback]
  have hset : (Machine.measure raw s).mfe.set.velocity = s.mfe.set.velocity := by rw [measure_mfe, readings_set]
  have hburn : (Machine.measure raw s).boostBurn = y := by simp [State.boostBurn, hm, y]
  have hdriven : (Machine.measure raw s).mapSet (fun o => { o with current := k.iBoost * c.share / 1000 })
      = flashDriven raw s (k.iBoost * c.share / 1000) s.mfe.set.velocity := by
    rw [← hset]
    rfl
  have hvelocity : ((Machine.measure raw s).mapSet (fun o => { o with current := k.iBoost * c.share / 1000 })).mapSet
      (fun o => { o with velocity := clampVelocity k.vBoost })
      = flashDriven raw s (k.iBoost * c.share / 1000) (max 5 (min 300 (k.vBoost : Int))) := by
    rw [clampVelocity_eq]
    rfl
  simp only [phaseLaw, boostSample, hmback]
  rw [hsched, scaled_of_ctx hm, hburn, hvelocity, hdriven]

/-- R76, R88, R90: what a sample of FLASH outside a backoff leaves. -/
theorem flash_sample {raw : Samples} {s t : State} {c : WeldCtx} (hctx : s.ctx = some c) (hseq : s.wsq.seq = .flash)
    (hback : s.frg.backoff = none) (ht : t = gateCurrent (phaseLaw .flash (Machine.measure raw s)))
    (hinputs : t.mfe.inputs = s.mfe.inputs.takeAll raw) :
    let k := (s.bank c.bank).image
    let endsAtOnce := k.dU = 0 ∨ (k.fUpMax : Int) ≤ t.input .force
    let x := (t.position - s.frg.flashEntry).toNat
    let vp : Int := k.vS + (((k.vE : Int) - k.vS) * (min x c.plan.bAdj : Nat)).tdiv c.plan.bAdj
    let vg : Int := (vp * c.share).tdiv 1000
    let outputs : Outputs := { s.mfe.set with
      current := k.iFlash * c.share / 1000, velocity := max 5 (min 300 (vg + s.frg.corrK)) }
    ∃ c', t.ctx = some c'
      ∧ (x < c.plan.bAdj → t.wsq.seq = .flash ∧ t.mfe.set = outputs)
      ∧ (c.plan.bAdj ≤ x → 0 < k.dBoost →
        t.wsq.seq = .boost ∧ c'.phaseReached = .boost ∧ c'.progress.boostBurn = 0 ∧ t.frg.boostEntry = t.position
        ∧ t.frg.windowTimer = none ∧ t.mfe.set = outputs)
      ∧ (c.plan.bAdj ≤ x → k.dBoost = 0 → ¬endsAtOnce →
        UpsetBegun c { c.progress with flashTime := c.progress.flashTime + 1, flashBurn := x } s t)
      ∧ (c.plan.bAdj ≤ x → k.dBoost = 0 → endsAtOnce →
        UpsetEndedAtOnce c { c.progress with flashTime := c.progress.flashTime + 1, flashBurn := x } s t) := by
  intro k endsAtOnce x vp vg outputs
  have hx : x = ((s.mfe.inputs.takeAll raw).position.value - s.frg.flashEntry).toNat := by
    simp only [x, State.position, State.input, hinputs]
    rfl
  have hlaw := flash_law (raw := raw) hctx hseq hback
  dsimp only at hlaw
  rw [← hx] at hlaw
  obtain ⟨useq, uset, uinputs, ufrg, uposition⟩ := flashDriven_state raw s outputs.current outputs.velocity
  have uentry := flashDriven_entry (raw := raw) outputs.current outputs.velocity hctx
  change phaseLaw .flash (Machine.measure raw s) = if c.plan.bAdj ≤ x then
    (if 0 < k.dBoost then enterBoost (flashDriven raw s outputs.current outputs.velocity)
      else enterUpset (flashDriven raw s outputs.current outputs.velocity))
    else flashDriven raw s outputs.current outputs.velocity at hlaw
  rw [progressOf_flash hseq, ← hx] at uentry
  generalize flashDriven raw s outputs.current outputs.velocity = u at *
  have hforce : t.input .force = u.input .force := input_of_inputs (hinputs.trans uinputs.symm) .force
  by_cases hadj : c.plan.bAdj ≤ x
  · rw [if_pos hadj] at hlaw
    by_cases hboost : 0 < k.dBoost
    · rw [if_pos hboost] at hlaw
      obtain ⟨⟨cut, hc'⟩, hwsq, hset, -, hfrg⟩ := enterBoost_at uentry.ctx
      rw [ht, hlaw]
      refine ⟨_, (gateCurrent_ctx _).trans hc', fun h => absurd hadj (by omega), fun _ _ => ⟨?_, rfl, rfl, ?_, ?_, ?_⟩,
        fun _ h => absurd h (by omega), fun _ h => absurd h (by omega)⟩
      · rw [gateCurrent_wsq, hwsq]
      · rw [← hlaw, ← ht, ht, gateCurrent_frg, hlaw, hfrg, uposition, ← hlaw, ← ht, State.position, State.input, hinputs]
        rfl
      · rw [gateCurrent_frg, hfrg]
      · rw [gateCurrent_mfe_set, hset, uset]
    · rw [if_neg hboost] at hlaw
      rw [hlaw] at ht
      by_cases hends : endsAtOnce
      · have hended := enterUpset_ends uentry (by rw [← hforce]; exact hends)
        rw [← ht] at hended
        obtain ⟨c', hc', -⟩ := hended.context
        exact ⟨c', hc', fun h => absurd hadj (by omega), fun _ h => absurd h hboost, fun _ _ h => absurd hends h,
          fun _ _ _ => hended⟩
      · have hbegun := enterUpset_goesOn uentry (by rw [← hforce]; exact hends)
        rw [← ht] at hbegun
        obtain ⟨c', hc', -⟩ := hbegun.context
        exact ⟨c', hc', fun h => absurd hadj (by omega), fun _ h => absurd h hboost, fun _ _ _ => hbegun,
          fun _ _ h => absurd h hends⟩
  · rw [if_neg hadj] at hlaw
    rw [ht, hlaw]
    refine ⟨_, (gateCurrent_ctx _).trans uentry.ctx, fun _ => ⟨?_, ?_⟩, fun h => absurd h hadj, fun h => absurd h hadj,
      fun h => absurd h hadj⟩
    · rw [gateCurrent_wsq, useq, hseq]
    · rw [gateCurrent_mfe_set, uset]

/-- R76, R94, R95: what a sample of BOOST outside a backoff leaves. -/
theorem boost_sample {raw : Samples} {s t : State} {c : WeldCtx} (hctx : s.ctx = some c) (hseq : s.wsq.seq = .boost)
    (hback : s.frg.backoff = none) (ht : t = gateCurrent (phaseLaw .boost (Machine.measure raw s)))
    (hinputs : t.mfe.inputs = s.mfe.inputs.takeAll raw) :
    let k := (s.bank c.bank).image
    let endsAtOnce := k.dU = 0 ∨ (k.fUpMax : Int) ≤ t.input .force
    let y := (t.position - s.frg.boostEntry).toNat
    ∃ c', t.ctx = some c' ∧ c'.progress.boostBurn = y
      ∧ (y < k.dBoost → t.wsq.seq = .boost ∧ c'.progress = { c.progress with boostBurn := y }
        ∧ t.mfe.set = { s.mfe.set with
            current := k.iBoost * c.share / 1000, velocity := max 5 (min 300 (k.vBoost : Int)) })
      ∧ (k.dBoost ≤ y → ¬endsAtOnce → UpsetBegun c { c.progress with boostBurn := y } s t)
      ∧ (k.dBoost ≤ y → endsAtOnce → UpsetEndedAtOnce c { c.progress with boostBurn := y } s t) := by
  intro k endsAtOnce y
  have hy : y = ((s.mfe.inputs.takeAll raw).position.value - s.frg.boostEntry).toNat := by
    simp only [y, State.position, State.input, hinputs]
    rfl
  have hlaw := boost_law (raw := raw) hctx hseq hback
  dsimp only at hlaw
  rw [← hy] at hlaw
  have hprogress := progressOf_boost (raw := raw) hseq c.progress
  rw [← hy] at hprogress
  by_cases hfar : k.dBoost ≤ y
  · rw [if_pos hfar] at hlaw
    obtain ⟨-, -, uinputs, -, -⟩ := flashDriven_state raw s (k.iBoost * c.share / 1000) s.mfe.set.velocity
    have uentry := flashDriven_entry (raw := raw) (k.iBoost * c.share / 1000) s.mfe.set.velocity hctx
    rw [hprogress] at uentry
    rw [hlaw] at ht
    generalize flashDriven raw s (k.iBoost * c.share / 1000) s.mfe.set.velocity = u at *
    have hforce : t.input .force = u.input .force := input_of_inputs (hinputs.trans uinputs.symm) .force
    by_cases hends : endsAtOnce
    · have hended := enterUpset_ends uentry (by rw [← hforce]; exact hends)
      rw [← ht] at hended
      obtain ⟨c', hc', -, -, hp, -⟩ := hended.context
      exact ⟨c', hc', by rw [hp], fun h => absurd hfar (by omega), fun _ h => absurd hends h, fun _ _ => hended⟩
    · have hbegun := enterUpset_goesOn uentry (by rw [← hforce]; exact hends)
      rw [← ht] at hbegun
      obtain ⟨c', hc', -, hp, -⟩ := hbegun.context
      exact ⟨c', hc', by rw [hp], fun h => absurd hfar (by omega), fun _ _ => hbegun, fun _ h => absurd h hends⟩
  · rw [if_neg hfar] at hlaw
    obtain ⟨useq, uset, -, -, -⟩ :=
      flashDriven_state raw s (k.iBoost * c.share / 1000) (max 5 (min 300 (k.vBoost : Int)))
    have uentry := flashDriven_entry (raw := raw) (k.iBoost * c.share / 1000) (max 5 (min 300 (k.vBoost : Int))) hctx
    rw [hprogress] at uentry
    rw [ht, hlaw]
    refine ⟨_, (gateCurrent_ctx _).trans uentry.ctx, rfl, fun _ => ⟨?_, rfl, ?_⟩, fun h => absurd h hfar,
      fun h => absurd h hfar⟩
    · rw [gateCurrent_wsq, useq, hseq]
    · rw [gateCurrent_mfe_set, uset]

/-- Settles O15: each sample comes to the law of its phase; what that leaves is told by the state it enters. -/
theorem flashFollowsTheVelocityLaw : Obligations.FlashFollowsTheVelocityLaw := by
  intro raw order s c hreset hctx hback hstall hq hshort k endsAtOnce
  have hexec (hreg : s.wsq.seq.regulated = true) :
      exec (.sample raw order) s = .next (gateCurrent (phaseLaw s.wsq.seq (Machine.measure raw s)))
      ∧ (gateCurrent (phaseLaw s.wsq.seq (Machine.measure raw s))).mfe.inputs = s.mfe.inputs.takeAll raw := by
    have hfound := takeFindings_regulated raw hq hctx hreg (measure_stall_short raw s hstall) hshort
    rw [← hfound]
    exact ⟨exec_sample_of_notReset raw order hreset, sample_inputs raw order s⟩
  refine ⟨fun hseq => ?_, fun hseq => ?_⟩
  · obtain ⟨hrun, hinputs⟩ := hexec (by rw [hseq]; rfl)
    rw [hseq] at hrun hinputs
    obtain ⟨c', hc', hends⟩ := flash_sample hctx hseq hback rfl hinputs
    exact ⟨_, c', hrun, hc', hends⟩
  · obtain ⟨hrun, hinputs⟩ := hexec (by rw [hseq]; rfl)
    rw [hseq] at hrun hinputs
    obtain ⟨c', hc', hends⟩ := boost_sample hctx hseq hback rfl hinputs
    exact ⟨_, c', hrun, hc', hends⟩

end Sys2Proof.Proofs.UpsetEntry

/-! Frames received that are answered or stop the weld (R58 to R63, R152), and the announce timer and the start of an
attempt (R146, R147); the statements OtherCallsAreUnsupported, WeldStartIsTurnedAway, WeldStopActsByState, HaltSetsTheLatch
and AnnounceTimerAndAttempts. -/
namespace Sys2Proof.Proofs.Orders
open Sys2Proof Sys2Proof.Machine Sys2Proof.Proofs.Preheat Sys2Proof.Proofs.Outcomes
  Sys2Proof.Proofs.HoldEnds

set_option Elab.async false

/-! ### A frame taken, and its answer -/

/-- R145: the command of a frame's kind acts on the body the frame carries. -/
theorem frame_taken {want : RxBody → Bool} {bytes : List Byte} {source : Nat} {body : RxBody} {s : State}
    (hw : want body = true) (h : FrameTaken bytes source body s) :
    finish (receive want bytes s) = .next (gateCurrent (takeBody source body s)) := by
  rw [receive_taken want bytes source body s h hw]
  rfl

/-- R148: an answer joins a queue with room. -/
theorem answerCall_room (dest number : Nat) (code : AnswerCode) (result : Nat) {s : State} (hs : s.wsq.silence = false)
    (h : s.lnp.queue.length < 8) : answerCall dest number code result s = { s with
      lnp := { s.lnp with queue := s.lnp.queue ++ [.answer dest number code result] } } :=
  offer_queue_room _ s hs h

/-- R148: in a full queue without an ANNOUNCE no ANNOUNCE can be asked for. -/
theorem announceChange_full {s : State} (h : 8 ≤ s.lnp.queue.length) (hn : .announce ∉ s.lnp.queue) :
    announceChange s = s := by
  unfold announceChange requestAnnounce Lnp.wantAnnounce
  have hfull : ¬s.lnp.queue.length < queueLimit := by unfold queueLimit; omega
  simp [hn, hfull]

/-- R147, R148: a frame that finds the queue full of other frames is dropped with LINE_FAULT. -/
theorem offer_full (f : OutFrame) {s : State} (hs : s.wsq.silence = false) (h : 8 ≤ s.lnp.queue.length)
    (hn : .announce ∉ s.lnp.queue) : offer f s = { s with rst := { s.rst with
      log := s.rst.log.file
        { kind := .lineFault, state := s.wsq.seq, weldNumber := s.weldNumber?, input := some (f.kindCode : Int) } } } := by
  have hfull : ¬s.lnp.queue.length < queueLimit := by unfold queueLimit; omega
  have hroom : s.lnp.hasRoom = false := by simp [Lnp.hasRoom, Lnp.announceRemovable, hfull, hn]
  rw [offer, if_neg (by simp [hs]), if_neg (by simp [hroom]), lineFault, logFault]
  split
  · rfl
  · exact announceChange_full h hn

theorem unsupported_answered {want : RxBody → Bool} {bytes : List Byte} {source number : Nat} {body : RxBody} {s : State}
    (hw : want body = true) (hbody : takeBody source body = takeUnsupported source number)
    (h : FrameTaken bytes source body s) :
    (s.wsq.silence = false → s.lnp.queue.length < 8 → finish (receive want bytes s) = .next (gateCurrent { s with
      lnp := { s.lnp with queue := s.lnp.queue ++ [.answer source number .unsupported 0] } }))
    ∧ (s.wsq.silence = true → finish (receive want bytes s) = .next (gateCurrent s))
    ∧ (s.wsq.silence = false → 8 ≤ s.lnp.queue.length → .announce ∉ s.lnp.queue →
      finish (receive want bytes s) = .next (gateCurrent { s with rst := { s.rst with
        log := s.rst.log.file
          { kind := .lineFault, state := s.wsq.seq, weldNumber := s.weldNumber?, input := some 5 } } })) := by
  rw [frame_taken hw h, hbody]
  refine ⟨fun hs hq => ?_, fun hs => ?_, fun hs hq hn => ?_⟩
  · rw [takeUnsupported, answerCall_room _ _ _ _ hs hq]
  · rw [takeUnsupported, answerCall, offer_silenced _ _ hs]
  · rw [takeUnsupported, answerCall, offer_full _ hs hq hn]
    rfl

/-- Settles O38: the three kinds are handed to the same answer, which the queue takes, the silenced head drops, or the full
queue turns into LINE_FAULT. -/
theorem otherCallsAreUnsupported : Obligations.OtherCallsAreUnsupported :=
  fun _ _ _ _ => ⟨unsupported_answered rfl rfl, unsupported_answered rfl rfl, unsupported_answered rfl rfl⟩

/-! ### WELD_START -/

/-- R58: a console is a heard row of role CONSOLE. -/
theorem isConsole_iff (s : State) (n : Nat) :
    s.isConsole n = true ↔ ∃ live side age, s.row n = .heard live side age .console := by
  unfold State.isConsole
  cases s.row n with
  | empty => simp [PeerRow.role?]
  | heard live side age role => simp [PeerRow.role?]

/-- R59: the answer to an order that a condition turns away. -/
theorem turned_away {bytes : List Byte} {source number : Nat} {args : StartArgs} {s : State} {code : AnswerCode}
    (h : FrameTaken bytes source (.weldStart number args) s) (hs : s.wsq.silence = false) (hq : s.lnp.queue.length < 8)
    (hconsole : s.isConsole source = true) (htest : startTest args s = .error code) :
    exec (.weldStart bytes) s = .next (gateCurrent { s with
      lnp := { s.lnp with queue := s.lnp.queue ++ [.answer source number code 0] } }) := by
  refine (frame_taken rfl h).trans ?_
  simp only [takeBody, takeWeldStart, hconsole, htest, if_true, answerCall_room _ _ _ _ hs hq]

theorem orderOf_none {args : StartArgs} (h : ¬((bankOfCode args.bank).isSome = true ∧ (modeOfCode args.mode).isSome = true
    ∧ 20 ≤ args.pulled ∧ args.pulled ≤ 400 ∧ 100 ≤ args.tN ∧ args.tN ≤ 400)) : Machine.orderOf args = none := by
  unfold Machine.orderOf
  split
  · rename_i bank mode hb hm
    exact if_neg fun hr => h ⟨by rw [hb]; rfl, by rw [hm]; rfl, hr⟩
  · rfl

theorem orderOf_some {args : StartArgs} {bank : BankName} {mode : Mode} (hb : bankOfCode args.bank = some bank)
    (hm : modeOfCode args.mode = some mode)
    (hr : 20 ≤ args.pulled ∧ args.pulled ≤ 400 ∧ 100 ≤ args.tN ∧ args.tN ≤ 400) : Machine.orderOf args = some (bank, mode) := by
  unfold Machine.orderOf
  rw [hb, hm]
  exact if_pos hr

/-- Settles O36: the conditions of R59 in their order. -/
theorem weldStartIsTurnedAway : Obligations.WeldStartIsTurnedAway := by
  refine ⟨isConsole_iff, fun code bank mode => ?_, fun bytes source number args s h hs hq => ⟨fun hconsole => ?_,
    fun hconsole => ?_⟩⟩
  · constructor
    · unfold bankOfCode; cases bank <;> split <;> simp_all
    · unfold modeOfCode; cases mode <;> split <;> simp_all
  · refine (frame_taken rfl h).trans ?_
    simp only [takeBody, takeWeldStart, hconsole, Bool.false_eq_true, if_false, answerCall_room _ _ _ _ hs hq]
  · have answered {code : AnswerCode} := turned_away (code := code) h hs hq hconsole
    refine ⟨fun hlock => ?_, fun hlock => ⟨fun hctx => ?_, fun hctx => ⟨fun hhalt => ?_, fun hhalt => ⟨fun hslot => ?_,
      fun hslot => ⟨fun hstop => ?_, fun hstop => ⟨fun hrange => ?_, fun bank hrange hbank hbad => ?_⟩⟩⟩⟩⟩⟩
    · exact answered (by simp [startTest, hlock])
    · exact answered (by simp [startTest, hlock, hctx])
    · exact answered (by simp [startTest, hlock, hctx, hhalt])
    · exact answered (by simp [startTest, hlock, hctx, hhalt, hslot])
    · exact answered (by simp [startTest, hlock, hctx, hhalt, hslot, hstop])
    · exact answered (by simp [startTest, hlock, hctx, hhalt, hslot, hstop, orderOf_none hrange])
    · obtain ⟨-, hmode, hfits⟩ := hrange
      obtain ⟨mode, hmode⟩ := Option.isSome_iff_exists.mp hmode
      refine answered ?_
      simp only [startTest, hlock, hctx, hhalt, hslot, hstop, orderOf_some hbank hmode hfits, if_false, Option.isSome_none,
        Bool.false_eq_true]
      rcases hbad with hbad | hbad | hbad
      · simp [Bank.ready, hbad]
      · simp [Bank.ready, hbad]
      · split
        · rfl
        · simp only [weldNumberLimit, hbad, if_true]

/-! ### How much an abort adds to the queue -/

/-- R148: an offer adds one frame at most. -/
theorem offer_grows (f : OutFrame) (s : State) : (offer f s).lnp.queue.length ≤ s.lnp.queue.length + 1 := by
  unfold offer
  split
  · omega
  · split
    · simp only [Lnp.join]
      split
      · simp
      · have := List.length_erase_le (a := OutFrame.announce) (l := s.lnp.queue)
        simp; omega
    · exact (logFault_announced _ _ _ _).length

theorem requestCall_grows (dest : Nat) (body : CallBody) (s : State) :
    (requestCall dest body s).lnp.queue.length ≤ s.lnp.queue.length + 1 := by
  unfold requestCall; dsimp only
  split
  · split <;> exact offer_grows _ _
  · split <;> exact Nat.le_succ _

theorem sendLetGo_grows (s : State) : (sendLetGo s).lnp.queue.length ≤ s.lnp.queue.length + 1 := by
  unfold sendLetGo
  repeat' split
  · omega
  · omega
  · exact requestCall_grows _ _ _

/-- R127: after announced changes, giving the claim back leaves an ANNOUNCE and a YIELD more at most. -/
theorem yieldOwnClaim_grows {s0 s : State} (h : Announced s0 s) :
    (yieldOwnClaim s).lnp.queue.length ≤ s0.lnp.queue.length + 2 := by
  have hl := h.length
  unfold yieldOwnClaim; dsimp only
  split
  · omega
  · dsimp only; omega
  · dsimp only; omega
  · have hset := (h.trans ((setOwnClaim_announced 0 { s with clu := { s.clu with
      settleTimer := none, backoffTimer := none, shedTimer := none, claimWait := none } }).after rfl rfl rfl)).length
    exact (offer_grows (.yieldClaim s.weldNumber) _).trans (Nat.succ_le_succ hset)

theorem makeSafe_grows {s0 s : State} (h : Announced s0 s) : (makeSafe s).lnp.queue.length ≤ s0.lnp.queue.length + 3 := by
  have hyield := yieldOwnClaim_grows (h.trans (.of_eq (t := { s.mapSet (fun _ =>
    { current := 0, velocity := 0, force := 0, clamp := .opn }) with wsq := { s.wsq with
      stroke := .none, upsetTimer := none } }) rfl rfl rfl))
  have hlet := sendLetGo_grows (stopTensor (yieldOwnClaim { s.mapSet (fun _ =>
    { current := 0, velocity := 0, force := 0, clamp := .opn }) with wsq := { s.wsq with
      stroke := .none, upsetTimer := none } }))
  unfold makeSafe; dsimp only at *
  split
  · exact hlet.trans (by simpa using hyield)
  · exact le_trans (by simp) (hyield.trans (Nat.le_succ _))

/-- R66: what comes before the entry to STOPPING of an abort only asks for ANNOUNCEs. -/
theorem abortWeld_begins (k : FaultKind) (i : Option Int) (s : State) : Announced s (enterState .stopping (stopRegulation
    ((enterFault k i s).mapCtx (fun c => { c with abortKind := some k })))) :=
  ((enterFaultAs_announced s.wsq.seq k i s).trans (.of_eq (by simp [enterFault]) (by simp) (by simp))).trans
    (enterState_announced .stopping _)

/-- R66: an abort adds an ANNOUNCE, a YIELD and a LET_GO at most. -/
theorem abortWeld_grows (k : FaultKind) (i : Option Int) (s : State) :
    (abortWeld k i s).lnp.queue.length ≤ s.lnp.queue.length + 3 := makeSafe_grows (abortWeld_begins k i s)

/-! ### WELD_STOP -/

theorem weldStop_taken {bytes : List Byte} {source number : Nat} {s : State} (h : FrameTaken bytes source (.weldStop number) s)
    (hconsole : s.isConsole source = true) : exec (.weldStop bytes) s = .next (gateCurrent (answerCall source number
      (stopAnswer s.wsq.seq).1 (if (stopAnswer s.wsq.seq).2 then s.weldNumber else 0) (stopWeld .operatorStop s))) := by
  refine (frame_taken rfl h).trans ?_
  simp only [takeBody, takeWeldStop, hconsole, if_true]

/-- An answer changes the line and the device fault log alone. -/
theorem answerCall_keeps (dest number : Nat) (code : AnswerCode) (result : Nat) (s : State) :
    (answerCall dest number code result s).ctx = s.ctx ∧ (answerCall dest number code result s).wsq = s.wsq
    ∧ (answerCall dest number code result s).mfe = s.mfe := by
  simp [answerCall]

theorem stopAnswer_abortable {st : SeqState} (h : st.abortable = true) : stopAnswer st = (.stopping, true) := by
  cases st <;> first | rfl | cases h

theorem weldNumber_of_ctx {s : State} {c : WeldCtx} (h : s.ctx = some c) : s.weldNumber = c.weldNumber := by
  simp [State.weldNumber, State.weldNumber?, h]

/-- R66: the weld after an abort, with the abort's kind in its list or the list overflowed. -/
theorem aborted_weld {k : FaultKind} {i : Option Int} {s t : State} (h : Aborted k i s t) :
    ∃ c', t.ctx = some c' ∧ c'.abortKind = some k ∧ (c'.overflow = true ∨ k ∈ c'.faults.map (·.kind)) := by
  obtain ⟨c, c', -, hc', hsame, -⟩ := h.context
  have hlists := (addFault_lists k s.wsq.seq c).1
  exact ⟨c', hc', by rw [hsame], by rw [hsame]; exact hlists⟩

/-- Settles O37: the answer of R60 after the stop of R67, both by state. -/
theorem weldStopActsByState : Obligations.WeldStopActsByState := by
  intro bytes source number s h hs hq
  refine ⟨fun hconsole => ?_, fun hconsole => ?_⟩
  · refine (frame_taken rfl h).trans ?_
    simp only [takeBody, takeWeldStop, hconsole, Bool.false_eq_true, if_false, answerCall_room _ _ _ _ hs hq]
  have hexec := weldStop_taken h hconsole
  refine ⟨fun hseq => ?_, fun c hctx => ⟨fun hseq => ?_, fun habort => ?_, fun hhold hroom => ?_⟩⟩
  · have hstop : stopWeld .operatorStop s = s := by
      rcases hseq with hseq | hseq <;> simp [stopWeld, hseq, SeqState.abortable]
    have hcode : stopAnswer s.wsq.seq = (.idle, false) := by rcases hseq with hseq | hseq <;> rw [hseq] <;> rfl
    rw [hexec, hstop, hcode, answerCall_room _ _ _ _ hs hq]
    rfl
  · have hstop : stopWeld .operatorStop s = s := by
      rcases hseq with hseq | hseq | hseq <;> simp [stopWeld, hseq, SeqState.abortable]
    have hcode : stopAnswer s.wsq.seq = (.stopping, true) := by rcases hseq with hseq | hseq | hseq <;> rw [hseq] <;> rfl
    rw [hexec, hstop, hcode, answerCall_room _ _ _ _ hs hq, if_pos rfl, weldNumber_of_ctx hctx]
  · have haborted := abortWeld_aborted .operatorStop none s c hctx
    have hgrows := abortWeld_grows .operatorStop none s
    obtain ⟨c', hc', hkind, hlists⟩ := aborted_weld haborted
    have hwsq := haborted.wsq
    have hmfe := haborted.mfe
    rw [hexec, stopAnswer_abortable habort, stopWeld, if_pos habort, if_pos rfl, weldNumber_of_ctx hctx]
    simp only [gateCurrent_ctx, gateCurrent_wsq] at hc' hwsq
    generalize abortWeld .operatorStop none s = x at *
    have hclosed : ∀ y : State, y.wsq = x.wsq → y.gateOpen = false := fun y hy => by simp [State.gateOpen, hy, hwsq]
    rw [gateCurrent_closed x (hclosed x rfl)] at hmfe
    obtain ⟨hkctx, hkwsq, hkmfe⟩ := answerCall_keeps source number .stopping c.weldNumber x
    have hymfe := gateCurrent_closed _ (hclosed _ hkwsq)
    rw [hkmfe, hmfe] at hymfe
    refine ⟨_, rfl, by simp [hkwsq, hwsq], by rw [hymfe], by rw [hymfe], fun hroom => ?_, c', by simp [hkctx, hc'], hkind,
      hlists⟩
    rw [answerCall_room _ _ _ _ (by simpa [hwsq] using hs) (by omega)]
    simp
  · have hentered := enterFault_entered .stopInHold none s c hctx
    obtain ⟨c₀, c', hc₀, hc', hsame, -⟩ := hentered.listed
    cases hctx.symm.trans hc₀
    have hgrows := (enterFaultAs_announced s.wsq.seq .stopInHold none s).length
    have hstop : stopWeld .operatorStop s = enterFault .stopInHold none s := by
      rw [stopWeld, if_neg (by simp [hhold, SeqState.abortable]), if_pos hhold]
    have hcode : stopAnswer s.wsq.seq = (.holding, true) := by rw [hhold]; rfl
    have hwsq := hentered.wsq
    have hmfe := hentered.mfe
    rw [hexec, hstop, hcode, if_pos rfl, weldNumber_of_ctx hctx]
    rw [hhold] at hsame
    change (enterFault .stopInHold none s).lnp.queue.length ≤ _ at hgrows
    generalize enterFault .stopInHold none s = x at *
    rw [answerCall_room _ _ _ _ (by rw [hwsq]; exact hs) (by omega)]
    refine ⟨_, rfl, by simp [hwsq], ?_, by simp, c', by simp [hc'], hsame⟩
    simp [hmfe]

/-! ### HALT -/

theorem announceChange_eq (s : State) : announceChange s = { s with lnp := (announceChange s).lnp } := by
  unfold announceChange requestAnnounce
  split <;> rfl

theorem announceChange_view (s : State) : SameView s (announceChange s) := by
  constructor <;> simp

/-- R66: the entry to STOPPING of an abort keeps the number and the pair of the weld. -/
theorem abortWeld_context (k : FaultKind) (i : Option Int) {s : State} {c : WeldCtx} (h : s.ctx = some c) :
    ∃ c', (enterState .stopping (stopRegulation ((enterFault k i s).mapCtx (fun c => { c with abortKind := some k })))).ctx
      = some c' ∧ c'.weldNumber = c.weldNumber ∧ c'.pair = c.pair := by
  obtain ⟨c₁, h₁, hsame₁⟩ := (enterFaultAs_ctx s.wsq.seq k i s c h).1
  obtain ⟨c₂, h₂, hsame₂⟩ := enterState_some .stopping (stopRegulation ((enterFault k i s).mapCtx
    (fun c => { c with abortKind := some k }))) _ (by rw [stopRegulation_ctx]; simp [enterFault, h₁]; rfl)
  obtain ⟨hnumber, -, -⟩ := addFault_same k s.wsq.seq c
  have hpair : (c.addFault k s.wsq.seq).1.pair = c.pair := by
    unfold WeldCtx.addFault
    repeat' split
    all_goals rfl
  refine ⟨c₂, h₂, ?_, ?_⟩
  · rw [hsame₂, hsame₁]; exact hnumber
  · rw [hsame₂, hsame₁]; exact hpair

/-- R66, R68: an abort after an ANNOUNCE was asked for is an abort of the state before it. -/
theorem aborted_of_announced {k : FaultKind} {i : Option Int} {s : State} {c : WeldCtx} (l : Lnp) (h : s.ctx = some c)
    (hann : Announced s { s with lnp := l }) (hview : SameView s { s with lnp := l }) :
    Aborted k i s (gateCurrent (abortWeld k i { s with lnp := l })) := by
  have haborted := abortWeld_aborted k i { s with lnp := l } c h
  obtain ⟨c', hc', hnumber, hpair⟩ := abortWeld_context k i (s := { s with lnp := l }) h
  obtain ⟨hyield, hlet, hnone, -⟩ := makeSafe_line (hann.trans (abortWeld_begins k i { s with lnp := l })) c' hc'
  exact
    { context := haborted.context, logged := haborted.logged, store := haborted.store, wsq := haborted.wsq
      mfe := haborted.mfe, frg := haborted.frg, step := haborted.step, claim := haborted.claim
      claimed := haborted.claimed, watch := haborted.watch, wait := haborted.wait, waiting := haborted.waiting
      taken := haborted.taken
      yielded := fun c₀ h₀ h1 h2 h3 hs hq => by
        cases h.symm.trans h₀
        have := hyield (by simpa using h1) (by simpa using h2) (by simpa using h3) hs hq
        simpa [abortWeld, hnumber] using this
      letGo := fun c₀ p h₀ hp ha hs hq hl => by
        cases h.symm.trans h₀
        have := hlet p (hpair.trans hp) ha hs hq hl
        simpa [abortWeld, hnumber] using this
      noLetGo := fun hn => by simpa [abortWeld] using hnone hn
      owed := haborted.owed
      view := ⟨haborted.view.station.trans hview.station, haborted.view.side.trans hview.side,
        haborted.view.peers.trans hview.peers, haborted.view.announceTimer.trans hview.announceTimer,
        haborted.view.lineOkRisen.trans hview.lineOkRisen⟩
      program := ⟨haborted.program.program, haborted.program.tick, haborted.program.waiting⟩
      outside := ⟨haborted.outside.pins, haborted.outside.svp, haborted.outside.freeCount, haborted.outside.pending⟩ }

/-- R63: the state of a latched HALT. -/
def latched (s : State) : State := { s with wsq := { s.wsq with haltLatch := true } }

/-- R63, R146: setting the latch may ask for an ANNOUNCE. -/
theorem setHaltLatch_eq (s : State) : ∃ l, setHaltLatch s = { latched s with lnp := l }
    ∧ Announced (latched s) { latched s with lnp := l } ∧ SameView (latched s) { latched s with lnp := l } := by
  unfold setHaltLatch
  split
  · rename_i hl
    have heq : latched s = s := by rw [latched, ← hl]
    exact ⟨s.lnp, heq.symm, .of_eq rfl rfl rfl, ⟨rfl, rfl, rfl, rfl, rfl⟩⟩
  · have heq := announceChange_eq (latched s)
    refine ⟨_, heq, ?_, ?_⟩
    · rw [← heq]; exact announceChange_announced _
    · rw [← heq]; exact announceChange_view _

theorem haltFrame_taken {bytes : List Byte} {source : Nat} {s : State} (h : FrameTaken bytes source .halt s) :
    exec (.haltFrame bytes) s = .next (gateCurrent (stopWeld .lineHalt (setHaltLatch s))) := frame_taken rfl h

/-- Settles O40: the latch, and the stop of R67 by state. -/
theorem haltSetsTheLatch : Obligations.HaltSetsTheLatch := by
  intro bytes source s h
  obtain ⟨l, heq, hann, hview⟩ := setHaltLatch_eq s
  have hexec := haltFrame_taken h
  rw [heq] at hexec
  refine ⟨fun c hctx habort => ⟨_, hexec, ?_⟩, fun c hctx hhold => ⟨_, hexec, ?_⟩, fun habort hhold => ⟨_, hexec, ?_⟩⟩
  · rw [stopWeld, if_pos (by exact habort)]
    exact aborted_of_announced l hctx hann hview
  · rw [stopWeld, if_neg (by simp [latched, hhold, SeqState.abortable]), if_pos (by exact hhold)]
    have hentered := enterFault_entered .stopInHold none { latched s with lnp := l } c hctx
    exact
      { listed := hentered.listed, wsq := hentered.wsq, mfe := hentered.mfe, frg := hentered.frg, clu := hentered.clu
        tnl := hentered.tnl
        view := ⟨hentered.view.station.trans hview.station, hentered.view.side.trans hview.side,
          hentered.view.peers.trans hview.peers, hentered.view.announceTimer.trans hview.announceTimer,
          hentered.view.lineOkRisen.trans hview.lineOkRisen⟩
        program := ⟨hentered.program.program, hentered.program.tick, hentered.program.waiting⟩
        outside := ⟨hentered.outside.pins, hentered.outside.svp, hentered.outside.freeCount, hentered.outside.pending⟩ }
  · rw [stopWeld, if_neg (by simp [latched, habort]), if_neg (by exact hhold)]
    have hmfe : (gateCurrent { latched s with lnp := l }).mfe = (gateCurrent s).mfe := by
      unfold gateCurrent State.gateOpen latched
      dsimp only
      split <;> rfl
    refine ⟨by simp [latched], by simp [latched], by simp [latched], by simp [latched], by simp [latched], by simp [latched],
      by simp [latched], hmfe, ?_, by constructor <;> simp [latched]⟩
    exact ⟨by simpa [latched] using hview.station, by simpa [latched] using hview.side, by simpa [latched] using hview.peers,
      by simpa [latched] using hview.announceTimer, by simpa [latched] using hview.lineOkRisen⟩

/-! ### The announce timer and the start of an attempt -/

/-- R147: the conditions for an attempt, as the command tests them. -/
theorem attemptReady_iff (idleBits : Nat) (s : State) : s.attemptReady idleBits = true ↔ s.pins.lineOk = true
    ∧ s.pins.lineReset = false ∧ s.wsq.silence = false ∧ s.wsq.seq ≠ .offline ∧ s.lnp.attempt = none
    ∧ 12 + (if s.lnp.backoff then s.lnp.station * 40 else 0) ≤ idleBits := by
  have hneeded : s.lnp.idleNeeded = 12 + (if s.lnp.backoff then s.lnp.station * 40 else 0) := by
    unfold Lnp.idleNeeded; split <;> rfl
  simp [State.attemptReady, hneeded, and_assoc]

/-- Settles O43: the timer's ANNOUNCE, and the attempt under R147's conditions. -/
theorem announceTimerAndAttempts : Obligations.AnnounceTimerAndAttempts := by
  refine ⟨fun s w hw hdue => ?_, fun s hdue => ?_, fun idleBits s f rest hqueue hidle hok hreset hsilence hseq => ?_,
    fun idleBits s hnot => ?_⟩
  · have hexec : exec .announceTimer s = .next (gateCurrent (requestAnnounce { s with
        lnp := { s.lnp with announceTimer := some w.again } })) := by
      show finish (announceTick s) = _
      rw [announceTick, if_pos (by simp [timerDue, hw, hdue]), hw]
      rfl
    refine ⟨_, hexec, by simp [Timer.again], fun hs hq => ?_, ?_, ?_, by simp, by simp, by simp, by simp, by simp, by simp,
      by simp, by simp, by constructor <;> simp⟩
    · simpa using requestAnnounce_mem { s with lnp := { s.lnp with announceTimer := some w.again } } hs (.inl hq)
    · simpa using requestAnnounce_prefix { s with lnp := { s.lnp with announceTimer := some w.again } }
    · simp
  · show finish (announceTick s) = _
    rw [announceTick, if_neg (by simp [hdue])]
    rfl
  · have hready := attemptReady_iff idleBits s
    have hbegin : beginAttempt idleBits s = if s.attemptReady idleBits then
        { s with lnp := { s.lnp with attempt := some (frameBytes f s), backoff := false } } else s := by
      rw [beginAttempt, hqueue]
    refine ⟨fun hlong => ?_, fun hshort => ?_⟩
    · show finish (beginAttempt idleBits s) = _
      rw [hbegin, if_pos (hready.2 ⟨hok, hreset, hsilence, hseq, hidle, hlong⟩)]
      rfl
    · show finish (beginAttempt idleBits s) = _
      rw [hbegin, if_neg fun hr => absurd (hready.1 hr).2.2.2.2.2 (by omega)]
      rfl
  · show finish (beginAttempt idleBits s) = _
    have hsame : beginAttempt idleBits s = s := by
      unfold beginAttempt
      split
      · rfl
      · rename_i f rest hqueue
        refine if_neg fun hr => ?_
        obtain ⟨hok, hreset, hsilence, hseq, hidle, -⟩ := (attemptReady_iff idleBits s).1 hr
        simp [hqueue, hok, hreset, hsilence, hseq, hidle] at hnot
    rw [hsame]
    rfl

end Sys2Proof.Proofs.Orders

/-! The ends of a program, of an erase and of a settings write (R26, R27, R172, R177 to R180, R187); the statements
ProgramsAndErasesEnd and SettingsWritesEnd. -/
namespace Sys2Proof.Proofs.StoreEnds
open Sys2Proof Sys2Proof.Machine Sys2Proof.Proofs.Steps Sys2Proof.Proofs.Records Sys2Proof.Proofs.BoundBank
  Sys2Proof.Proofs.Resets Sys2Proof.Proofs.Outcomes

set_option Elab.async false

/-! ### The tests of the commit and of the erase ahead -/

theorem block_of_blocks {r r' : Rst} (h : r'.blocks = r.blocks) (n : Nat) : r'.block n = r.block n := by
  simp [Rst.block, h]

theorem targetIs_same {r r' : Rst} (hblocks : r'.blocks = r.blocks) (hpos : r'.writePos = r.writePos) (n : Nat) :
    TargetIs r' n ↔ TargetIs r n := by
  simp only [TargetIs, hpos, block_of_blocks hblocks]

theorem targetIs_lt {r : Rst} {n : Nat} (h : TargetIs r n) : n < 32 := by
  obtain ⟨i, -, rfl, -⟩ := h
  exact Nat.mod_lt _ (by decide)

/-- R179: the erase-ahead test leaves the condition tested. -/
theorem eraseTested_of {r : Rst} {before : Option Nat} {t : State} (hbefore : r.erase = before)
    (herase : t.rst.erase = r.testErase.erase) (hblocks : t.rst.blocks = r.blocks)
    (hpos : t.rst.writePos = r.writePos) : EraseTested before t := by
  subst hbefore
  constructor
  · intro n hn
    rw [herase, Rst.testErase, hn]
    cases r.targetBlock <;> exact hn
  · intro hnone n
    rw [herase, testErase_erase_iff r hnone n, targetBlock_iff, targetIs_same hblocks hpos, block_of_blocks hblocks]
    refine and_congr_right fun _ => ?_
    cases r.block n <;> simp [Block.isHeld]

/-- R178: the commit's test leaves a record that waits or is programmed. -/
theorem commitTested_of {r : Rst} {p : Slot} {t : State} (hp : r.slot = some p) (hslot : t.rst.slot = r.tryCommit.slot)
    (hblocks : t.rst.blocks = r.blocks) (hpos : t.rst.writePos = r.writePos) :
    ∃ q, t.rst.slot = some q ∧ q.record = p.record ∧ CommitTested p.programming t q := by
  obtain ⟨q, hq, hrecord, hprogramming⟩ := tryCommit_slot hp
  refine ⟨q, hslot.trans hq, hrecord, ?_⟩
  simp only [CommitTested, targetIs_same hblocks hpos, block_of_blocks hblocks]
  exact hprogramming

theorem tryCommit_none {r : Rst} (h : r.slot = none) : r.tryCommit.slot = none := by
  rw [Rst.tryCommit, h]
  exact h

/-! ### A block that fails -/

/-- R180: STORE_FAULT with the area or the block in the device fault log of the store. -/
def storeFaultFiled (s : State) (input : Int) : FaultLog :=
  s.rst.log.file { kind := .storeFault, state := s.wsq.seq, weldNumber := s.weldNumber?, input := some input }

/-- R180: the store after a block is marked BAD, before the erase-ahead test. -/
def badRst (n : Nat) (s : State) : Rst :=
  { s.rst.setBlock n .bad with log := storeFaultFiled s ((100 + n : Nat) : Int) }

theorem markBad_rst (n : Nat) (s : State) : (markBad n s).rst = (badRst n s).testErase := by
  unfold markBad
  dsimp only
  rw [logFault_eq]
  rfl

theorem markBad_others (n : Nat) (s : State) : (markBad n s).wsq = s.wsq ∧ (markBad n s).ctx = s.ctx
    ∧ SameOutside s (markBad n s) := by
  unfold markBad
  dsimp only
  rw [logFault_eq]
  exact ⟨rfl, rfl, rfl, rfl, rfl, rfl⟩

/-! ### The end of a program -/

theorem commitEnd_ok {s : State} {p : Slot} {n : Nat} (hp : s.rst.slot = some p) (hprog : p.programming = true)
    (hn : s.rst.targetBlock = some n) : exec (.commitEnd true) s = .next (gateCurrent { s with
      rst := ({ s.rst.setBlock n (.held (some p.record)) with writePos := (n + 1) % 32, slot := none } : Rst).testErase }) := by
  show finish (endCommit true s) = _
  rw [endCommit, hp, hn]
  dsimp only
  rw [if_neg (by simp [hprog])]
  rfl

theorem commitEnd_failed {s : State} {p : Slot} {n : Nat} (hp : s.rst.slot = some p) (hprog : p.programming = true)
    (hn : s.rst.targetBlock = some n) :
    let waiting : State := { s with rst := { s.rst with slot := some { p with programming := false } } }
    exec (.commitEnd false) s = .next (gateCurrent { markBad n waiting with rst := (badRst n waiting).testErase.tryCommit }) := by
  intro waiting
  show finish (endCommit false s) = _
  rw [endCommit, hp, hn]
  dsimp only
  rw [if_neg (by simp [hprog]), if_neg (by simp), markBad_rst]
  rfl

theorem endCommit_idle {ok : Bool} {s : State} (h : ∀ p, s.rst.slot = some p → p.programming = false) :
    endCommit ok s = s := by
  unfold endCommit
  split
  · rename_i p t hp ht
    rw [if_pos (by simp [h p hp])]
  · rfl

theorem endErase_ok {s : State} {n : Nat} (h : s.rst.erase = some n) : exec (.eraseEnd true) s =
    .next (gateCurrent { s with
      rst := ((Rst.setBlock n .erased { s.rst with erase := none }).tryCommit).testErase }) := by
  show finish (endErase true s) = _
  rw [endErase, h]
  rfl

theorem endErase_failed {s : State} {n : Nat} (h : s.rst.erase = some n) :
    let idle : State := { s with rst := { s.rst with erase := none } }
    exec (.eraseEnd false) s = .next (gateCurrent { markBad n idle with rst := (badRst n idle).testErase.tryCommit }) := by
  intro idle
  show finish (endErase false s) = _
  rw [endErase, h]
  dsimp only
  rw [if_neg (by simp), markBad_rst]
  rfl

theorem setBlock_same {r : Rst} {n : Nat} (b : Block) (h : n < r.blocks.length) : (r.setBlock n b).block n = b := by
  rw [block_setBlock, if_pos ⟨rfl, h⟩]

theorem setBlock_other {r : Rst} {n m : Nat} (b : Block) (h : m ≠ n) : (r.setBlock n b).block m = r.block m := by
  rw [block_setBlock, if_neg fun hm => h hm.1]

/-- R180: the state once a block has failed and both tests are made, with `w` the state before. -/
def blockFailed (n : Nat) (w : State) : State := gateCurrent { markBad n w with rst := (badRst n w).testErase.tryCommit }

structure BlockFailed (n : Nat) (w t : State) : Prop where
  bad     : t.rst.block n = .bad
  others  : ∀ m, m ≠ n → t.rst.block m = w.rst.block m
  erase   : EraseTested w.rst.erase t
  slot    : ∀ p, w.rst.slot = some p → ∃ q, t.rst.slot = some q ∧ q.record = p.record ∧ CommitTested p.programming t q
  empty   : w.rst.slot = none → t.rst.slot = none
  rst     : t.rst = { w.rst with
    blocks := t.rst.blocks, slot := t.rst.slot, erase := t.rst.erase, log := storeFaultFiled w ((100 + n : Nat) : Int) }
  wsq     : t.wsq = w.wsq
  ctx     : t.ctx = w.ctx
  outside : SameOutside w t

theorem blockFailed_at {n : Nat} {w : State} (h : n < w.rst.blocks.length) : BlockFailed n w (blockFailed n w) := by
  obtain ⟨hwsq, hctx, hout⟩ := markBad_others n w
  have hrst : (blockFailed n w).rst = (badRst n w).testErase.tryCommit := gateCurrent_rst _
  have hblocks : (blockFailed n w).rst.blocks = (w.rst.setBlock n .bad).blocks := by
    rw [hrst, tryCommit_blocks, testErase_blocks]; rfl
  refine
    { bad := (block_of_blocks hblocks n).trans (setBlock_same _ h)
      others := fun m hm => (block_of_blocks hblocks m).trans (setBlock_other _ hm)
      erase := eraseTested_of (r := badRst n w) rfl (by rw [hrst, tryCommit_erase]) hblocks
        (by rw [hrst, tryCommit_writePos, testErase_writePos])
      slot := fun p hp => commitTested_of (r := (badRst n w).testErase) ((testErase_slot _).trans hp) (by rw [hrst])
        (by rw [hrst, tryCommit_blocks]) (by rw [hrst, tryCommit_writePos])
      empty := fun hnone => ?_
      rst := ?_
      wsq := (gateCurrent_wsq _).trans hwsq
      ctx := (gateCurrent_ctx _).trans hctx
      outside := ⟨(gateCurrent_pins _).trans hout.pins, (gateCurrent_svp _).trans hout.svp,
        (gateCurrent_freeCount _).trans hout.freeCount, (gateCurrent_pending _).trans hout.pending⟩ }
  · rw [hrst]
    exact tryCommit_none ((testErase_slot _).trans hnone)
  · rw [hrst, tryCommit_eq, testErase_eq]
    rfl

/-- R178, R180: a program ends. -/
theorem programEnds {s : State} (hlen : s.rst.blocks.length = 32) {p : Slot} {n : Nat} (hp : s.rst.slot = some p)
    (hprog : p.programming = true) (hn : s.rst.targetBlock = some n) :
    (∃ t, exec (.commitEnd true) s = .next t ∧ t.rst.block n = .held (some p.record) ∧ t.rst.slot = none
        ∧ t.rst.writePos = (n + 1) % 32 ∧ (∀ m, m ≠ n → t.rst.block m = s.rst.block m)
        ∧ EraseTested s.rst.erase t
        ∧ t.rst = { s.rst with blocks := t.rst.blocks, slot := none, writePos := t.rst.writePos, erase := t.rst.erase }
        ∧ t.wsq = s.wsq ∧ t.ctx = s.ctx ∧ t.lnp = s.lnp ∧ SameOutside s t)
      ∧ (∃ t q, exec (.commitEnd false) s = .next t ∧ t.rst.block n = .bad
        ∧ t.rst.slot = some q ∧ q.record = p.record ∧ CommitTested false t q
        ∧ (∀ m, m ≠ n → t.rst.block m = s.rst.block m) ∧ EraseTested s.rst.erase t
        ∧ t.rst = { s.rst with
            blocks := t.rst.blocks, slot := some q, erase := t.rst.erase,
            log := storeFaultFiled s ((100 + n : Nat) : Int) }
        ∧ t.wsq = s.wsq ∧ t.ctx = s.ctx ∧ SameOutside s t) := by
  have hlt : n < s.rst.blocks.length := hlen ▸ targetIs_lt ((targetBlock_iff _ _).1 hn)
  refine ⟨⟨_, commitEnd_ok hp hprog hn, ?_, ?_, ?_, fun m hm => ?_, ?_, ?_, by simp, by simp, by simp,
    by constructor <;> simp⟩, ?_⟩
  · rw [gateCurrent_rst, block_of_blocks (testErase_blocks _)]
    exact setBlock_same _ hlt
  · rw [gateCurrent_rst]; exact testErase_slot _
  · rw [gateCurrent_rst]; exact testErase_writePos _
  · rw [gateCurrent_rst, block_of_blocks (testErase_blocks _)]
    exact setBlock_other _ hm
  · exact eraseTested_of (r := { s.rst.setBlock n (.held (some p.record)) with writePos := (n + 1) % 32, slot := none })
      rfl (by simp) (by simp) (by simp)
  · rw [gateCurrent_rst]
    dsimp only
    rw [testErase_eq]
    rfl
  · have hfailed := blockFailed_at (n := n)
      (w := { s with rst := { s.rst with slot := some { p with programming := false } } }) hlt
    obtain ⟨q, hq, hrecord, htested⟩ := hfailed.slot _ rfl
    exact ⟨_, q, commitEnd_failed hp hprog hn, hfailed.bad, hq, hrecord, htested, hfailed.others, hfailed.erase,
      hq ▸ hfailed.rst, hfailed.wsq, hfailed.ctx,
      ⟨hfailed.outside.pins, hfailed.outside.svp, hfailed.outside.freeCount, hfailed.outside.pending⟩⟩

/-- R178: the record in the slot after an erase has ended. -/
def SlotKept (s t : State) : Prop := (s.rst.slot = none → t.rst.slot = none)
  ∧ (∀ p, s.rst.slot = some p → ∃ q, t.rst.slot = some q ∧ q.record = p.record ∧ CommitTested p.programming t q)

/-- R179, R180: an erase ends. -/
theorem erase_ends {s : State} (hlen : s.rst.blocks.length = 32) {n : Nat} (hlt : n < 32) (hn : s.rst.erase = some n) :
    (∃ t, exec (.eraseEnd true) s = .next t ∧ t.rst.block n = .erased ∧ (∀ m, m ≠ n → t.rst.block m = s.rst.block m)
        ∧ SlotKept s t ∧ EraseTested none t
        ∧ t.rst = { s.rst with blocks := t.rst.blocks, slot := t.rst.slot, erase := t.rst.erase }
        ∧ t.wsq = s.wsq ∧ t.ctx = s.ctx ∧ t.lnp = s.lnp ∧ SameOutside s t)
      ∧ (∃ t, exec (.eraseEnd false) s = .next t ∧ t.rst.block n = .bad ∧ (∀ m, m ≠ n → t.rst.block m = s.rst.block m)
        ∧ SlotKept s t ∧ EraseTested none t
        ∧ t.rst = { s.rst with
            blocks := t.rst.blocks, slot := t.rst.slot, erase := t.rst.erase,
            log := storeFaultFiled s ((100 + n : Nat) : Int) }
        ∧ t.wsq = s.wsq ∧ t.ctx = s.ctx ∧ SameOutside s t) := by
  have hlt : n < s.rst.blocks.length := hlen ▸ hlt
  constructor
  · refine ⟨_, endErase_ok hn, ?_, fun m hm => ?_, ⟨fun hnone => ?_, fun p hp => ?_⟩, ?_, ?_, by simp, by simp, by simp,
      by constructor <;> simp⟩
    · rw [gateCurrent_rst, block_of_blocks (testErase_blocks _), block_of_blocks (tryCommit_blocks _)]
      exact setBlock_same _ hlt
    · rw [gateCurrent_rst, block_of_blocks (testErase_blocks _), block_of_blocks (tryCommit_blocks _)]
      exact setBlock_other _ hm
    · rw [gateCurrent_rst, testErase_slot]
      exact tryCommit_none hnone
    · exact commitTested_of (r := Rst.setBlock n .erased { s.rst with erase := none }) hp
        (by rw [gateCurrent_rst, testErase_slot]) (by simp) (by simp)
    · exact eraseTested_of (r := (Rst.setBlock n .erased { s.rst with erase := none }).tryCommit)
        (tryCommit_erase _) (by simp) (by simp) (by simp)
    · rw [gateCurrent_rst]
      dsimp only
      rw [testErase_eq, tryCommit_eq]
      rfl
  · have hfailed := blockFailed_at (n := n) (w := { s with rst := { s.rst with erase := none } }) hlt
    exact ⟨_, endErase_failed hn, hfailed.bad, hfailed.others, ⟨hfailed.empty, hfailed.slot⟩, hfailed.erase, hfailed.rst,
      hfailed.wsq, hfailed.ctx,
      ⟨hfailed.outside.pins, hfailed.outside.svp, hfailed.outside.freeCount, hfailed.outside.pending⟩⟩

/-- Settles O46: the target block, the two ends by their outcome, and an end with nothing under way. -/
theorem programsAndErasesEnd : Obligations.ProgramsAndErasesEnd := by
  refine ⟨targetBlock_iff, fun s hlen => ⟨fun p n hp hprog hn => programEnds hlen hp hprog hn,
    fun n hlt hn => erase_ends hlen hlt hn⟩, fun ok s => ⟨fun hnot => ?_, fun hnone => ?_⟩⟩
  · show finish (endCommit ok s) = _
    rw [endCommit_idle hnot]
    rfl
  · show finish (endErase ok s) = _
    rw [endErase, hnone]
    rfl

/-! ### The end of a settings write -/

/-- R26: the state once an image is written in its bank. -/
def scheduleWritten (name : BankName) (image : List Byte) (s : State) : State :=
  installOutcome .ok 0 { s with rst := { s.rst.mapBank name
    (fun _ => { image := scheduleOfImage image, valid := true, installing := false }) with
    write := none, scheduleBlock := scheduleContents name image s } }

/-- R27: the state once the write of the schedule block has failed. -/
def scheduleFailed (name : BankName) (s : State) : State :=
  failWrite 1
    { s with
      freeCount := s.freeCount + 2 * (bankImageLength + 2)
      rst := { s.rst.mapBank name (fun b => { b with installing := false }) with
        write := none
        scheduleBlock := { a := freeImage s.freeCount bankImageLength
                           b := freeImage (s.freeCount + (bankImageLength + 2)) bankImageLength } } }

theorem scheduleWriteEnd_exec {name : BankName} {image : List Byte} {s : State}
    (h : s.rst.write = some (.schedule name image)) :
    exec (.scheduleWriteEnd true) s = .next (gateCurrent (scheduleWritten name image s))
    ∧ exec (.scheduleWriteEnd false) s = .next (gateCurrent (scheduleFailed name s)) := by
  constructor
  · show finish (endScheduleWrite true s) = _
    rw [endScheduleWrite, h]
    rfl
  · show finish (endScheduleWrite false s) = _
    rw [endScheduleWrite, h]
    rfl

/-- R27, R172: what a failed write leaves: STORE_FAULT in the log and the status of the port. -/
theorem failWrite_eq (area : Nat) (s : State) : failWrite area s = { s with
    rst := { s.rst with log := storeFaultFiled s area }
    svp := { s.svp with status := .storeFault, field := 0, busy := .none }
    lnp := (failWrite area s).lnp } := by
  unfold failWrite installOutcome setStatus
  dsimp only
  rw [logFault_eq]
  rfl

theorem mapBank_log (name : BankName) (f : Bank → Bank) (r : Rst) : (r.mapBank name f).log = r.log := by
  cases name <;> rfl

/-- R26: the other half holds the working image of its bank with a fresh check, or zeros that no check matches. -/
theorem storedOfBank_cases (b : Bank) :
    (b.valid = true → storedOfBank b = { image := imageOfSchedule b.image, check := crc16 (imageOfSchedule b.image) })
    ∧ (b.valid = false → (storedOfBank b).image = List.replicate 112 0#8
      ∧ (storedOfBank b).check ≠ crc16 (storedOfBank b).image) := by
  unfold storedOfBank
  refine ⟨fun h => by rw [if_pos h]; rfl, fun h => ?_⟩
  rw [if_neg (by simp [h])]
  exact ⟨rfl, fun hcheck => absurd (blankImage_checks 112) (by
    simp only [StoredImage.checks, bankImageLength] at hcheck ⊢; simp [hcheck])⟩

/-- R26, R27: the write of the schedule block ends. -/
theorem scheduleWrite_ends {s : State} {image : List Byte} {name : BankName}
    (h : s.rst.write = some (.schedule name image)) :
    (∃ t, exec (.scheduleWriteEnd true) s = .next t
        ∧ t.bank name = { image := scheduleOfImage image, valid := true, installing := false }
        ∧ (∀ other, other ≠ name → t.bank other = s.bank other) ∧ t.rst.write = none
        ∧ t.rst.scheduleBlock = scheduleContents name image s
        ∧ t.svp = { s.svp with status := .ok, field := 0, busy := .none } ∧ t.rst.log = s.rst.log
        ∧ t.wsq = s.wsq ∧ t.ctx = s.ctx ∧ t.cap = s.cap ∧ t.pins = s.pins)
      ∧ (∃ t, exec (.scheduleWriteEnd false) s = .next t
        ∧ t.bank name = { s.bank name with installing := false }
        ∧ (∀ other, other ≠ name → t.bank other = s.bank other) ∧ t.rst.write = none
        ∧ t.svp = { s.svp with status := .storeFault, field := 0, busy := .none }
        ∧ t.rst.log = storeFaultFiled s 1
        ∧ t.wsq = s.wsq ∧ t.ctx = s.ctx ∧ t.cap = s.cap ∧ t.pins = s.pins) := by
  obtain ⟨hok, hfail⟩ := scheduleWriteEnd_exec h
  constructor
  · have hrst : (gateCurrent (scheduleWritten name image s)).rst = { s.rst.mapBank name
        (fun _ => { image := scheduleOfImage image, valid := true, installing := false }) with
        write := none, scheduleBlock := scheduleContents name image s } := gateCurrent_rst _
    refine ⟨_, hok, mapBank_same name _ s _ (by rw [hrst]) (by rw [hrst]),
      fun other hne => mapBank_other hne _ s _ (by rw [hrst]) (by rw [hrst]), by rw [hrst], by rw [hrst], gateCurrent_svp _,
      by rw [hrst]; exact mapBank_log _ _ _, gateCurrent_wsq _, gateCurrent_ctx _, gateCurrent_cap _, gateCurrent_pins _⟩
  · have hrst : (gateCurrent (scheduleFailed name s)).rst = { s.rst.mapBank name (fun b => { b with installing := false }) with
        write := none
        scheduleBlock := (gateCurrent (scheduleFailed name s)).rst.scheduleBlock
        log := storeFaultFiled s 1 } := by
      rw [gateCurrent_rst, scheduleFailed, failWrite_eq]
      simp only [storeFaultFiled, mapBank_log]
      rfl
    refine ⟨_, hfail, mapBank_same name _ s _ (by rw [hrst]) (by rw [hrst]),
      fun other hne => mapBank_other hne _ s _ (by rw [hrst]) (by rw [hrst]), by rw [hrst], ?_,
      by rw [hrst], ?_, ?_, ?_, ?_⟩
    all_goals rw [scheduleFailed, failWrite_eq]
    · exact gateCurrent_svp _
    · exact gateCurrent_wsq _
    · exact gateCurrent_ctx _
    · exact gateCurrent_cap _
    · exact gateCurrent_pins _

/-- R172: the write of the capture block ends. -/
theorem captureWrite_ends {s : State} {image : List Byte} (h : s.rst.write = some (.capture image)) :
    (∃ t, exec (.captureWriteEnd true) s = .next t
        ∧ (s.ctx = none → t.cap.program = programOfImage image ∧ t.cap.memory = [] ∧ t.cap.waiting = none
          ∧ t.cap.tick = s.cap.tick ∧ FreshRuns t.cap)
        ∧ (s.ctx.isSome = true → t.cap = { s.cap with waiting := some (programOfImage image) })
        ∧ t.rst = { s.rst with write := none, captureBlock := { image := image, check := crc16 image } }
        ∧ t.svp = { s.svp with status := .ok, field := 0, busy := .none } ∧ t.wsq = s.wsq ∧ t.ctx = s.ctx
        ∧ t.pins = s.pins)
      ∧ (∃ t, exec (.captureWriteEnd false) s = .next t ∧ t.cap = s.cap ∧ t.rst.write = none
        ∧ t.rst.bankA = s.rst.bankA ∧ t.rst.bankB = s.rst.bankB ∧ t.rst.scheduleBlock = s.rst.scheduleBlock
        ∧ t.svp = { s.svp with status := .storeFault, field := 0, busy := .none }
        ∧ t.rst.log = storeFaultFiled s 2
        ∧ t.wsq = s.wsq ∧ t.ctx = s.ctx ∧ t.pins = s.pins) := by
  constructor
  · have hexec : exec (.captureWriteEnd true) s = .next (gateCurrent (installOutcome .ok 0 (programWritten
        (programOfImage image) { s with rst := { s.rst with write := none, captureBlock := StoredImage.fresh image } }))) := by
      show finish (endCaptureWrite true s) = _
      rw [endCaptureWrite, h]
      rfl
    cases hctx : s.ctx with
    | none =>
      rw [programWritten, if_neg (by simp [hctx])] at hexec
      exact ⟨_, hexec, fun _ => by simpa [Cap.takeProgram] using takeProgram_runs (programOfImage image) s.cap,
        fun hc => by simp at hc, gateCurrent_rst _, gateCurrent_svp _, gateCurrent_wsq _, (gateCurrent_ctx _).trans hctx,
        gateCurrent_pins _⟩
    | some c =>
      rw [programWritten, if_pos (by simp [hctx])] at hexec
      exact ⟨_, hexec, fun hc => by simp at hc, fun _ => gateCurrent_cap _, gateCurrent_rst _, gateCurrent_svp _,
        gateCurrent_wsq _, (gateCurrent_ctx _).trans hctx, gateCurrent_pins _⟩
  · have hexec : exec (.captureWriteEnd false) s = .next (gateCurrent (failWrite 2 { s with
        freeCount := s.freeCount + (captureImageLength + 2)
        rst := { s.rst with write := none, captureBlock := freeImage s.freeCount captureImageLength } })) := by
      show finish (endCaptureWrite false s) = _
      rw [endCaptureWrite, h]
      rfl
    rw [failWrite_eq] at hexec
    exact ⟨_, hexec, gateCurrent_cap _, by rw [gateCurrent_rst], by rw [gateCurrent_rst], by rw [gateCurrent_rst],
      by rw [gateCurrent_rst], gateCurrent_svp _, by rw [gateCurrent_rst]; rfl, gateCurrent_wsq _, gateCurrent_ctx _,
      gateCurrent_pins _⟩

/-- Settles O47: the two writes by their outcome, and an end with no such write under way. -/
theorem settingsWritesEnd : Obligations.SettingsWritesEnd := by
  intro s image
  refine ⟨fun name h => ?_, captureWrite_ends, fun hnot ok => ?_, fun hnot ok => ?_⟩
  · obtain ⟨⟨t, hexec, hbank, hother, hwrite, hblock, hsvp, hlog, hrest⟩, hfail⟩ := scheduleWrite_ends h
    refine ⟨⟨t, hexec, hbank, hother, hwrite, ?_, ?_, hsvp, hlog, hrest⟩, hfail⟩
    · rw [hblock]
      cases name <;> rfl
    · rw [hblock]
      cases name <;> exact storedOfBank_cases _
  · show finish (endScheduleWrite ok s) = _
    have hsame : endScheduleWrite ok s = s := by
      unfold endScheduleWrite
      split
      · exact absurd (by assumption) (hnot _ _)
      · rfl
    rw [hsame]
    rfl
  · show finish (endCaptureWrite ok s) = _
    have hsame : endCaptureWrite ok s = s := by
      unfold endCaptureWrite
      split
      · exact absurd (by assumption) (hnot _)
      · rfl
    rw [hsame]
    rfl

end Sys2Proof.Proofs.StoreEnds

/-! Write transfers of the service port (R25, R171, R186, R187, R190); the statements LoadTransfersStageAndHandOver and
BadTransfersAreDiscarded. -/
namespace Sys2Proof.Proofs.Transfers
open Sys2Proof Sys2Proof.Machine Sys2Proof.Proofs.BoundBank

set_option Elab.async false

/-! ### The rows of a LOAD transfer -/

/-- R187: a LOAD command is carried out as the transfer of its kind. -/
theorem carryOut_load {c : SvpCommand} {g : LoadKind} (s : State) (h : loadKindOfCode c.kind = some g) :
    carryOut c s = loadTransfer g c s := by
  unfold loadKindOfCode at h
  unfold carryOut
  split at h
  next hk => rw [hk]; cases h; rfl
  next hk => rw [hk]; cases h; rfl
  next hk => rw [hk]; cases h; rfl
  next => cases h

theorem isLoadKind_of_code {k : Nat} {g : LoadKind} (h : loadKindOfCode k = some g) : isLoadKind k = true := by
  unfold loadKindOfCode at h
  split at h
  · rfl
  · rfl
  · rfl
  · cases h

/-- R186, R187: a LOAD transfer that is taken acts the same under each of its rows. -/
theorem load_taken {w : WriteTransfer} {c : SvpCommand} {s : State} {g : LoadKind} {i : Instr} (h : TransferTaken w c s)
    (hg : loadKindOfCode c.kind = some g)
    (hi : (i = .loadBankA w ∧ c.kind = 1) ∨ (i = .loadBankB w ∧ c.kind = 2) ∨ (i = .loadCapture w ∧ c.kind = 3)
      ∨ (i = .beginStaging w ∧ c.beginBit = true) ∨ (i = .endStaging w ∧ c.endBit = true)) :
    exec i s = .next (gateCurrent (loadTransfer g c (s.portTaken w.clockLow))) := by
  obtain ⟨b, hb, hkind, hbegin, hend⟩ := parseCommand_byte w.bytes c h.command
  have hrow (want : Byte → Bool) (hw : want b = true) :
      finish (writeTransfer want w s) = .next (gateCurrent (loadTransfer g c (s.portTaken w.clockLow))) := by
    rw [writeTransfer_taken want w c s h (by rw [hb]; exact hw), carryOut_load _ hg]
    rfl
  have hload := isLoadKind_of_code hg
  rcases hi with ⟨rfl, hk⟩ | ⟨rfl, hk⟩ | ⟨rfl, hk⟩ | ⟨rfl, hbit⟩ | ⟨rfl, hbit⟩
  · exact hrow _ (by simp [← hkind, hk])
  · exact hrow _ (by simp [← hkind, hk])
  · exact hrow _ (by simp [← hkind, hk])
  · exact hrow _ (by simp [← hkind, ← hbegin, hload, hbit])
  · exact hrow _ (by simp [← hkind, ← hend, hload, hbit])

/-! ### The staging a LOAD transfer goes on with -/

/-- R187: the buffer a LOAD transfer of kind `g` goes on with, if there is one. -/
def stagedBefore (g : LoadKind) (c : SvpCommand) (s : State) : Option (List Byte) :=
  if c.beginBit then some []
  else
    match s.svp.staging with
    | some x => if x.kind = g then some x.buffer else none
    | none => none

/-- R187: the state in which the data of a LOAD transfer joins its staging. -/
def loadBegun (clockLow : Nat) (c : SvpCommand) (s : State) : State :=
  if c.beginBit then setStatus .ok 0 (s.portTaken clockLow) else s.portTaken clockLow

theorem loadTransfer_none {g : LoadKind} {c : SvpCommand} {s : State} (clockLow : Nat) (h : stagedBefore g c s = none) :
    loadTransfer g c (s.portTaken clockLow) = setStatus .abandoned 0 (s.portTaken clockLow) := by
  unfold stagedBefore at h
  unfold loadTransfer
  by_cases hbegin : c.beginBit = true
  · rw [if_pos hbegin] at h
    cases h
  · rw [if_neg hbegin] at h ⊢
    have hstaging : (s.portTaken clockLow).svp.staging = s.svp.staging := rfl
    cases hx : s.svp.staging with
    | none => simp only [hstaging, hx]
    | some x =>
      simp only [hx] at h
      simp only [hstaging, hx]
      by_cases hkind : x.kind = g
      · rw [if_pos hkind] at h
        cases h
      · rw [if_neg hkind]

theorem loadTransfer_some {g : LoadKind} {c : SvpCommand} {s : State} {b : List Byte} (clockLow : Nat)
    (h : stagedBefore g c s = some b) : loadTransfer g c (s.portTaken clockLow)
      = appendStaging { kind := g, buffer := b } c.data c.endBit (loadBegun clockLow c s) := by
  unfold stagedBefore at h
  unfold loadTransfer loadBegun
  by_cases hbegin : c.beginBit = true
  · rw [if_pos hbegin] at h
    cases h
    rw [if_pos hbegin, if_pos hbegin]
  · rw [if_neg hbegin] at h
    rw [if_neg hbegin, if_neg hbegin]
    have hstaging : (s.portTaken clockLow).svp.staging = s.svp.staging := rfl
    cases hx : s.svp.staging with
    | none => simp [hx] at h
    | some x =>
      simp only [hx] at h
      simp only [hstaging, hx]
      by_cases hkind : x.kind = g
      · rw [if_pos hkind] at h
        cases h
        rw [if_pos hkind, ← hkind]
      · rw [if_neg hkind] at h
        cases h

/-! ### The image handed over -/

/-- R25: the checks of a bank image. -/
theorem installBank_cases (name : BankName) (image : List Byte) (s : State) :
    (s.bound name = true → installBank name image s = installOutcome .bankInUse 0 s)
    ∧ (s.bound name = false → (image.length ≠ 112 → installBank name image s = installOutcome .invalid 0 s)
      ∧ (image.length = 112 → (∀ n, firstBadField (scheduleOfImage image) = some n →
          installBank name image s = installOutcome .invalid n s)
        ∧ (firstBadField (scheduleOfImage image) = none → installBank name image s = beginScheduleWrite name image s))) := by
  unfold installBank
  refine ⟨fun h => if_pos h, fun h => ?_⟩
  rw [if_neg (by simp [h])]
  refine ⟨fun hlen => if_pos hlen, fun hlen => ?_⟩
  rw [if_neg (show ¬image.length ≠ bankImageLength from not_not.mpr hlen)]
  exact ⟨fun n hn => by rw [hn], fun hnone => by rw [hnone]⟩

/-- R171: the checks of a capture image. -/
theorem installCapture_cases (image : List Byte) (s : State) :
    (s.ctx.isSome = true → installCapture image s = installOutcome .bankInUse 0 s)
    ∧ (s.ctx = none → (image.length ≠ 348 → installCapture image s = installOutcome .invalid 0 s)
      ∧ (image.length = 348 → (∀ n, firstBadCaptureField image = some n →
          installCapture image s = installOutcome .invalid n s)
        ∧ (firstBadCaptureField image = none → installCapture image s = beginCaptureWrite image s))) := by
  unfold installCapture
  refine ⟨fun h => if_pos h, fun h => ?_⟩
  rw [if_neg (by simp [h])]
  refine ⟨fun hlen => if_pos hlen, fun hlen => ?_⟩
  rw [if_neg (show ¬image.length ≠ captureImageLength from not_not.mpr hlen)]
  exact ⟨fun n hn => by rw [hn], fun hnone => by rw [hnone]⟩

/-- R26: what the write of a bank's image changes at once. -/
theorem beginScheduleWrite_at (name : BankName) (image : List Byte) (s : State) :
    let t := gateCurrent (beginScheduleWrite name image s)
    t.svp = { s.svp with busy := .install } ∧ t.rst.write = some (.schedule name image)
    ∧ t.bank name = { s.bank name with installing := true } ∧ (∀ other, other ≠ name → t.bank other = s.bank other)
    ∧ t.ctx = s.ctx ∧ t.wsq = s.wsq := by
  intro t
  have hrst : t.rst = (beginScheduleWrite name image s).rst := gateCurrent_rst _
  exact ⟨gateCurrent_svp _, by rw [hrst]; rfl, mapBank_same name _ s t (by rw [hrst]; rfl) (by rw [hrst]; rfl),
    fun other hne => mapBank_other hne _ s t (by rw [hrst]; rfl) (by rw [hrst]; rfl), gateCurrent_ctx _, gateCurrent_wsq _⟩

theorem loadBegun_eq (clockLow : Nat) (c : SvpCommand) (s : State) : loadBegun clockLow c s = { s with
    svp := if c.beginBit then { s.svp with answer := .taken, clockLow := clockLow, status := .ok, field := 0 }
      else { s.svp with answer := .taken, clockLow := clockLow } } := by
  unfold loadBegun
  split <;> rfl

/-- R187: a full buffer that is handed over goes to the checks of its kind. -/
theorem handOver_bank {name : BankName} {g : LoadKind} (image : List Byte) (s : State) (hA : name = .a → g = .bankA)
    (hB : name = .b → g = .bankB) : handOver { kind := g, buffer := image } s
      = installBank name image (s.mapSvp (fun p => { p with staging := none })) := by
  cases name
  · rw [hA rfl]; rfl
  · rw [hB rfl]; rfl

/-- R187: data that fits joins the staging; with END the buffer is handed over. -/
theorem appendStaging_fits {g : LoadKind} {b data : List Byte} {ends : Bool} {s : State} (h : (b ++ data).length ≤ 512) :
    appendStaging { kind := g, buffer := b } data ends s =
      if ends then handOver { kind := g, buffer := b ++ data } s
      else s.mapSvp (fun p => { p with staging := some { kind := g, buffer := b ++ data } }) :=
  if_neg (show ¬stagingLimit < (b ++ data).length by unfold stagingLimit; omega)

theorem bound_iff (name : BankName) (s : State) : s.bound name = true ↔ ∃ c, s.ctx = some c ∧ c.bank = name := by
  unfold State.bound
  cases s.ctx <;> simp

/-- Settles O48: the rows of a LOAD transfer act as one; its data joins the staging, and END hands the buffer to the checks
of its kind. -/
theorem loadTransfersStageAndHandOver : Obligations.LoadTransfersStageAndHandOver := by
  refine ⟨bound_iff, fun w c s g i h hg hi => ?_⟩
  have hexec := load_taken h hg hi
  intro old p begun
  have hbegun : loadBegun w.clockLow c s = { s with svp := begun } := loadBegun_eq w.clockLow c s
  refine ⟨fun hold => ?_, fun b hold hlong => ?_, fun b hold hshort => ?_⟩
  · rw [hexec, loadTransfer_none w.clockLow hold]
    rfl
  all_goals
    have hold : stagedBefore g c s = some b := hold
    rw [loadTransfer_some w.clockLow hold, hbegun] at hexec
    rw [hexec]
  · rw [appendStaging, if_pos (by exact hlong)]
    rfl
  rw [appendStaging_fits hshort]
  refine ⟨fun hend => by rw [hend]; rfl, fun hend => ?_⟩
  rw [if_pos hend]
  constructor
  · intro name hg
    rw [handOver_bank (name := name) _ _ (by rintro rfl; exact hg) (by rintro rfl; exact hg)]
    obtain ⟨hbound, hfree⟩ := installBank_cases name (b ++ c.data) { s with svp := { begun with staging := none } }
    refine ⟨fun h => congrArg (fun x => Host.Outcome.next (gateCurrent x)) (hbound h), fun h => ?_⟩
    obtain ⟨hlength, hsized⟩ := hfree h
    refine ⟨fun hlen => congrArg (fun x => Host.Outcome.next (gateCurrent x)) (hlength hlen), fun hlen => ?_⟩
    obtain ⟨hbad, hgood⟩ := hsized hlen
    refine ⟨fun n hn => congrArg (fun x => Host.Outcome.next (gateCurrent x)) (hbad n hn), fun hnone => ?_⟩
    exact ⟨_, congrArg (fun x => Host.Outcome.next (gateCurrent x)) (hgood hnone), beginScheduleWrite_at name _ _⟩
  · rintro rfl
    obtain ⟨hweld, hfree⟩ := installCapture_cases (b ++ c.data) { s with svp := { begun with staging := none } }
    refine ⟨fun h => congrArg (fun x => Host.Outcome.next (gateCurrent x)) (hweld h), fun h => ?_⟩
    obtain ⟨hlength, hsized⟩ := hfree h
    refine ⟨fun hlen => congrArg (fun x => Host.Outcome.next (gateCurrent x)) (hlength hlen), fun hlen => ?_⟩
    obtain ⟨hbad, hgood⟩ := hsized hlen
    refine ⟨fun n hn => congrArg (fun x => Host.Outcome.next (gateCurrent x)) (hbad n hn), fun hnone => ?_⟩
    exact ⟨_, congrArg (fun x => Host.Outcome.next (gateCurrent x)) (hgood hnone), gateCurrent_svp _,
      by rw [gateCurrent_rst]; rfl, gateCurrent_cap _, gateCurrent_ctx _, gateCurrent_wsq _⟩

/-! ### Transfers that fail a check -/

/-- R185 to R190: the row of a command byte runs the transfer. -/
theorem transfer_row {w : WriteTransfer} {i : Instr} {s : State} {b : Byte}
    (hi : (i = .unknownCommandKind w ∧ (b.toNat % 32 = 0 ∨ 9 ≤ b.toNat % 32)) ∨ (i = .loadBankA w ∧ b.toNat % 32 = 1)
      ∨ (i = .loadBankB w ∧ b.toNat % 32 = 2) ∨ (i = .loadCapture w ∧ b.toNat % 32 = 3)
      ∨ (i = .beginStaging w ∧ b.getLsbD 7 = true ∧ 1 ≤ b.toNat % 32 ∧ b.toNat % 32 ≤ 3)
      ∨ (i = .endStaging w ∧ b.getLsbD 6 = true ∧ 1 ≤ b.toNat % 32 ∧ b.toNat % 32 ≤ 3)
      ∨ (i = .selectRecord w ∧ b.toNat % 32 = 4) ∨ (i = .readData w ∧ b.toNat % 32 = 5)
      ∨ (i = .readStatus w ∧ b.toNat % 32 = 6) ∨ (i = .readFaults w ∧ b.toNat % 32 = 7)
      ∨ (i = .clearFaults w ∧ b.toNat % 32 = 8)) :
    ∃ want : Byte → Bool, want b = true ∧ exec i s = finish (writeTransfer want w s) := by
  have hload (h : 1 ≤ b.toNat % 32 ∧ b.toNat % 32 ≤ 3) : isLoadKind (b.toNat % 32) = true := by
    simp only [isLoadKind, Bool.or_eq_true, beq_iff_eq]; omega
  have hunknown (h : b.toNat % 32 = 0 ∨ 9 ≤ b.toNat % 32) : isKnownKind (b.toNat % 32) = false := by
    simp only [isKnownKind, Bool.and_eq_false_iff, decide_eq_false_iff_not]; omega
  rcases hi with ⟨rfl, h⟩ | ⟨rfl, h⟩ | ⟨rfl, h⟩ | ⟨rfl, h⟩ | ⟨rfl, hbit, h⟩ | ⟨rfl, hbit, h⟩ | ⟨rfl, h⟩ | ⟨rfl, h⟩
    | ⟨rfl, h⟩ | ⟨rfl, h⟩ | ⟨rfl, h⟩
  · exact ⟨_, by simp [commandKind, hunknown h], rfl⟩
  · exact ⟨_, by simp [commandKind, h], rfl⟩
  · exact ⟨_, by simp [commandKind, h], rfl⟩
  · exact ⟨_, by simp [commandKind, h], rfl⟩
  · exact ⟨_, by simp [commandKind, commandBegins, hload h, hbit], rfl⟩
  · exact ⟨_, by simp [commandKind, commandEnds, hload h, hbit], rfl⟩
  · exact ⟨_, by simp [commandKind, h], rfl⟩
  · exact ⟨_, by simp [commandKind, h], rfl⟩
  · exact ⟨_, by simp [commandKind, h], rfl⟩
  · exact ⟨_, by simp [commandKind, h], rfl⟩
  · exact ⟨_, by simp [commandKind, h], rfl⟩

/-- R186, check 4: the counts that a kind does not take. -/
theorem countFits_false_iff (kind count : Nat) : countFits kind count = false ↔
    (kind = 4 ∧ count ≠ 1) ∨ (kind = 5 ∧ count ≠ 2) ∨ (6 ≤ kind ∧ kind ≤ 8 ∧ count ≠ 0) := by
  unfold countFits
  split
  case h_6 h4 h5 h6 h7 h8 =>
    refine ⟨fun h => absurd h (by simp), fun h => ?_⟩
    have : kind ≠ 4 ∧ kind ≠ 5 ∧ kind ≠ 6 ∧ kind ≠ 7 ∧ kind ≠ 8 := ⟨h4, h5, h6, h7, h8⟩
    omega
  all_goals simp

/-- R186: the four checks. -/
theorem commandPasses_iff (c : SvpCommand) : commandPasses c = true ↔
    c.rest.length = c.count + (if c.checkBit then 1 else 0)
    ∧ (c.checkBit = true → crc8 (c.bytes.take (2 + c.count)) = c.rest.getD c.count 0#8)
    ∧ 1 ≤ c.kind ∧ c.kind ≤ 8 ∧ countFits c.kind c.count = true := by
  unfold commandPasses isKnownKind
  cases c.checkBit <;> simp [and_assoc]

/-- R186: a command of no known kind, or with a check that fails, is discarded. -/
theorem takeCommand_failed {bytes : List Byte} {b : Byte} (s : State) (hb : commandByte? bytes = some b)
    (h : 9 ≤ b.toNat % 32 ∨ b.toNat % 32 = 0 ∨ (∃ c, parseCommand bytes = some c
      ∧ (c.rest.length ≠ c.count + (if c.checkBit then 1 else 0)
        ∨ (c.checkBit = true ∧ crc8 (c.bytes.take (2 + c.count)) ≠ c.rest.getD c.count 0#8)
        ∨ countFits c.kind c.count = false))) : takeCommand bytes s = checkFailed s := by
  unfold takeCommand
  cases hc : parseCommand bytes with
  | none => rfl
  | some c =>
    refine if_neg fun hpasses => ?_
    obtain ⟨hlen, hcheck, hlow, hhigh, hcount⟩ := (commandPasses_iff c).1 hpasses
    obtain ⟨b', hb', hkind, -, -⟩ := parseCommand_byte bytes c hc
    cases hb.symm.trans hb'
    have hkind : c.kind = b.toNat % 32 := hkind
    rcases h with h | h | ⟨c', hc', h⟩
    · omega
    · omega
    · cases hc.symm.trans hc'
      rcases h with h | ⟨hbit, h⟩ | h
      · exact h hlen
      · exact h (hcheck hbit)
      · exact absurd hcount (by simp [h])

/-- R185 to R187, R190: what the port does with a write transfer to its address. -/
theorem writeTransfer_addressed {want : Byte → Bool} {w : WriteTransfer} {s : State} {b : Byte}
    (hreset : s.pins.lineReset = false) (haddressed : writeAddressed w.bytes = true) (hb : commandByte? w.bytes = some b)
    (hw : want b = true) : writeTransfer want w s = if 25 ≤ w.clockLow then portReset s
      else if s.svp.isBusy then answered .commandRefused w.clockLow s
      else takeCommand w.bytes (answered .taken w.clockLow s) := by
  unfold writeTransfer
  rw [if_neg (by simp [hreset, haddressed, hb, hw])]
  rfl

/-- R186: one more byte of the check is eight more bits of it. -/
theorem crc8_append (bs : List Byte) (b : Byte) : crc8 (bs ++ [b]) = crcShifted 0x07#8 8 (crc8 bs ^^^ b) := by
  simp only [crc8, List.foldl_append, List.foldl_cons, List.foldl_nil, crc8Byte]
  rfl

/-- Settles O50: the ways a transfer is discarded, the checks that discard one, and the check byte. -/
theorem badTransfersAreDiscarded : Obligations.BadTransfersAreDiscarded := by
  refine ⟨fun w i s b hreset haddressed hb hi => ?_, fun q s hreset haddress hlow => ?_, fun a b n rest => rfl,
    fun c => ⟨commandPasses_iff c, countFits_false_iff c.kind c.count⟩, ⟨rfl, crc8_append⟩, fun s hreset => ?_⟩
  · obtain ⟨want, hw, hexec⟩ := transfer_row (s := s) hi
    rw [hexec, writeTransfer_addressed hreset haddressed hb hw]
    refine ⟨fun hlow hbusy hbad => ?_, fun hlow hbusy => ?_, fun hlow => ?_⟩
    · rw [if_neg (by omega), if_neg (by simp [Svp.isBusy, hbusy]), takeCommand_failed _ hb hbad]
      rfl
    · rw [if_neg (by omega), if_pos (by simp [Svp.isBusy, hbusy])]
      rfl
    · rw [if_pos hlow]
      rfl
  · show finish (readTransfer q s) = _
    rw [readTransfer, if_neg (by simp [hreset, haddress, svpAddress]), if_pos (by exact hlow)]
    rfl
  · show finish (if s.pins.lineReset then s else portReset s) = _
    rw [if_neg (by simp [hreset])]
    rfl

end Sys2Proof.Proofs.Transfers

/-! Bytes and fields, and the frame layout (R144 to R146, R153); the statement FramesSurviveTheLayout. -/
namespace Sys2Proof.Proofs.Layouts
open Sys2Proof Sys2Proof.Machine

set_option Elab.async false

/-! ### Fields of bytes -/

@[simp] theorem length_toBE (n v : Nat) : (toBE n v).length = n := by
  induction n with
  | zero => rfl
  | succ n ih => simp [toBE, ih]

@[simp] theorem length_toBESigned (n : Nat) (v : Int) : (toBESigned n v).length = n := length_toBE _ _

theorem beNat_foldl (bs : List Byte) (a : Nat) :
    bs.foldl (fun n b => n * 256 + b.toNat) a = a * 256 ^ bs.length + beNat bs := by
  unfold beNat
  induction bs generalizing a with
  | nil => simp
  | cons b bs ih =>
    simp only [List.foldl_cons, List.length_cons]
    rw [ih, ih (0 * 256 + b.toNat)]
    ring

theorem beNat_cons (b : Byte) (bs : List Byte) : beNat (b :: bs) = b.toNat * 256 ^ bs.length + beNat bs := by
  show bs.foldl _ (0 * 256 + b.toNat) = _
  rw [beNat_foldl, Nat.zero_mul, Nat.zero_add]

theorem beNat_lt (bs : List Byte) : beNat bs < 256 ^ bs.length := by
  induction bs with
  | nil => simp [beNat]
  | cons b bs ih =>
    have hb : b.toNat + 1 ≤ 256 := b.isLt
    rw [beNat_cons, List.length_cons, Nat.pow_succ]
    calc b.toNat * 256 ^ bs.length + beNat bs < b.toNat * 256 ^ bs.length + 256 ^ bs.length := by omega
      _ = (b.toNat + 1) * 256 ^ bs.length := by ring
      _ ≤ 256 * 256 ^ bs.length := Nat.mul_le_mul_right _ hb
      _ = 256 ^ bs.length * 256 := Nat.mul_comm _ _

/-- R144, R189: a field is read back as it was laid out, but for what its width cuts off. -/
theorem beNat_toBE (n v : Nat) : beNat (toBE n v) = v % 256 ^ n := by
  induction n with
  | zero => simp [toBE, beNat, Nat.mod_one]
  | succ n ih =>
    rw [toBE, beNat_cons, length_toBE, ih, BitVec.toNat_ofNat]
    show v / 256 ^ n % 256 * 256 ^ n + v % 256 ^ n = v % (256 ^ n * 256)
    rw [Nat.mod_mul]
    ring

theorem toBE_mod (n v : Nat) : toBE n (v % 256 ^ n) = toBE n v := by
  induction n generalizing v with
  | zero => rfl
  | succ n ih =>
    have hhigh : v % 256 ^ (n + 1) / 256 ^ n = v / 256 ^ n % 256 := by
      rw [Nat.pow_succ, Nat.mod_mul_right_div_self]
    have hlow : v % 256 ^ (n + 1) % 256 ^ n = v % 256 ^ n := Nat.mod_mod_of_dvd _ (Nat.pow_dvd_pow _ (Nat.le_succ n))
    rw [toBE, toBE, ← ih (v % 256 ^ (n + 1)), hlow, ih, hhigh]
    congr 1
    apply BitVec.eq_of_toNat_eq
    simp

/-- R144, R189: bytes are laid out again as they were read. -/
theorem toBE_beNat (bs : List Byte) : toBE bs.length (beNat bs) = bs := by
  induction bs with
  | nil => rfl
  | cons b bs ih =>
    have hlt := beNat_lt bs
    have hpos : 0 < 256 ^ bs.length := Nat.pow_pos (by decide)
    rw [List.length_cons, toBE, beNat_cons]
    congr 1
    · rw [Nat.add_comm, Nat.add_mul_div_right _ _ hpos, Nat.div_eq_of_lt hlt, Nat.zero_add]
      simp
    · rw [← toBE_mod, Nat.add_comm, Nat.add_mul_mod_self_right, Nat.mod_eq_of_lt hlt, ih]

theorem bytesAt_cons (bs : List Byte) (i n : Nat) (h : i < bs.length) :
    bytesAt bs i (n + 1) = bs.getD i 0#8 :: bytesAt bs (i + 1) n := by
  unfold bytesAt
  rw [List.drop_eq_getElem_cons h, List.take_succ_cons, List.getD_eq_getElem _ _ h]

theorem length_bytesAt {bs : List Byte} {i n : Nat} (h : i + n ≤ bs.length) : (bytesAt bs i n).length = n := by
  simp [bytesAt]; omega

theorem fieldAt_succ {bs : List Byte} {i n : Nat} (h : i + (n + 1) ≤ bs.length) :
    fieldAt bs i (n + 1) = byteOf bs i * 256 ^ n + fieldAt bs (i + 1) n := by
  unfold fieldAt
  rw [bytesAt_cons _ _ _ (by omega), beNat_cons, length_bytesAt (by omega)]
  rfl

@[simp] theorem fieldAt_zero (bs : List Byte) (i : Nat) : fieldAt bs i 0 = 0 := by simp [fieldAt, bytesAt, beNat]

/-- A one-byte field, 0 past the end. -/
theorem fieldAt_byte (bs : List Byte) (i : Nat) : fieldAt bs i 1 = byteOf bs i := by
  by_cases h : i < bs.length
  · rw [fieldAt_succ (by omega), fieldAt_zero]; simp
  · have hout : bs.length ≤ i := by omega
    simp [fieldAt, bytesAt, byteOf, List.drop_eq_nil_of_le hout, beNat, List.getElem?_eq_none hout]

theorem fieldAt_word {bs : List Byte} {i : Nat} (h : i + 2 ≤ bs.length) : fieldAt bs i 2 = wordOf bs i := by
  rw [fieldAt_succ h, fieldAt_byte, wordOf, Nat.pow_one, Nat.mul_comm]

theorem fieldAt_long {bs : List Byte} {i : Nat} (h : i + 4 ≤ bs.length) : fieldAt bs i 4 = longOf bs i := by
  rw [fieldAt_succ h, fieldAt_succ (by omega), fieldAt_word (by omega), longOf, wordOf, wordOf]
  ring

/-- The fields of a layout, one after the other. -/
theorem fieldBytes_cons (n v : Nat) (fs : List (Nat × Nat)) : fieldBytes ((n, v) :: fs) = toBE n v ++ fieldBytes fs := by
  have hfield : ∀ n, (List.range n).map (fun i => BitVec.ofNat 8 (v / 256 ^ (n - 1 - i))) = toBE n v := by
    intro n
    induction n with
    | zero => rfl
    | succ n ih =>
      rw [List.range_succ_eq_map, List.map_cons, List.map_map, toBE, ← ih]
      refine congrArg₂ _ (by simp) (List.map_congr_left fun i hi => ?_)
      have : n + 1 - 1 - (i + 1) = n - 1 - i := by omega
      simp only [Function.comp, Nat.succ_eq_add_one, this]
  simp only [fieldBytes, List.flatMap_cons, hfield]

@[simp] theorem fieldBytes_nil : fieldBytes [] = [] := rfl

theorem toBE_one (v : Nat) : toBE 1 v = [BitVec.ofNat 8 v] := by simp [toBE]

/-! ### The frame layout -/

/-- R144: the bytes of a frame after its sync byte, up to its check. -/
def frameBody (f : RxFrame) : List Byte :=
  BitVec.ofNat 8 (f.source * 16 + f.dest) :: BitVec.ofNat 8 f.kind :: BitVec.ofNat 8 f.payload.length :: f.payload

theorem encodeFrame_eq (f : RxFrame) : encodeFrame f = syncByte :: BitVec.ofNat 8 (f.source * 16 + f.dest)
    :: BitVec.ofNat 8 f.kind :: BitVec.ofNat 8 f.payload.length :: (f.payload ++ toBE 2 (crc16 (frameBody f)).toNat) := rfl

theorem length_encodeFrame (f : RxFrame) : (encodeFrame f).length = 6 + f.payload.length := by
  rw [encodeFrame_eq]
  simp
  omega

theorem fieldAt_append (xs ys : List Byte) (n : Nat) : fieldAt (xs ++ ys) xs.length n = beNat (ys.take n) := by
  simp [fieldAt, bytesAt]

/-- R144: a frame laid out is taken apart as the same frame, whatever follows its check. -/
theorem parse_encode {f : RxFrame} (extra : List Byte) (hs : f.source < 16) (hd : f.dest < 16) (hk : f.kind < 256)
    (hp : f.payload.length ≤ 24) : parseFrame (encodeFrame f ++ extra) = some f := by
  have hlen : (BitVec.ofNat 8 f.payload.length).toNat = f.payload.length := by simp; omega
  have hhead : (BitVec.ofNat 8 (f.source * 16 + f.dest)).toNat = f.source * 16 + f.dest := by simp; omega
  have hkind : (BitVec.ofNat 8 f.kind).toNat = f.kind := by simp; omega
  have hcheck : fieldAt (f.payload ++ (toBE 2 (crc16 (frameBody f)).toNat ++ extra)) f.payload.length 2
      = (crc16 (frameBody f)).toNat := by
    rw [fieldAt_append, List.take_left' (length_toBE 2 _), beNat_toBE, Nat.mod_eq_of_lt]
    exact (crc16 (frameBody f)).isLt
  have htake : (f.payload ++ (toBE 2 (crc16 (frameBody f)).toNat ++ extra)).take f.payload.length = f.payload :=
    List.take_left
  rw [encodeFrame_eq, List.cons_append, List.cons_append, List.cons_append, List.cons_append, List.append_assoc]
  simp only [parseFrame, ne_eq, not_true, if_false, hlen, htake]
  rw [if_neg (by unfold maxPayload; omega), if_neg (by simp; omega), if_pos (by exact hcheck), hhead, hkind]
  congr 1
  cases f
  simp only [RxFrame.mk.injEq, and_self, and_true]
  dsimp only at hs hd
  omega

/-- R144: a frame cut short anywhere is discarded. -/
theorem parse_cut {f : RxFrame} {n : Nat} (hp : f.payload.length ≤ 24) (hn : n < (encodeFrame f).length) :
    parseFrame ((encodeFrame f).take n) = none := by
  rw [length_encodeFrame] at hn
  have hlen : (BitVec.ofNat 8 f.payload.length).toNat = f.payload.length := by simp; omega
  rw [encodeFrame_eq]
  match n with
  | 0 => rfl
  | 1 => rfl
  | 2 => rfl
  | 3 => rfl
  | n + 4 =>
    simp only [List.take_succ_cons, parseFrame, ne_eq, not_true, if_false, hlen]
    rw [if_neg (by unfold maxPayload; omega), if_pos (by simp; omega)]

/-- R144: what is taken apart is a frame's layout, with what follows its check. -/
theorem parse_some {bytes : List Byte} {f : RxFrame} (h : parseFrame bytes = some f) :
    (∃ extra, bytes = encodeFrame f ++ extra) ∧ f.source < 16 ∧ f.dest < 16 ∧ f.kind < 256 ∧ f.payload.length ≤ 24 := by
  unfold parseFrame at h
  split at h
  next sync head kind len rest =>
    split at h
    · cases h
    rename_i hsync
    split at h
    · cases h
    rename_i hlong
    split at h
    · cases h
    rename_i hshort
    dsimp only at h
    split at h
    · rename_i hcheck
      obtain rfl := Option.some.inj h
      have hlen : (rest.take len.toNat).length = len.toNat := by simp; omega
      have hhead : BitVec.ofNat 8 (head.toNat / 16 * 16 + head.toNat % 16) = head := by
        rw [Nat.mul_comm, Nat.div_add_mod]; simp
      have htail : toBE 2 (crc16 (head :: kind :: len :: rest.take len.toNat)).toNat = (rest.drop len.toNat).take 2 := by
        have htwo : ((rest.drop len.toNat).take 2).length = 2 := by simp; omega
        rw [← hcheck, fieldAt, bytesAt]
        have := toBE_beNat ((rest.drop len.toNat).take 2)
        rwa [htwo] at this
      refine ⟨⟨(rest.drop len.toNat).drop 2, ?_⟩, ?_, ?_, kind.isLt, ?_⟩
      · simp only [encodeFrame_eq, frameBody, hlen, hhead, BitVec.ofNat_toNat, BitVec.setWidth_eq, htail]
        simp only [List.cons_append, List.append_assoc, List.take_append_drop]
        rw [not_not.mp hsync]
      · have := head.isLt
        dsimp only; omega
      · exact Nat.mod_lt _ (by decide)
      · simp only [hlen]
        unfold maxPayload at hlong; omega
    · cases h
  · cases h

/-- R144: one more byte of the check is eight more bits of it. -/
theorem crc16_append (bs : List Byte) (b : Byte) :
    crc16 (bs ++ [b]) = crcShifted 0x1021#16 8 (crc16 bs ^^^ (b.setWidth 16 <<< 8)) := by
  simp only [crc16, List.foldl_append, List.foldl_cons, List.foldl_nil, crc16Byte]
  rfl

/-! ### The frames sent -/

theorem stateCode_eq (st : SeqState) : st.code = stateOrder.idxOf st := by cases st <;> rfl

theorem answerCode_eq (code : AnswerCode) : code.code = answerOrder.idxOf code := by cases code <;> rfl

theorem shownWeldNumber_eq (s : State) :
    s.shownWeldNumber = match s.ctx with | some c => c.weldNumber | none => s.wsq.lastWeldNumber := by
  unfold State.shownWeldNumber State.weldNumber?
  cases s.ctx <;> rfl

/-- R144, R146: the destination, the kind and the payload of each frame sent. -/
theorem contents_eq (f : OutFrame) (s : State) : (f.contents s).1 = (sentFields s f).1
    ∧ f.kindCode = (sentFields s f).2.1 ∧ (f.contents s).2 = fieldBytes (sentFields s f).2.2 := by
  cases f with
  | announce =>
    refine ⟨rfl, rfl, ?_⟩
    simp only [OutFrame.contents, announcePayload, sentFields, fieldBytes_cons, fieldBytes_nil, List.append_nil,
      stateCode_eq, shownWeldNumber_eq, State.faultPresent, List.append_assoc]
    cases s.lnp.side <;> rcases s.wsq.lastVerdict with _ | ⟨_ | _ | _ | _⟩ <;> rfl
  | claim amount weldNumber serial =>
    exact ⟨rfl, rfl, by simp [OutFrame.contents, sentFields, fieldBytes_cons]⟩
  | yieldClaim weldNumber => exact ⟨rfl, rfl, by simp [OutFrame.contents, sentFields, fieldBytes_cons]⟩
  | call dest number body =>
    cases body <;> exact ⟨rfl, rfl, by simp [OutFrame.contents, sentFields, fieldBytes_cons, CallBody.payload]⟩
  | answer dest number code result =>
    exact ⟨rfl, rfl, by simp [OutFrame.contents, sentFields, fieldBytes_cons, answerCode_eq]⟩

/-! ### The payloads received -/

theorem sideOfCode_eq (p : List Byte) : sideOfCode (byteOf p 1) = sideRead p := by
  unfold sideRead
  generalize byteOf p 1 = x
  match x with
  | 0 => rfl
  | 1 => rfl
  | x + 2 => rfl

theorem tensorStateOfCode_eq (x : Nat) : tensorStateOfCode x = [.idle, .closing, .holding, .releasing].getD x .fault := by
  match x with
  | 0 => rfl
  | 1 => rfl
  | 2 => rfl
  | 3 => rfl
  | x + 4 => rfl

theorem unitStateOfCode_eq (x : Nat) : unitStateOfCode x = [.running, .derated].getD x .stopped := by
  match x with
  | 0 => rfl
  | 1 => rfl
  | x + 2 => rfl

/-- R144, R153: how an ANNOUNCE payload of the right length is read, by role. -/
theorem announce_reads {p : List Byte} (h : lengthFits { source := 0, dest := 0, kind := 1, payload := p } = true) :
    BodyReads p 1 (.announce (sideOfCode (fieldAt p 1 1)) (roleOfPayload p)) := by
  simp only [lengthFits, fieldAt_byte] at h
  rw [fieldAt_byte, sideOfCode_eq]
  unfold roleOfPayload
  rw [fieldAt_byte, fieldAt_byte, tensorStateOfCode_eq, unitStateOfCode_eq]
  split
  next hrole =>
    have hlen : p.length = 9 := by simpa [hrole, announceLength] using h
    rw [fieldAt_word (by omega)]
    exact .head hlen hrole
  next hrole =>
    have hlen : p.length = 7 := by simpa [hrole, announceLength] using h
    rw [fieldAt_word (by omega)]
    exact .tensor hlen hrole
  next hrole =>
    have hlen : p.length = 5 := by simpa [hrole, announceLength] using h
    rw [fieldAt_word (by omega)]
    exact .power hlen hrole
  next hrole => exact .console (by simpa [hrole, announceLength] using h) hrole
  next h1 h2 h3 h4 =>
    have hnone : announceLength (byteOf p 0) = none := by
      unfold announceLength
      split
      · exact absurd (by assumption) h1
      · exact absurd (by assumption) h2
      · exact absurd (by assumption) h3
      · exact absurd (by assumption) h4
      · rfl
    rw [hnone] at h
    have h1 : byteOf p 0 ≠ 1 := h1
    have h2 : byteOf p 0 ≠ 2 := h2
    have h3 : byteOf p 0 ≠ 3 := h3
    have h4 : byteOf p 0 ≠ 4 := h4
    exact .other (by simpa using h) (by omega)

/-- R144, R152: how a CALL payload of the right length is read, by call kind. -/
theorem call_reads {p : List Byte} (h : lengthFits { source := 0, dest := 0, kind := 4, payload := p } = true) :
    BodyReads p 4 (callOfPayload p) := by
  simp only [lengthFits, fieldAt_byte] at h
  unfold callOfPayload
  simp only [fieldAt_byte]
  split
  next hkind =>
    have hlen : p.length = 12 := by simpa [hkind, callLength] using h
    rw [fieldAt_word (by omega), fieldAt_word (by omega), fieldAt_long (by omega)]
    exact .weldStart hlen hkind
  next hkind => exact .weldStop (by simpa [hkind, callLength] using h) hkind
  next hkind => exact .setClosure (by simpa [hkind, callLength] using h) hkind
  next hkind => exact .letGo (by simpa [hkind, callLength] using h) hkind
  next h1 h2 h3 h4 =>
    have hnone : callLength (byteOf p 1) = none := by
      unfold callLength
      split
      · exact absurd (by assumption) h1
      · exact absurd (by assumption) h2
      · exact absurd (by assumption) h3
      · exact absurd (by assumption) h4
      · rfl
    rw [hnone] at h
    have h1 : byteOf p 1 ≠ 1 := h1
    have h2 : byteOf p 1 ≠ 2 := h2
    have h3 : byteOf p 1 ≠ 3 := h3
    have h4 : byteOf p 1 ≠ 4 := h4
    exact .unknownCall (by simpa using h) (by omega)

/-- R145: a body that is read stands in its payload. -/
theorem bodyReads_of_rxBody {p : List Byte} {k : Nat} {body : RxBody}
    (h : rxBody { source := 0, dest := 0, kind := k, payload := p } = some body) : BodyReads p k body := by
  unfold rxBody at h
  split at h
  · rename_i hlen
    dsimp only at h
    split at h
    · cases h; exact announce_reads hlen
    · cases h
      have hlen : p.length = 6 := by simpa [lengthFits] using hlen
      rw [fieldAt_word (by omega)]
      exact .claim hlen
    · cases h; exact .yieldClaim (by simpa [lengthFits] using hlen)
    · cases h; exact call_reads hlen
    · cases h
      have hlen : p.length = 6 := by simpa [lengthFits] using hlen
      rw [fieldAt_byte, fieldAt_byte, fieldAt_long (by omega)]
      exact .answer hlen
    · cases h; exact .halt (by simpa [lengthFits] using hlen)
    · cases h; exact .clearAll (by simpa [lengthFits] using hlen)
    · cases h
  · cases h

/-- R145: a payload with the length and the fields of a body is read as that body. -/
theorem rxBody_of_bodyReads {p : List Byte} {k : Nat} {body : RxBody} (h : BodyReads p k body) :
    rxBody { source := 0, dest := 0, kind := k, payload := p } = some body := by
  have hnone (x : Nat) (hx : x = 0 ∨ 5 ≤ x) : announceLength x = none ∧ callLength x = none := by
    match x, hx with
    | 0, _ => exact ⟨rfl, rfl⟩
    | x + 5, _ => exact ⟨rfl, rfl⟩
  have hrole (hx : byteOf p 0 = 0 ∨ 5 ≤ byteOf p 0) : roleOfPayload p = .other := by
    unfold roleOfPayload
    rw [fieldAt_byte]
    split <;> first | omega | rfl
  have hcall (hx : byteOf p 1 = 0 ∨ 5 ≤ byteOf p 1) : callOfPayload p = .unknownCall (byteOf p 0) := by
    unfold callOfPayload
    simp only [fieldAt_byte]
    split <;> first | omega | rfl
  cases h with
  | head len role =>
    simp [rxBody, lengthFits, roleOfPayload, fieldAt_byte, fieldAt_word, role, announceLength, len, sideOfCode_eq]
  | tensor len role =>
    simp [rxBody, lengthFits, roleOfPayload, fieldAt_byte, fieldAt_word, role, announceLength, len, sideOfCode_eq,
      tensorStateOfCode_eq]
  | power len role =>
    simp [rxBody, lengthFits, roleOfPayload, fieldAt_byte, fieldAt_word, role, announceLength, len, sideOfCode_eq,
      unitStateOfCode_eq]
  | console len role =>
    simp [rxBody, lengthFits, roleOfPayload, fieldAt_byte, role, announceLength, len, sideOfCode_eq]
  | other len role =>
    simp [rxBody, lengthFits, fieldAt_byte, (hnone _ role).1, hrole role, len, sideOfCode_eq]
  | claim len => simp [rxBody, lengthFits, fieldAt_word, len]
  | yieldClaim len => simp [rxBody, lengthFits, len]
  | weldStart len kind =>
    simp [rxBody, lengthFits, callOfPayload, fieldAt_byte, fieldAt_word, fieldAt_long, kind, callLength, len]
  | weldStop len kind => simp [rxBody, lengthFits, callOfPayload, fieldAt_byte, kind, callLength, len]
  | setClosure len kind => simp [rxBody, lengthFits, callOfPayload, fieldAt_byte, kind, callLength, len]
  | letGo len kind => simp [rxBody, lengthFits, callOfPayload, fieldAt_byte, kind, callLength, len]
  | unknownCall len kind => simp [rxBody, lengthFits, fieldAt_byte, (hnone _ kind).2, hcall kind, len]
  | answer len => simp [rxBody, lengthFits, fieldAt_byte, fieldAt_long, len]
  | halt len => simp [rxBody, lengthFits, len]
  | clearAll len => simp [rxBody, lengthFits, len]

/-- R145: a CALL or an ANSWER, and no other kind, needs a destination of its own. -/
theorem needsOwnDest_iff {p : List Byte} {k : Nat} {body : RxBody} (h : BodyReads p k body) :
    body.needsOwnDest = true ↔ k = 4 ∨ k = 5 := by
  cases h <;> simp [RxBody.needsOwnDest]

/-- Settles O59: the layout and its reading, the check, the frames sent and the bodies received. -/
theorem framesSurviveTheLayout : Obligations.FramesSurviveTheLayout := by
  refine ⟨fun f extra hs hd hk hp => ⟨parse_encode extra hs hd hk hp, length_encodeFrame f, fun n => parse_cut hp⟩,
    fun bytes f => parse_some, fun f hs hd => ?_, ⟨rfl, crc16_append⟩, fun f s => ?_,
    fun f body => ⟨⟨bodyReads_of_rxBody, rxBody_of_bodyReads⟩, fun h => needsOwnDest_iff (bodyReads_of_rxBody h)⟩⟩
  · simp only [fieldBytes_cons, fieldBytes_nil, toBE_one, List.append_nil, List.cons_append, List.nil_append, Nat.mul_comm 16]
    exact encodeFrame_eq f
  · obtain ⟨hdest, hkind, hpayload⟩ := contents_eq f s
    rw [frameBytes, hdest, hkind, hpayload]

end Sys2Proof.Proofs.Layouts

/-! Bank and capture images (R18 to R24, R30, R31, R170, R171); the statement BankImagesSurviveTheStore. -/
namespace Sys2Proof.Proofs.Images
open Sys2Proof Sys2Proof.Machine Sys2Proof.Proofs.Resets Sys2Proof.Proofs.Layouts

set_option Elab.async false

/-! ### Fields laid out one after the other -/

theorem fieldAt_skip (xs ys : List Byte) (i n : Nat) : fieldAt (xs ++ ys) (xs.length + i) n = fieldAt ys i n := by
  simp [fieldAt, bytesAt, List.drop_append, List.drop_eq_nil_of_le]

theorem fieldAt_first (xs ys : List Byte) : fieldAt (xs ++ ys) 0 xs.length = beNat xs := by
  simp [fieldAt, bytesAt]

/-- Fields of one width in a row: each is read back at its place. -/
theorem fieldAt_row {α : Type} (w : Nat) (g : α → Nat) (ys : List Byte) (l : List α) (i : Nat) (h : i < l.length) :
    fieldAt (l.flatMap (fun x => toBE w (g x)) ++ ys) (w * i) w = g l[i] % 256 ^ w := by
  induction l generalizing i with
  | nil => simp at h
  | cons x l ih =>
    rw [List.flatMap_cons, List.append_assoc]
    cases i with
    | zero =>
      have := fieldAt_first (toBE w (g x)) (l.flatMap (fun x => toBE w (g x)) ++ ys)
      rw [length_toBE, beNat_toBE] at this
      exact this
    | succ i =>
      have := fieldAt_skip (toBE w (g x)) (l.flatMap (fun x => toBE w (g x)) ++ ys) (w * i) w
      rw [length_toBE] at this
      rw [Nat.mul_succ, Nat.add_comm, this, ih i (by simpa using h)]
      rfl

theorem length_row {α : Type} (w : Nat) (g : α → Nat) (l : List α) :
    (l.flatMap (fun x => toBE w (g x))).length = w * l.length := by
  induction l with
  | nil => rfl
  | cons x l ih => rw [List.flatMap_cons, List.length_append, length_toBE, ih, List.length_cons]; ring

theorem toBE_fieldAt {bs : List Byte} {i n : Nat} (h : i + n ≤ bs.length) : toBE n (fieldAt bs i n) = bytesAt bs i n := by
  have := toBE_beNat (bytesAt bs i n)
  rwa [length_bytesAt h] at this

theorem fieldAt_lt (bs : List Byte) (i n : Nat) : fieldAt bs i n < 256 ^ n := by
  refine (beNat_lt _).trans_le (Nat.pow_le_pow_right (by decide) ?_)
  simp [bytesAt]

/-! ### A schedule and its image -/

/-- R18 to R23: what a field that is good says of its figure. -/
theorem fieldGood_iff (k : Schedule) (i : Nat) : fieldGood k i = true ↔ (fieldRanges.getD (i - 1) (0, 0)).1 ≤ k.get i
    ∧ k.get i ≤ (fieldRanges.getD (i - 1) (0, 0)).2 ∧ pairingHolds k i = true := by
  simp [fieldGood, and_assoc]

/-- R24: a good figure fits the bytes of its field. -/
theorem fits_of_good {k : Schedule} {i : Nat} (hlow : 1 ≤ i) (hhigh : i ≤ 54) (h : fieldGood k i = true) :
    (i ≤ 52 → k.get i < 65536) ∧ k.get i < 4294967296 := by
  obtain ⟨-, hle, -⟩ := (fieldGood_iff k i).1 h
  have hends : ∀ i, 1 ≤ i → i ≤ 54 → (i ≤ 52 → (fieldRanges.getD (i - 1) (0, 0)).2 < 65536)
      ∧ (fieldRanges.getD (i - 1) (0, 0)).2 < 4294967296 := by
    intro i h1 h2
    interval_cases i <;> decide
  obtain ⟨hword, hlong⟩ := hends i hlow hhigh
  exact ⟨fun hi => lt_of_le_of_lt hle (hword hi), lt_of_le_of_lt hle hlong⟩

/-- R24: the two-byte fields of an image. -/
def wordRow (k : Schedule) : List Byte := (List.range' 1 52).flatMap (fun i => toBE 2 (k.get i))

theorem imageOfSchedule_eq (k : Schedule) :
    imageOfSchedule k = wordRow k ++ (toBE 4 (k.get 53) ++ (toBE 4 (k.get 54) ++ [])) := by
  rw [List.append_nil, ← List.append_assoc]; rfl

theorem length_wordRow (k : Schedule) : (wordRow k).length = 104 := length_row 2 k.get _

theorem length_imageOfSchedule (k : Schedule) : (imageOfSchedule k).length = 112 := by
  rw [imageOfSchedule_eq]
  simp [length_wordRow]

/-- R24: each field of a schedule's image is read at its place. -/
theorem imageOfSchedule_fields (k : Schedule) :
    (∀ i, i < 52 → fieldAt (imageOfSchedule k) (2 * i) 2 = k.get (i + 1) % 65536)
    ∧ fieldAt (imageOfSchedule k) 104 4 = k.get 53 % 4294967296
    ∧ fieldAt (imageOfSchedule k) 108 4 = k.get 54 % 4294967296 := by
  rw [imageOfSchedule_eq]
  have hskip (i n : Nat) (ys : List Byte) : fieldAt (wordRow k ++ ys) (104 + i) n = fieldAt ys i n := by
    have := fieldAt_skip (wordRow k) ys i n
    rwa [length_wordRow] at this
  refine ⟨fun i hi => ?_, ?_, ?_⟩
  · have := fieldAt_row 2 k.get (toBE 4 (k.get 53) ++ (toBE 4 (k.get 54) ++ [])) (List.range' 1 52) i (by simpa using hi)
    rw [List.getElem_range'] at this
    rw [wordRow, this, Nat.one_mul, Nat.add_comm]
    rfl
  · rw [hskip 0 4]
    exact (fieldAt_first (toBE 4 (k.get 53)) _).trans (beNat_toBE 4 _)
  · rw [hskip 4 4]
    exact (fieldAt_skip (toBE 4 (k.get 53)) _ 0 4).trans ((fieldAt_first (toBE 4 (k.get 54)) []).trans (beNat_toBE 4 _))

theorem scheduleOfImage_get (image : List Byte) : (∀ i, 1 ≤ i → i ≤ 52 →
      (scheduleOfImage image).get i = fieldAt image (2 * (i - 1)) 2)
    ∧ (scheduleOfImage image).get 53 = fieldAt image 104 4 ∧ (scheduleOfImage image).get 54 = fieldAt image 108 4 := by
  refine ⟨fun i h1 h2 => ?_, ?_, ?_⟩
  · have hlt : i - 1 < 52 := by omega
    simp [Schedule.get, scheduleOfImage, List.getD_eq_getElem?_getD, List.getElem?_append, hlt]
  · simp [Schedule.get, scheduleOfImage]
  · simp [Schedule.get, scheduleOfImage]

/-- R24: a schedule of 54 good figures is read back whole from its image. -/
theorem schedule_round {k : Schedule} (hlen : k.fields.length = 54) (hgood : ∀ i, 1 ≤ i → i ≤ 54 → fieldGood k i = true) :
    scheduleOfImage (imageOfSchedule k) = k := by
  obtain ⟨hwords, h53, h54⟩ := imageOfSchedule_fields k
  have hget (i : Nat) (hi : i < 54) : k.fields[i] = k.get (i + 1) := by
    rw [Schedule.get, Nat.add_sub_cancel, List.getD_eq_getElem _ _ (by omega)]
  have hfits (i : Nat) (hi : i < 54) := fits_of_good (by omega) (by omega) (hgood (i + 1) (by omega) (by omega))
  have hfields : (scheduleOfImage (imageOfSchedule k)).fields = k.fields := by
    refine List.ext_getElem (by simp [scheduleOfImage, hlen]) fun i h1 h2 => ?_
    rw [hget i (by omega)]
    simp only [scheduleOfImage, List.getElem_append, List.length_map, List.length_range, List.getElem_map,
      List.getElem_range]
    split
    next hi => rw [hwords i hi, Nat.mod_eq_of_lt ((hfits i (by omega)).1 (by omega))]
    next hi =>
      have hlast : i = 52 ∨ i = 53 := by omega
      rcases hlast with rfl | rfl
      · exact h53.trans (Nat.mod_eq_of_lt (hfits 52 (by omega)).2)
      · exact h54.trans (Nat.mod_eq_of_lt (hfits 53 (by omega)).2)
  cases k
  exact congrArg Schedule.mk hfields

/-- Bytes taken two at a time, from the start on. -/
theorem pairs_of_bytes (bs : List Byte) (n : Nat) :
    (List.range' 1 n).flatMap (fun i => bytesAt bs (2 * (i - 1)) 2) = bs.take (2 * n) := by
  induction n with
  | zero => simp
  | succ n ih =>
    rw [List.range'_1_concat, List.flatMap_append, ih, Nat.mul_succ, List.take_add]
    simp [bytesAt]

/-- R24: an image of 112 bytes is laid out again as it was read. -/
theorem image_round {image : List Byte} (hlen : image.length = 112) : imageOfSchedule (scheduleOfImage image) = image := by
  obtain ⟨hget, h53, h54⟩ := scheduleOfImage_get image
  have hwords : wordRow (scheduleOfImage image) = image.take 104 := by
    rw [wordRow, ← pairs_of_bytes image 52]
    refine List.flatMap_congr fun i hi => ?_
    obtain ⟨h1, h2⟩ := List.mem_range'_1.1 hi
    rw [hget i h1 (by omega), toBE_fieldAt (by omega)]
  rw [imageOfSchedule_eq, hwords, h53, h54, toBE_fieldAt (by omega), toBE_fieldAt (by omega), List.append_nil]
  simp only [bytesAt]
  rw [← List.append_assoc, ← List.take_add, ← List.take_add, List.take_of_length_le (by omega)]

/-! ### The lowest bad field -/

/-- R25, R171: the first bad field in the order of the numbers is the lowest bad one. -/
theorem lowestBad_find (good : Nat → Bool) (last : Nat) :
    LowestBad good last ((List.range' 1 last).find? (fun i => !good i)) := by
  intro n
  rw [List.find?_range'_eq_some]
  simp only [List.mem_range'_1, Bool.not_eq_true', Bool.not_not]
  constructor
  · rintro ⟨hbad, ⟨h1, h2⟩, hbefore⟩
    exact ⟨h1, by omega, hbad, hbefore⟩
  · rintro ⟨h1, h2, hbad, hbefore⟩
    exact ⟨hbad, ⟨h1, by omega⟩, hbefore⟩

/-! ### The fields of a schedule -/

/-- R18 to R23: a field is good exactly in its range and under its pairing condition. -/
theorem fieldGood_iff_fits (image : List Byte) {i : Nat} (h1 : 1 ≤ i) (h2 : i ≤ 54) :
    fieldGood (scheduleOfImage image) i = true ↔ FieldFits (scheduleOfImage image) i := by
  have hword (i : Nat) (h1 : 1 ≤ i) (h2 : i ≤ 52) : (scheduleOfImage image).get i ≤ 65535 := by
    rw [(scheduleOfImage_get image).1 i h1 h2]
    exact Nat.le_of_lt_succ (fieldAt_lt image _ 2)
  have h43 := hword 43 (by decide) (by decide)
  have h50 := hword 50 (by decide) (by decide)
  generalize scheduleOfImage image = k at *
  rw [fieldGood_iff]
  interval_cases i <;> simp only [FieldFits, pairingHolds, fieldRanges, List.cons_append, List.nil_append,
    List.getD_cons_zero, List.getD_cons_succ, decide_eq_true_eq, Nat.reduceSub, and_true] <;>
    simp only [Schedule.area, Schedule.alpha, Schedule.tauG, Schedule.tauN, Schedule.fLim, Schedule.tauF, Schedule.workingGap,
    Schedule.clampMin, Schedule.openThreshold, Schedule.nPre, Schedule.pattern, Schedule.tC, Schedule.tO, Schedule.groupG,
    Schedule.tR, Schedule.iPre, Schedule.iContact, Schedule.vApp, Schedule.dOpen, Schedule.cPre, Schedule.rC,
    Schedule.bandwidth, Schedule.unstableLimit, Schedule.stepS, Schedule.kLim, Schedule.vS, Schedule.vE, Schedule.bMin,
    Schedule.bF, Schedule.bMax, Schedule.iFlash, Schedule.vShort, Schedule.iShort, Schedule.tFz, Schedule.dB,
    Schedule.freezeLimit, Schedule.strokeLimit, Schedule.dBoost, Schedule.vBoost, Schedule.iBoost, Schedule.vUp,
    Schedule.dU, Schedule.dUMin, Schedule.fUpMax, Schedule.tUc, Schedule.iUpset, Schedule.fH, Schedule.tH, Schedule.demand,
    Schedule.dMin, Schedule.claimWait, Schedule.tensorWait, Schedule.eMin, Schedule.eMax] <;> omega

/-! ### The fields of a capture program -/

theorem indexGood_iff (image : List Byte) (v : Nat) : indexGood image v = true ↔ NamesUsed image v := by
  simp [indexGood, NamesUsed, descCount, fieldAt_byte]

/-- R171: the channel list of a descriptor is good: as many codes from 1 to 12 as its count, all different, and zeros in
the places after them. -/
theorem channelsGood_iff (image : List Byte) (d : Nat) : channelsGood image d = true ↔
    byteOf image (12 + 14 * d) ≤ 4 ∧ (0 < byteOf image (12 + 14 * d) →
      (∀ i, i < byteOf image (12 + 14 * d) →
        1 ≤ byteOf image (12 + 14 * d + 1 + i) ∧ byteOf image (12 + 14 * d + 1 + i) ≤ 12)
      ∧ (∀ i j, i < j → j < byteOf image (12 + 14 * d) →
        byteOf image (12 + 14 * d + 1 + i) ≠ byteOf image (12 + 14 * d + 1 + j))
      ∧ ∀ i, byteOf image (12 + 14 * d) ≤ i → i < 4 → byteOf image (12 + 14 * d + 1 + i) = 0) := by
  have hcode (i : Nat) : fieldAt image (13 + 14 * d + i) 1 = byteOf image (12 + 14 * d + 1 + i) := by
    rw [fieldAt_byte]
    congr 1; omega
  simp only [channelsGood, descCount, fieldAt_byte (i := 12 + 14 * d), hcode]
  generalize byteOf image (12 + 14 * d) = n
  generalize hf : (fun i => byteOf image (12 + 14 * d + 1 + i)) = f
  have hf' (i : Nat) : byteOf image (12 + 14 * d + 1 + i) = f i := by rw [← hf]
  simp only [hf']
  by_cases hn : n ≤ 4
  · have htake : ((List.range 4).map f).take n = (List.range n).map f := by
      rw [← List.map_take, List.take_range, Nat.min_eq_left hn]
    have hrest : (((List.range 4).map f).drop n).all (· == 0) = true ↔ ∀ i, n ≤ i → i < 4 → f i = 0 := by
      simp only [List.all_eq_true, beq_iff_eq, List.mem_iff_getElem, List.getElem_drop, List.getElem_map,
        List.getElem_range, List.length_drop, List.length_map, List.length_range]
      constructor
      · exact fun h i hi h4 => h (f i) ⟨i - n, by omega, by congr 1; omega⟩
      · rintro h x ⟨i, hi, rfl⟩
        exact h _ (by omega) (by omega)
    have hdistinct : decide ((List.range n).map f).Nodup = true ↔ ∀ i j, i < j → j < n → f i ≠ f j := by
      rw [decide_eq_true_eq, List.Nodup, List.pairwise_iff_getElem]
      simp only [List.getElem_map, List.getElem_range, List.length_map, List.length_range]
      exact ⟨fun h i j hij hj => h i j (by omega) hj hij, fun h i j _ hj hij => h i j hij hj⟩
    rw [htake, Bool.or_eq_true, Bool.and_eq_true, Bool.and_eq_true, Bool.and_eq_true, hrest, hdistinct]
    simp only [beq_iff_eq, hn, decide_true, true_and, List.all_map, List.all_eq_true, List.mem_range, Function.comp,
      Bool.and_eq_true, decide_eq_true_eq, and_assoc]
    constructor
    · rintro (h0 | h) hpos
      · omega
      · exact h
    · intro h
      by_cases h0 : n = 0
      · exact .inl h0
      · exact .inr (h (by omega))
  · have : n ≠ 0 := by omega
    simp [hn, this]

/-- R171: the seven fields of a descriptor, and the vectors before them. -/
theorem captureFieldGood_iff {image : List Byte} (hlen : image.length = 348) {n : Nat} (h2 : n ≤ 180) :
    captureFieldGood image n = true ↔ CaptureFieldFits image n := by
  unfold captureFieldGood CaptureFieldFits
  split
  · rw [indexGood_iff, fieldAt_byte]
  · have hd : (n - 13) / 7 ≤ 23 := by omega
    have hj : (n - 13) % 7 < 7 := Nat.mod_lt _ (by decide)
    dsimp only
    generalize (n - 13) / 7 = d at hd ⊢
    have hcount : descCount image d = byteOf image (12 + 14 * d) := fieldAt_byte _ _
    rw [fieldAt_word (i := 12 + 14 * d + 6) (by omega), fieldAt_word (i := 12 + 14 * d + 8) (by omega),
      fieldAt_word (i := 12 + 14 * d + 10) (by omega), hcount]
    have himp (p : Bool) (q : Prop) (h : p = true ↔ q) :
        (byteOf image (12 + 14 * d) == 0 || p) = true ↔ (0 < byteOf image (12 + 14 * d) → q) := by
      rw [← h, Bool.or_eq_true, beq_iff_eq, Nat.pos_iff_ne_zero]
      exact Decidable.or_iff_not_imp_left
    generalize (n - 13) % 7 = j at hj ⊢
    interval_cases j
    · exact channelsGood_iff image d
    · exact himp _ _ (by simp [fieldAt_byte])
    · exact himp _ _ (by simp)
    · exact himp _ _ (by simp [and_assoc])
    · exact himp _ _ (by simp)
    · exact himp _ _ (by rw [← fieldAt_byte]; exact indexGood_iff _ _)
    · exact himp _ _ (by simp [fieldAt_byte])

/-! ### The program of an image -/

theorem indexOfByte_eq (image : List Byte) (i : Nat) :
    indexOfByte (fieldAt image i 1) = if byteOf image i = 255 then none else some (byteOf image i) := by
  rw [fieldAt_byte]; rfl

/-- R163: the channel of a code. -/
theorem channelOfCode_eq {v : Nat} (h1 : 1 ≤ v) (h2 : v ≤ 12) :
    channelOfCode v = some (channelOrder.getD (v - 1) .current) := by
  interval_cases v <;> rfl

/-- R170: an image whose fields are all good reads as the program of R170. -/
theorem programOf_good {image : List Byte} (hlen : image.length = 348)
    (hgood : ∀ n, 1 ≤ n → n ≤ 180 → captureFieldGood image n = true) : ProgramOf image (programOfImage image) := by
  have hdesc (d : Nat) (hd : d < 24) :
      (programOfImage image).descriptors.getD d none = descriptorOfImage image d := by
    simp [programOfImage, List.getD_eq_getElem?_getD, hd]
  have hcount (d : Nat) : descCount image d = byteOf image (12 + 14 * d) := fieldAt_byte _ _
  refine ⟨⟨by simp [programOfImage], by simp [programOfImage]⟩, fun i hi => ?_, fun d hd hzero => ?_, fun d hd hpos => ?_⟩
  · rw [← indexOfByte_eq]
    simp [programOfImage, List.getD_eq_getElem?_getD, hi]
  · rw [hdesc d hd, descriptorOfImage, hcount]
    exact if_pos hzero
  · have hchannels := (captureFieldGood_iff hlen (n := 13 + 7 * d) (by omega)).1 (hgood _ (by omega) (by omega))
    have hdiv : (13 + 7 * d - 13) / 7 = d := by omega
    have hmod : (13 + 7 * d - 13) % 7 = 0 := by omega
    unfold CaptureFieldFits at hchannels
    rw [if_neg (by omega), hdiv, hmod] at hchannels
    obtain ⟨-, hcodes⟩ := hchannels
    obtain ⟨hcodes, -, -⟩ := hcodes hpos
    intro at0
    rw [hdesc d hd, descriptorOfImage, hcount]
    refine (if_neg (by omega)).trans (congrArg some ?_)
    have hlist : (List.range (byteOf image at0)).filterMap (fun i => channelOfCode (fieldAt image (at0 + 1 + i) 1))
        = (List.range (byteOf image at0)).map (fun i => channelOrder.getD (byteOf image (at0 + 1 + i) - 1) .current) := by
      rw [List.filterMap_eq_map_iff_forall_eq_some]
      intro i hi
      obtain ⟨hlow, hhigh⟩ := hcodes i (List.mem_range.1 hi)
      rw [fieldAt_byte]
      exact channelOfCode_eq hlow hhigh
    have hflag (i : Nat) : (fieldAt image i 1 == 1) = decide (byteOf image i = 1) := by
      rw [fieldAt_byte]; rfl
    have h6 := fieldAt_word (bs := image) (i := at0 + 6) (by omega)
    have h8 := fieldAt_word (bs := image) (i := at0 + 8) (by omega)
    have h10 := fieldAt_word (bs := image) (i := at0 + 10) (by omega)
    change Descriptor.mk _ _ _ _ _ _ _ = Descriptor.mk _ _ _ _ _ _ _
    rw [← hlist, ← hflag, ← hflag, ← h6, ← h8, ← h10, ← indexOfByte_eq]

/-! ### A stored image -/

theorem checks_iff (m : StoredImage) : m.checks = true ↔ m.check = crc16 m.image := by
  rw [StoredImage.checks, beq_iff_eq]
  exact eq_comm

/-- Settles O60: the two round trips, the checks field by field, and the image in the store. -/
theorem bankImagesSurviveTheStore : Obligations.BankImagesSurviveTheStore := by
  refine ⟨fun k hlen hgood => ?_, fun image hlen => ?_, fun image i h1 h2 => fieldGood_iff_fits image h1 h2,
    fun k => lowestBad_find _ 54, fun image => lowestBad_find _ 180,
    fun image hlen => ⟨fun n _ h2 => captureFieldGood_iff hlen h2, programOf_good hlen⟩, checks_iff⟩
  · have hround := schedule_round hlen hgood
    refine ⟨length_imageOfSchedule k, hround, ?_⟩
    rw [bankOfStored_good (m := { image := imageOfSchedule k, check := crc16 (imageOfSchedule k) })
      ⟨(checks_iff _).2 rfl, by rw [hround]; exact hgood⟩, hround]
  · obtain ⟨hget, h53, h54⟩ := scheduleOfImage_get image
    refine ⟨image_round hlen, fun i h1 h2 => ?_, ?_, ?_⟩
    · rw [hget i h1 h2, fieldAt_word (by omega)]
    · rw [h53, fieldAt_long (by omega)]
    · rw [h54, fieldAt_long (by omega)]

end Sys2Proof.Proofs.Images

/-! The read side of the service port, and its images (R177, R184, R185, R188, R189); the statement
RecordsAndImagesAreRead. -/
namespace Sys2Proof.Proofs.ServiceReads
open Sys2Proof Sys2Proof.Machine Sys2Proof.Proofs.Records Sys2Proof.Proofs.Layouts Sys2Proof.Proofs.Images
  Sys2Proof.Proofs.Orders

set_option Elab.async false

/-! ### Fields of a layout, found by their places -/

theorem fieldAt_drop (bs : List Byte) (i j n : Nat) : fieldAt bs (i + j) n = fieldAt (bs.drop i) j n := by
  simp [fieldAt, bytesAt, List.drop_drop]

theorem fieldAt_past (xs ys : List Byte) {i : Nat} (n : Nat) (h : xs.length ≤ i) :
    fieldAt (xs ++ ys) i n = fieldAt ys (i - xs.length) n := by
  rw [← fieldAt_skip xs ys (i - xs.length) n]
  congr 1; omega

/-- A field after another. -/
theorem fieldAt_toBE_past (w v : Nat) (ys : List Byte) {i : Nat} (n : Nat) (h : w ≤ i) :
    fieldAt (toBE w v ++ ys) i n = fieldAt ys (i - w) n := by
  have := fieldAt_past (toBE w v) ys n (i := i) (by simpa using h)
  rwa [length_toBE] at this

theorem fieldAt_signed_past (w : Nat) (v : Int) (ys : List Byte) {i : Nat} (n : Nat) (h : w ≤ i) :
    fieldAt (toBESigned w v ++ ys) i n = fieldAt ys (i - w) n := fieldAt_toBE_past _ _ _ _ h

theorem fieldAt_toBE (n v : Nat) (ys : List Byte) : fieldAt (toBE n v ++ ys) 0 n = v % 256 ^ n := by
  have := fieldAt_first (toBE n v) ys
  rwa [length_toBE, beNat_toBE] at this

/-- R189: a signed field stands in two's complement. -/
theorem fieldAt_signed (n : Nat) (v : Int) (ys : List Byte) :
    (fieldAt (toBESigned n v ++ ys) 0 n : Int) = v % (256 ^ n : Nat) := by
  have hpos : (0 : Int) < ((256 ^ n : Nat) : Int) := by exact_mod_cast Nat.pow_pos (n := n) (show 0 < 256 by decide)
  have hnonneg := Int.emod_nonneg v hpos.ne'
  have hlt := Int.emod_lt_of_pos v hpos
  rw [toBESigned, fieldAt_toBE, Nat.mod_eq_of_lt (by omega), Int.toNat_of_nonneg hnonneg]

/-- Blocks of one width in a row: the block of index `i` begins at its place. -/
theorem drop_row {α : Type} {w : Nat} {g : α → List Byte} (hg : ∀ x, (g x).length = w) (ys : List Byte) (l : List α) (i : Nat)
    (h : i < l.length) : ∃ rest, (l.flatMap g ++ ys).drop (w * i) = g l[i] ++ rest := by
  induction l generalizing i with
  | nil => simp at h
  | cons x l ih =>
    rw [List.flatMap_cons, List.append_assoc]
    cases i with
    | zero => exact ⟨_, rfl⟩
    | succ i =>
      obtain ⟨rest, hrest⟩ := ih i (by simpa using h)
      refine ⟨rest, ?_⟩
      rw [Nat.mul_succ, Nat.add_comm, ← List.drop_drop, List.drop_left' (hg x), hrest]
      rfl

theorem length_blocks {α : Type} {w : Nat} {g : α → List Byte} (hg : ∀ x, (g x).length = w) (l : List α) :
    (l.flatMap g).length = w * l.length := by
  induction l with
  | nil => rfl
  | cons x l ih => rw [List.flatMap_cons, List.length_append, hg, ih, List.length_cons]; ring

/-! ### The record image -/

/-- R189: the bytes of one of the eight places of the fault list. -/
def faultPlace (fs : List FaultEntry) (i : Nat) : List Byte := (fs[i]?).elim [0#8, 0#8, 0#8] faultEntryBytes

theorem length_faultPlace (fs : List FaultEntry) (i : Nat) : (faultPlace fs i).length = 3 := by
  unfold faultPlace
  cases fs[i]? <;> simp [faultEntryBytes]

theorem faultListBytes_eq (fs : List FaultEntry) : faultListBytes fs = (List.range 8).flatMap (faultPlace fs) := rfl

theorem length_faultListBytes (fs : List FaultEntry) : (faultListBytes fs).length = 24 :=
  length_blocks (length_faultPlace fs) _

theorem length_traceEntryBytes (e : TraceEntry) : (traceEntryBytes e).length = 6 := by simp [traceEntryBytes]

/-- R189: the fields of a record before its fault list, the list, and what follows it. -/
theorem recordImage_parts (w : WeldRecord) : ∃ first : List Byte, first.length = 55
    ∧ recordImage w = first ++ (faultListBytes w.faults ++ (toBE 2 w.trace.length ++ (w.trace.flatMap traceEntryBytes ++ []))) := by
  refine ⟨?first, ?length, ?parts⟩
  case parts =>
    unfold recordImage
    simp only [List.append_nil, ← List.append_assoc]
    rfl
  case length => simp

theorem length_recordImage (w : WeldRecord) : (recordImage w).length = 81 + 6 * w.trace.length := by
  obtain ⟨first, hlen, heq⟩ := recordImage_parts w
  have htrace := length_blocks length_traceEntryBytes w.trace
  rw [heq]
  simp only [List.length_append, hlen, length_faultListBytes, length_toBE, htrace, List.length_nil]
  omega

/-- R189: the fault list of a record stands from byte 55 on, three bytes to an entry. -/
theorem recordImage_fault (w : WeldRecord) (i : Nat) (h : i < 8) :
    ∃ rest, ∀ j n, fieldAt (recordImage w) (55 + 3 * i + j) n = fieldAt (faultPlace w.faults i ++ rest) j n := by
  obtain ⟨first, hlen, heq⟩ := recordImage_parts w
  obtain ⟨rest, hrest⟩ := drop_row (length_faultPlace w.faults)
    (toBE 2 w.trace.length ++ (w.trace.flatMap traceEntryBytes ++ [])) (List.range 8) i (by simpa using h)
  refine ⟨rest, fun j n => ?_⟩
  rw [fieldAt_drop, ← List.drop_drop, heq, List.drop_left' hlen, faultListBytes_eq, hrest, List.getElem_range]

/-- R189: the kept trace of a record stands from byte 81 on, six bytes to an entry. -/
theorem recordImage_trace (w : WeldRecord) (i : Nat) (h : i < w.trace.length) :
    ∃ rest, ∀ j n, fieldAt (recordImage w) (81 + 6 * i + j) n = fieldAt (traceEntryBytes w.trace[i] ++ rest) j n := by
  obtain ⟨first, hlen, heq⟩ := recordImage_parts w
  obtain ⟨rest, hrest⟩ := drop_row length_traceEntryBytes [] w.trace i h
  refine ⟨rest, fun j n => ?_⟩
  have h81 : (recordImage w).drop 81 = w.trace.flatMap traceEntryBytes ++ [] := by
    rw [heq, show 81 = 55 + (24 + 2) from rfl, ← List.drop_drop, List.drop_left' hlen, ← List.drop_drop,
      List.drop_left' (length_faultListBytes _), List.drop_left' (length_toBE 2 _)]
  rw [fieldAt_drop, ← List.drop_drop, h81, hrest]

/-- R189: the fields of a record up to its fault list, by their places. -/
theorem recordImage_fields (w : WeldRecord) :
    let image := recordImage w
    let unsigned (i n v : Nat) := fieldAt image i n = v % 256 ^ n
    let signed (i n : Nat) (v : Int) := (fieldAt image i n : Int) = v % (256 ^ n : Nat)
    (unsigned 0 4 w.weldNumber ∧ unsigned 4 4 w.workRef.toNat
      ∧ unsigned 8 1 w.bank.code ∧ unsigned 9 1 (sideCode w.side)
      ∧ unsigned 10 1 w.mode.code ∧ unsigned 11 1 (w.pair.getD 0)
      ∧ unsigned 12 2 w.pulled ∧ unsigned 14 2 w.tN ∧ signed 16 2 w.tR ∧ signed 18 2 w.g0 ∧ unsigned 20 2 w.p
      ∧ unsigned 22 2 w.fReq ∧ unsigned 24 2 w.bAdj ∧ unsigned 26 2 w.preheatBurn ∧ unsigned 28 2 w.flashBurn
      ∧ unsigned 30 2 w.boostBurn ∧ unsigned 32 2 w.upsetDistance ∧ unsigned 34 2 w.peakForce)
    ∧ (unsigned 36 1 w.contacts ∧ unsigned 37 1 w.freezes ∧ unsigned 38 4 w.flashTime ∧ unsigned 42 4 w.energy
      ∧ unsigned 46 2 w.share
      ∧ unsigned 48 1 (flag w.tA.isSome 1 + flag w.overflow 2 + flag w.truncated 4)
      ∧ signed 49 2 (w.tA.getD 0) ∧ unsigned 51 1 w.phaseReached.code
      ∧ unsigned 52 1 (verdictCode w.verdict)
      ∧ unsigned 53 1 (w.abortKind.elim 0 FaultKind.code) ∧ unsigned 54 1 w.faults.length) := by
  intro image unsigned signed
  have hout (i n : Nat) : fieldAt image i n = fieldAt (recordImage w) i n := rfl
  simp only [unsigned, signed, hout]
  simp only [recordImage, List.append_assoc]
  refine ⟨⟨?_, ?_, ?_, ?_, ?_, ?_, ?_, ?_, ?_, ?_, ?_, ?_, ?_, ?_, ?_, ?_, ?_, ?_⟩, ?_, ?_, ?_, ?_, ?_, ?_, ?_, ?_, ?_, ?_, ?_⟩
  all_goals
    simp (disch := decide) only [fieldAt_toBE_past, fieldAt_signed_past, Nat.reduceSub, fieldAt_toBE, fieldAt_signed]

/-- R189: the two-byte trace length before the kept trace. -/
theorem recordImage_traceLength (w : WeldRecord) : fieldAt (recordImage w) 79 2 = w.trace.length % 256 ^ 2 := by
  obtain ⟨first, hlen, heq⟩ := recordImage_parts w
  have hfirst := fieldAt_past first (faultListBytes w.faults ++ (toBE 2 w.trace.length
    ++ (w.trace.flatMap traceEntryBytes ++ []))) (i := 79) 2 (by omega)
  have hlist := fieldAt_past (faultListBytes w.faults) (toBE 2 w.trace.length
    ++ (w.trace.flatMap traceEntryBytes ++ [])) (i := 24) 2 (by rw [length_faultListBytes])
  rw [hlen] at hfirst
  rw [length_faultListBytes] at hlist
  rw [heq, hfirst, hlist, fieldAt_toBE]

theorem recordImage_faults (w : WeldRecord) :
    (∀ i e, w.faults[i]? = some e → w.faults.length ≤ 8 →
      fieldAt (recordImage w) (55 + 3 * i) 1 = e.kind.code % 256 ^ 1
      ∧ fieldAt (recordImage w) (56 + 3 * i) 1 = e.phase.code % 256 ^ 1
      ∧ fieldAt (recordImage w) (57 + 3 * i) 1 = e.count % 256 ^ 1)
    ∧ (∀ i, w.faults.length ≤ i → i < 8 → fieldAt (recordImage w) (55 + 3 * i) 3 = 0 % 256 ^ 3) := by
  refine ⟨fun i e he hlen => ?_, fun i hout h8 => ?_⟩
  · obtain ⟨hi, -⟩ := List.getElem?_eq_some_iff.1 he
    obtain ⟨rest, hrest⟩ := recordImage_fault w i (by omega)
    have hplace : faultPlace w.faults i = faultEntryBytes e := by simp [faultPlace, he]
    have h0 := hrest 0 1
    have h1 := hrest 1 1
    have h2 := hrest 2 1
    simp only [hplace, faultEntryBytes, List.append_assoc] at h0 h1 h2
    simp (disch := decide) only [fieldAt_toBE_past, Nat.reduceSub, fieldAt_toBE] at h0 h1 h2
    refine ⟨h0, ?_, ?_⟩
    · rw [show 56 + 3 * i = 55 + 3 * i + 1 by omega, h1]
    · rw [show 57 + 3 * i = 55 + 3 * i + 2 by omega, h2]
  · obtain ⟨rest, hrest⟩ := recordImage_fault w i h8
    have hplace : faultPlace w.faults i = toBE 3 0 := by simp [faultPlace, List.getElem?_eq_none hout, toBE]
    have := hrest 0 3
    rwa [hplace, fieldAt_toBE] at this

theorem recordImage_traces (w : WeldRecord) (i : Nat) (e : TraceEntry) (he : w.trace[i]? = some e) :
    fieldAt (recordImage w) (81 + 6 * i) 1 = e.desc % 256 ^ 1
    ∧ fieldAt (recordImage w) (82 + 6 * i) 1 = e.channel.code % 256 ^ 1
    ∧ (fieldAt (recordImage w) (83 + 6 * i) 3 : Int) = e.value % (256 ^ 3 : Nat)
    ∧ fieldAt (recordImage w) (86 + 6 * i) 1 = e.run % 256 ^ 1 := by
  obtain ⟨hi, hget⟩ := List.getElem?_eq_some_iff.1 he
  obtain ⟨rest, hrest⟩ := recordImage_trace w i hi
  rw [hget] at hrest
  have h0 := hrest 0 1
  have h1 := hrest 1 1
  have h2 := hrest 2 3
  have h5 := hrest 5 1
  simp only [traceEntryBytes, List.append_assoc] at h0 h1 h2 h5
  simp (disch := decide) only [fieldAt_toBE_past, fieldAt_signed_past, Nat.reduceSub, fieldAt_toBE] at h0 h1 h2 h5
  refine ⟨h0, ?_, ?_, ?_⟩
  · rw [show 82 + 6 * i = 81 + 6 * i + 1 by omega, h1]
  · rw [show 83 + 6 * i = 81 + 6 * i + 2 by omega, h2, fieldAt_signed]
  · rw [show 86 + 6 * i = 81 + 6 * i + 5 by omega, h5]

/-! ### The status image and the fault log image -/

theorem statusCode_lt (x : StatusCode) : x.code < 256 := by cases x <;> decide

theorem statusImage_bytes (p : Svp) : (statusImage p).length = 3
    ∧ (statusImage p).map (·.toNat) = [p.status.code, p.field % 256, p.selected.getD 255 % 256] := by
  simp [statusImage, toBE_one, Nat.mod_eq_of_lt (statusCode_lt p.status)]

theorem length_firstFaultBytes (f : Option FirstFault) : (firstFaultBytes f).length = 11 := by
  cases f <;> simp [firstFaultBytes]

/-- R189: the fault log image, field by field. -/
theorem faultLogImage_fields (log : FaultLog) (hlen : log.counts.length = 35) :
    (faultLogImage log).length = 46
    ∧ (log.first = none → ∀ i, i < 11 → fieldAt (faultLogImage log) i 1 = 0 % 256 ^ 1)
    ∧ (∀ f, log.first = some f →
      fieldAt (faultLogImage log) 0 1 = (1 + flag f.weldNumber.isSome 2 + flag f.input.isSome 4) % 256 ^ 1
      ∧ fieldAt (faultLogImage log) 1 1 = f.kind.code % 256 ^ 1
      ∧ fieldAt (faultLogImage log) 2 1 = f.state.code % 256 ^ 1
      ∧ fieldAt (faultLogImage log) 3 4 = f.weldNumber.getD 0 % 256 ^ 4
      ∧ (fieldAt (faultLogImage log) 7 4 : Int) = f.input.getD 0 % (256 ^ 4 : Nat))
    ∧ (∀ i, i < 35 → fieldAt (faultLogImage log) (11 + i) 1 = log.counts.getD i 0 % 256 ^ 1) := by
  refine ⟨?_, fun hnone i hi => ?_, fun f hf => ?_, fun i hi => ?_⟩
  · rw [faultLogImage, List.length_append, length_firstFaultBytes, length_blocks (length_toBE 1), hlen]
  · rw [fieldAt_byte, byteOf, faultLogImage, hnone, firstFaultBytes, List.getD_append _ _ _ _ (by simpa using hi)]
    interval_cases i <;> rfl
  · simp only [faultLogImage, hf, firstFaultBytes, List.append_assoc]
    simp (disch := decide) only [fieldAt_toBE_past, Nat.reduceSub, fieldAt_toBE, fieldAt_signed, and_self]
  · have hskip := fieldAt_skip (firstFaultBytes log.first) (log.counts.flatMap (toBE 1) ++ []) i 1
    have hrow := fieldAt_row 1 (fun v => v) [] log.counts i (by omega)
    rw [length_firstFaultBytes] at hskip
    rw [Nat.one_mul] at hrow
    rw [faultLogImage, ← List.append_nil (log.counts.flatMap (toBE 1)), hskip, hrow, List.getD_eq_getElem _ _ (by omega)]

/-! ### The commands that set the read source -/

/-- R186 to R188: a transfer that is taken under the row of its kind. -/
theorem read_taken {w : WriteTransfer} {c : SvpCommand} {s : State} {k : Nat} (h : TransferTaken w c s) (hk : c.kind = k) :
    finish (writeTransfer (fun b => commandKind b == k) w s) = .next (gateCurrent (carryOut c (s.portTaken w.clockLow))) := by
  obtain ⟨b, hb, hkind, -, -⟩ := parseCommand_byte w.bytes c h.command
  rw [writeTransfer_taken _ w c s h (by rw [hb]; simp [← hkind, hk])]
  rfl

/-- R177, R188: the record that a data byte serves. -/
theorem servedRecord_some {r : Rst} {v n : Nat} {x : WeldRecord} (hn : r.namedBlock v = some n)
    (hb : r.block n = .held (some x)) (he : r.erase ≠ some n) : r.servedRecord v = some (n, x) := by
  simp [Rst.servedRecord, hn, he, hb, Block.record?]

theorem servedRecord_none {r : Rst} {v : Nat} (h : r.namedBlock v = none
    ∨ ∃ n, r.namedBlock v = some n ∧ (r.erase = some n ∨ ∀ x, r.block n ≠ .held (some x))) : r.servedRecord v = none := by
  unfold Rst.servedRecord
  rcases h with h | ⟨n, hn, he | hb⟩
  · rw [h]
  · rw [hn]; exact if_pos he
  · rw [hn]
    dsimp only
    split
    · rfl
    · have hrecord : (r.block n).record? = none := by
        cases hx : r.block n with
        | held x =>
          cases x with
          | none => rfl
          | some x => exact absurd hx (hb x)
        | erased => rfl
        | bad => rfl
      rw [hrecord]
      rfl

/-- R184, R188: CLEAR_FAULTS empties the log and asks for an ANNOUNCE where its flag falls. -/
theorem clearFaultLog_eq (s : State) : clearFaultLog s = { s with
    rst := { s.rst with log := {} }
    lnp := (clearFaultLog s).lnp
    svp := { s.svp with
      status := .ok, field := 0
      buffer := s.svp.buffer.withoutFaults
      source := if s.svp.source = .faults then .none else s.svp.source
      pointer := if s.svp.source = .faults then 0 else s.svp.pointer } } := by
  have hclear : clearLog s = { s with rst := { s.rst with log := {} }, lnp := (clearLog s).lnp } := by
    unfold clearLog
    dsimp only
    split
    · rw [announceChange_eq]
    · rfl
  unfold clearFaultLog
  rw [hclear]
  rfl

theorem withoutFaults_cases (b : ReadBuffer) : (∀ log, b.withoutFaults ≠ .faults log)
    ∧ ∀ r, b = .record r → b.withoutFaults = .record r := by
  cases b with
  | empty => exact ⟨fun log h => (by cases h), fun r h => (by cases h)⟩
  | record r => exact ⟨fun log h => (by cases h), fun r h => h⟩
  | faults log => exact ⟨fun log h => (by cases h), fun r h => (by cases h)⟩

theorem readDataAt_cases (offset : Nat) (s : State) :
    (∀ r, s.svp.buffer = .record r → readDataAt offset s = s.mapSvp (fun p => { p with source := .record, pointer := offset }))
    ∧ ((∀ r, s.svp.buffer ≠ .record r) → readDataAt offset s = setStatus .noRecord 0 s) := by
  unfold readDataAt
  constructor
  · intro r hr
    rw [hr]
  · intro hr
    split
    · exact absurd (by assumption) (hr _)
    · rfl

/-- R188: the commands that set the read source, and CLEAR_FAULTS. -/
theorem sources_set {w : WriteTransfer} {c : SvpCommand} {s : State} (h : TransferTaken w c s) :
    let p : Svp := { s.svp with answer := .taken, clockLow := w.clockLow }
    (c.kind = 4 →
        (∀ n r, s.rst.namedBlock (beNat c.data) = some n → s.rst.block n = .held (some r) → s.rst.erase ≠ some n →
          exec (.selectRecord w) s = .next (gateCurrent { s with svp := { p with busy := .fetch n r } }))
        ∧ (s.rst.namedBlock (beNat c.data) = none ∨ (∃ n, s.rst.namedBlock (beNat c.data) = some n
            ∧ (s.rst.erase = some n ∨ ∀ r, s.rst.block n ≠ .held (some r))) →
          exec (.selectRecord w) s = .next (gateCurrent { s with svp := { p with
            buffer := .empty, selected := none, source := .none, pointer := 0, status := .noRecord, field := 0 } })))
      ∧ (c.kind = 5 →
        (∀ r, s.svp.buffer = .record r → exec (.readData w) s = .next (gateCurrent { s with svp := { p with
            source := .record, pointer := beNat c.data } }))
        ∧ ((∀ r, s.svp.buffer ≠ .record r) → exec (.readData w) s = .next (gateCurrent { s with svp := { p with
            status := .noRecord, field := 0 } })))
      ∧ (c.kind = 6 → exec (.readStatus w) s = .next (gateCurrent { s with svp := { p with
            source := .status, pointer := 0 } }))
      ∧ (c.kind = 7 → exec (.readFaults w) s = .next (gateCurrent { s with svp := { p with
            buffer := .faults s.rst.log, source := .faults, pointer := 0 } }))
      ∧ (c.kind = 8 → ∃ t, exec (.clearFaults w) s = .next t
          ∧ t.rst = { s.rst with log := { first := none, counts := List.replicate 35 0 } }
          ∧ t.svp.status = .ok ∧ t.svp.source = (if s.svp.source = .faults then .none else s.svp.source)
          ∧ (∀ log, t.svp.buffer ≠ .faults log) ∧ (∀ r, s.svp.buffer = .record r → t.svp.buffer = .record r)
          ∧ t.wsq = s.wsq ∧ t.ctx = s.ctx ∧ t.cap = s.cap ∧ t.pins = s.pins) := by
  intro p
  have hcarry {k : Nat} {t : State} (i : Instr) (hk : c.kind = k)
      (hi : exec i s = finish (writeTransfer (fun b => commandKind b == k) w s))
      (ht : carryOut c (s.portTaken w.clockLow) = t) : exec i s = .next (gateCurrent t) := by
    rw [hi, read_taken h hk, ht]
  refine ⟨fun hk => ⟨fun n r hn hb he => hcarry _ hk rfl ?_, fun hnone => hcarry _ hk rfl ?_⟩,
    fun hk => ⟨fun r hr => hcarry _ hk rfl ?_, fun hr => hcarry _ hk rfl ?_⟩, fun hk => hcarry _ hk rfl ?_,
    fun hk => hcarry _ hk rfl ?_, fun hk => ⟨_, hcarry _ hk rfl rfl, ?_⟩⟩
  · simp only [carryOut, hk, selectRecord]
    rw [show (s.portTaken w.clockLow).rst.servedRecord (beNat c.data) = some (n, r) from servedRecord_some hn hb he]
    rfl
  · simp only [carryOut, hk, selectRecord]
    rw [show (s.portTaken w.clockLow).rst.servedRecord (beNat c.data) = none from servedRecord_none hnone]
    rfl
  · simp only [carryOut, hk]
    exact (readDataAt_cases _ (s.portTaken w.clockLow)).1 r hr
  · simp only [carryOut, hk]
    exact (readDataAt_cases _ (s.portTaken w.clockLow)).2 hr
  · simp only [carryOut, hk]
    rfl
  · simp only [carryOut, hk]
    rfl
  · have hout : carryOut c (s.portTaken w.clockLow) = clearFaultLog (s.portTaken w.clockLow) := by simp only [carryOut, hk]
    obtain ⟨hempty, hkept⟩ := withoutFaults_cases s.svp.buffer
    rw [hout, clearFaultLog_eq]
    exact ⟨gateCurrent_rst _, by rw [gateCurrent_svp], by rw [gateCurrent_svp]; rfl, by rw [gateCurrent_svp]; exact hempty,
      by rw [gateCurrent_svp]; exact hkept, gateCurrent_wsq _, gateCurrent_ctx _, gateCurrent_cap _, gateCurrent_pins _⟩

/-! ### Fetches and read transfers -/

theorem readBytes_at (p : Svp) (n : Nat) : (readBytes p n).length = n
    ∧ ∀ i, i < n → (readBytes p n).getD i 0#8 = (sourceImage p).getD (p.pointer + i) 0#8 := by
  refine ⟨by simp [readBytes], fun i hi => ?_⟩
  rw [List.getD_eq_getElem _ _ (by simpa [readBytes] using hi)]
  simp [readBytes]

/-- Settles O49: the commands of the read side, the fetch, the read transfer, the three images, and the code tables. -/
theorem recordsAndImagesAreRead : Obligations.RecordsAndImagesAreRead := by
  refine ⟨fun w c s h => sources_set h, ⟨fun s n r hbusy => ?_, fun s hbusy => ?_, fun q s hreset haddress hlow => ⟨fun hidle => ?_,
    fun hbusy => ?_⟩⟩, fun p => ⟨fun hsource => ?_, fun hsource => ?_, fun w hsource hbuffer hfaults => ?_,
    fun log hsource hbuffer hlen => ?_⟩, fun blocks n w => ⟨fun h => ?_, newestBlock_none_iff blocks⟩, by decide, by decide,
    by decide, by decide⟩
  · show finish (endFetch s) = _
    rw [endFetch, hbusy]
    rfl
  · show finish (endFetch s) = _
    have hsame : endFetch s = s := by
      unfold endFetch
      split
      · exact absurd (by assumption) (hbusy _ _)
      · rfl
    rw [hsame]
    rfl
  · obtain ⟨hlength, hbytes⟩ := readBytes_at s.svp q.count
    refine ⟨readBytes s.svp q.count, hlength, hbytes, ?_⟩
    show finish (readTransfer q s) = _
    rw [readTransfer, if_neg (by simp [hreset, haddress, svpAddress]), if_neg (by unfold clockLowLimit; omega),
      if_neg (by simp [Svp.isBusy, hidle])]
    rfl
  · show finish (readTransfer q s) = _
    rw [readTransfer, if_neg (by simp [hreset, haddress, svpAddress]), if_neg (by unfold clockLowLimit; omega),
      if_pos (by simp [Svp.isBusy, hbusy])]
    rfl
  · simp [sourceImage, hsource]
  · have himage : sourceImage p = statusImage p := by simp [sourceImage, hsource]
    rw [himage]
    exact statusImage_bytes p
  · have himage : sourceImage p = recordImage w := by simp [sourceImage, hsource, hbuffer]
    rw [himage]
    obtain ⟨hfirst, hsecond⟩ := recordImage_fields w
    obtain ⟨hplaces, hempty⟩ := recordImage_faults w
    obtain ⟨hc, hf, ht, he, hsh, hfl, htA, hph, hv, hk, hn⟩ := hsecond
    refine ⟨length_recordImage w, ?_, ⟨hc, hf, ht, he, hsh, hfl, htA, hph, ?_, hk, hn, recordImage_traceLength w⟩,
      fun i e h => hplaces i e h hfaults, hempty, recordImage_traces w⟩
    · obtain ⟨hnumber, hwork, hbank, hside, hmode, hrest⟩ := hfirst
      refine ⟨hnumber, hwork, ?_, ?_, ?_, hrest⟩
      · cases hx : w.bank <;> rw [hx] at hbank <;> exact hbank
      · cases hx : w.side <;> rw [hx] at hside <;> exact hside
      · cases hx : w.mode <;> rw [hx] at hmode <;> exact hmode
    · rcases hverdict : w.verdict with _ | ⟨_ | _ | _ | _⟩ <;> rw [hverdict] at hv <;> exact hv
  · have himage : sourceImage p = faultLogImage log := by simp [sourceImage, hsource, hbuffer]
    rw [himage]
    exact faultLogImage_fields log hlen
  · obtain ⟨⟨r, hr, hw⟩, habove⟩ := newestBlock_some blocks n w h
    exact ⟨⟨r, by rw [List.getD_eq_getElem?_getD, hr]; rfl, hw⟩, habove⟩

end Sys2Proof.Proofs.ServiceReads

/-! The ticks of the capture and the chain an activation runs (R106, R159, R160, R163 to R166); the statement CaptureTicks. -/
namespace Sys2Proof.Proofs.Ticks
open Sys2Proof Sys2Proof.Machine Sys2Proof.Proofs.SampleReadings Sys2Proof.Proofs.Preheat
  Sys2Proof.Proofs.Wires

set_option Elab.async false

/-! ### The chain of an activation -/

/-- Twenty-four different descriptors below 24 are all of them. -/
theorem mem_of_all_seen {seen : List Nat} (hnodup : seen.Nodup) (hbelow : ∀ x ∈ seen, x < 24) (hall : seen.length = 24)
    {d : Nat} (hd : d < 24) : d ∈ seen := by
  have hsub : seen.toFinset ⊆ Finset.range 24 := fun x hx => Finset.mem_range.2 (hbelow x (by simpa using hx))
  have hcard : seen.toFinset.card = 24 := (List.toFinset_card_of_nodup hnodup).trans hall
  have heq := Finset.eq_of_subset_of_card_le hsub (by rw [hcard]; simp)
  have hmem : d ∈ seen.toFinset := heq ▸ Finset.mem_range.2 hd
  simpa using hmem

theorem used_below {p : Program} (hlen : p.descriptors.length ≤ 24) {d : Nat} {x : Descriptor}
    (h : p.descriptors.getD d none = some x) : d < 24 := by
  by_contra hd
  rw [List.getD_eq_default _ _ (by omega)] at h
  cases h

/-- R166: the bound on a chain's length is no bound: with `n` descriptors left to run, no others are left. -/
theorem runChain_runs (n d : Nat) (seen : List Nat) (s : State) (hmem : TraceFits s)
    (hlen : s.cap.program.descriptors.length ≤ 24) (hnodup : seen.Nodup) (hbelow : ∀ x ∈ seen, x < 24)
    (hcount : n + seen.length = 24) : ChainRun d seen s (runChain n d seen s) := by
  induction n generalizing d seen s with
  | zero =>
    cases hdesc : s.cap.program.descriptors.getD d none with
    | none => exact .unused d seen s hdesc
    | some desc => exact .again d seen s (mem_of_all_seen hnodup hbelow (by omega) (used_below hlen hdesc))
  | succ n ih =>
    unfold runChain
    split
    next hseen => exact .again d seen s (by simpa using hseen)
    next hnew =>
      have hnew : d ∉ seen := by simpa using hnew
      split
      next hdesc => exact .unused d seen s hdesc
      next desc hdesc =>
        split
        next hchain => exact .last d desc seen s _ hdesc hnew hchain (runDescriptor_run d desc s hmem)
        next d' hchain =>
          refine .next d d' desc seen s (runDescriptor d desc s) _ hdesc hnew hchain (runDescriptor_run d desc s hmem) ?_
          refine ih d' (d :: seen) (runDescriptor d desc s) (runDescriptor_memory d desc s hmem)
            (by rw [runDescriptor_program]; exact hlen) (List.nodup_cons.2 ⟨hnew, hnodup⟩) (fun x hx => ?_)
            (by rw [List.length_cons]; omega)
          rcases List.mem_cons.1 hx with rfl | hx
          · exact used_below hlen hdesc
          · exact hbelow x hx

/-! ### The tensor force channel -/

theorem tensorForce_value {s : State} {c : WeldCtx} (hctx : s.ctx = some c) :
    (∀ p live side age st force, c.pair = some p → s.row p = .heard live side age (.tensor st force) →
      s.channelValue .tensorForce = (force : Nat))
    ∧ (c.pair = none ∨ (∃ p, c.pair = some p ∧ s.row p = .empty) → s.channelValue .tensorForce = 0) := by
  have hrow : s.pairedRow = c.pair.elim .empty s.row := by simp [State.pairedRow, State.pair, hctx]
  refine ⟨fun p live side age st force hp hr => ?_, fun h => ?_⟩
  · simp [State.channelValue, State.pairedForce, hrow, hp, hr, PeerRow.tensorForce]
  · have hempty : s.pairedRow = .empty := by
      rw [hrow]
      rcases h with h | ⟨p, hp, hr⟩
      · rw [h]; rfl
      · rw [hp]; exact hr
    simp [State.channelValue, State.pairedForce, hempty, PeerRow.tensorForce]

/-! ### The two ticks -/

theorem holdTickDue_iff {s : State} {c : WeldCtx} (hctx : s.ctx = some c) : s.holdTickDue = true ↔ s.wsq.seq = .hold
    ∧ s.wsq.holdTicks + 1 < (s.bank c.bank).image.tH ∧ (s.wsq.holdTicks + 1) * 1000 ≤ c.progress.holdElapsed + 1 := by
  simp [State.holdTickDue, State.holdElapsed, sched_of_ctx hctx, hctx, and_assoc]

/-- Settles O32: the two ticks, the sources and channels, and the chain of an activation. -/
theorem captureTicks : Obligations.CaptureTicks := by
  refine ⟨fun s c w hctx hw hdue => ?_, fun s c hctx hhold => ⟨fun hmore htime => ?_, fun hnot => ?_⟩, fun s hnot => ?_,
    by decide, fun s => ⟨rfl, rfl, rfl, rfl, rfl, rfl, rfl, rfl, rfl, fun c hctx => ?_⟩, fun s hhold => ?_,
    fun src s hnone => ?_, fun src s d hweld hmem hlen hvector => ?_⟩
  · show finish (captureTick s) = _
    rw [captureTick, if_pos ⟨by simp [hctx], by simp [timerDue, hw, hdue]⟩, hw]
    rfl
  · exact finish_turn ((holdTickDue_iff hctx).2 ⟨hhold, hmore, htime⟩)
  · refine finish_ite_neg fun hdue => ?_
    obtain ⟨-, hmore, htime⟩ := (holdTickDue_iff hctx).1 hdue
    omega
  · refine finish_ite_neg fun hdue => ?_
    rcases hnot with hnot | hnot
    · simp [hnot] at hdue
    · simp [hnot] at hdue
  · exact ⟨by simp [State.channelValue, hctx], by simp [State.channelValue, hctx], tensorForce_value hctx⟩
  · exact finish_ite_neg fun hdue => by simp [State.holdTickDue, hhold] at hdue
  · unfold activate
    rcases hnone with hnone | hnone
    · simp [hnone]
    · rw [hnone]
      split <;> rfl
  · unfold activate
    rw [if_pos hweld, hvector]
    exact runChain_runs 24 d [] s hmem hlen List.nodup_nil (by simp) rfl

end Sys2Proof.Proofs.Ticks

/-! An accepted WELD_START (R59, R61); the statement WeldStartIsAccepted. -/
namespace Sys2Proof.Proofs.WeldStarts
open Sys2Proof Sys2Proof.Machine Sys2Proof.Proofs.Preheat Sys2Proof.Proofs.Outcomes Sys2Proof.Proofs.HoldEnds
  Sys2Proof.Proofs.Orders Sys2Proof.Proofs.Resets

set_option Elab.async false

/-- R59: the order is accepted where none of the conditions holds. -/
theorem startTest_ok {args : StartArgs} {bank : BankName} {mode : Mode} {s : State} (hlock : s.wsq.seq ≠ .locked)
    (hctx : s.ctx = none) (hhalt : s.wsq.haltLatch = false) (hslot : s.rst.slot = none) (hstop : s.pins.headStop = false)
    (horder : Machine.orderOf args = some (bank, mode)) (hready : (s.bank bank).ready = true)
    (hnumber : s.rst.nextWeld < 2 ^ 32) : startTest args s = .ok (bank, mode) := by
  have hleft : ¬weldNumberLimit ≤ s.rst.nextWeld := by unfold weldNumberLimit; omega
  simp only [startTest, hlock, hctx, hhalt, hslot, hstop, horder, hready, hleft, if_false, Option.isSome_none,
    Bool.false_eq_true, Bool.not_true]

/-- What CLAMP begins with, entered by the new weld `c`. -/
structure ClampBegun (c : WeldCtx) (s t : State) : Prop where
  context : ∃ cut, t.ctx = some { c with phaseReached := .clamp, truncated := cut }
  wsq     : t.wsq = { s.wsq with seq := .clamp, clampTimer := some { length := 5000, elapsed := 0 } }
  set     : t.mfe.set = { s.mfe.set with clamp := .close }
  counts  : t.mfe.onsets = s.mfe.onsets ∧ t.mfe.energy = s.mfe.energy ∧ t.mfe.stall = [] ∧ t.mfe.slip = 0
  tnl     : t.tnl = s.tnl
  rst     : t.rst = s.rst
  tick    : t.cap.tick = s.cap.tick
  cap     : ∃ u, u.ctx.isSome = true ∧ u.mfe.inputs = s.mfe.inputs ∧ t.cap = (activate .phaseEntry u).cap ∧ u.cap = s.cap
  outside : SameOutside s t

theorem enterClamp_begun {s : State} {c : WeldCtx} (h : s.ctx = some c) : ClampBegun c s (enterClamp s) where
  context := by simpa [enterClamp] using enterState_forward (st := .clamp) rfl h
  wsq := by simp [enterClamp, startTimer]
  set := by simp [enterClamp]
  counts := by simp [enterClamp, SeqState.regulated, SeqState.slipChecked]
  tnl := by simp [enterClamp]
  rst := by simp [enterClamp]
  tick := by simp [enterClamp]
  cap := ⟨{ s with
      wsq := { s.wsq with seq := .clamp }
      ctx := s.ctx.map (fun c => if SeqState.clamp.forward then { c with phaseReached := .clamp } else c)
      mfe := { s.mfe with
        slip := if SeqState.clamp.slipChecked then s.mfe.slip else 0
        stall := if SeqState.clamp.regulated then s.mfe.stall else [] } },
    by simp [h], rfl, by simp [enterClamp, enterState], rfl⟩
  outside := by constructor <;> simp [enterClamp]

theorem enterClamp_announced (s : State) : Announced s (enterClamp s) :=
  (enterState_announced .clamp s).trans (.of_eq rfl rfl rfl)

/-- Settles O35: no condition of R59 holds, so the context is created, CLAMP is entered and the answer queued. -/
theorem weldStartIsAccepted : Obligations.WeldStartIsAccepted := by
  intro bytes source number args bank mode s h hconsole hlock hctx hhalt hslot hstop hbank hmode hp hp' ht ht' hvalid
    hinstalling hnumber
  have htest := startTest_ok hlock hctx hhalt hslot hstop (orderOf_some hbank hmode ⟨hp, hp', ht, ht'⟩)
    (by simp [Bank.ready, hvalid, hinstalling]) hnumber
  have hexec : exec (.weldStart bytes) s = .next (gateCurrent (acceptWeld source number bank mode args s)) := by
    refine (frame_taken rfl h).trans ?_
    simp only [takeBody, takeWeldStart, hconsole, htest, if_true]
  have hclamp := enterClamp_begun (s := createWeld bank mode args s) (c := newContext bank mode args s) rfl
  have hgrows := (enterClamp_announced (createWeld bank mode args s)).length
  have hcreated : SameOutside s (createWeld bank mode args s) := ⟨rfl, rfl, rfl, rfl⟩
  rw [hexec, acceptWeld]
  generalize enterClamp (createWeld bank mode args s) = x at *
  obtain ⟨cut, hx⟩ := hclamp.context
  obtain ⟨honsets, henergy, hstall, hslip⟩ := hclamp.counts
  obtain ⟨u, husome, hinputs, hucap, hu⟩ := hclamp.cap
  have hrst := hclamp.rst
  obtain ⟨hpins, hsvp, hfree, hpending⟩ := hclamp.outside
  have hanswer : (answerCall source number .accepted s.rst.nextWeld x).rst.nextWeld = s.rst.nextWeld + 1
      ∧ (answerCall source number .accepted s.rst.nextWeld x).rst.bankA = s.rst.bankA
      ∧ (answerCall source number .accepted s.rst.nextWeld x).rst.bankB = s.rst.bankB := by
    have hstore := (offer_logOnly (.answer source number .accepted s.rst.nextWeld) x).store
    rw [answerCall, hstore, hrst]
    exact ⟨rfl, rfl, rfl⟩
  refine ⟨_, _, rfl, by simpa [answerCall] using hx, rfl, rfl, rfl, rfl, rfl, rfl, rfl, rfl, rfl, rfl, rfl, rfl, rfl, rfl,
    rfl, rfl, rfl, rfl, rfl, by simp [hanswer], by simp [hanswer], by simp [hanswer], ?_, ?_, ?_, ?_, ?_, ?_, ?_, ?_,
    fun hs hq => ?_, ⟨u, husome, hinputs.trans rfl, ?_, ?_, ?_⟩, ?_⟩
  · simp [answerCall, hclamp.wsq, createWeld]
  · simp [answerCall, hclamp.set, createWeld]
  · simp [answerCall, honsets, createWeld]
  · simp [answerCall, henergy, createWeld]
  · simp [answerCall, hstall]
  · simp [answerCall, hslip]
  · simp [answerCall, hclamp.tick, createWeld, Cap.accept, startTimer]
  · simp [answerCall, hclamp.tnl, createWeld]
  · change _ ≤ s.lnp.queue.length + 1 at hgrows
    rw [answerCall_room _ _ _ _ (by rw [hclamp.wsq]; exact hs) (by omega)]
    simp
  · simpa [answerCall] using hucap
  · rw [hu]; rfl
  · rw [hu]; exact takeProgram_runs s.cap.program s.cap
  · constructor
    · simp [answerCall, hpins, hcreated.pins]
    · simp [answerCall, hsvp, hcreated.svp]
    · simp [answerCall, hfree, hcreated.freeCount]
    · simp [answerCall, hpending, hcreated.pending]

end Sys2Proof.Proofs.WeldStarts

/-! The claim unit's decisions (R116, R117) and the ends of its timers (R118, R120, R124); the statement ClaimTimersEnd. -/
namespace Sys2Proof.Proofs.Claims
open Sys2Proof Sys2Proof.Machine Sys2Proof.Proofs.Preheat Sys2Proof.Proofs.Outcomes Sys2Proof.Proofs.HoldEnds
  Sys2Proof.Proofs.Orders Sys2Proof.Proofs.SampleReadings Sys2Proof.Proofs.Wires Sys2Proof.Proofs.BoundBank

set_option Elab.async false

/-! ### What stands outside -/

theorem outside_trans {s t u : State} (h : SameOutside s t) (k : SameOutside t u) : SameOutside s u :=
  ⟨k.pins.trans h.pins, k.svp.trans h.svp, k.freeCount.trans h.freeCount, k.pending.trans h.pending⟩

/-- The same, with the states between read off the second step. -/
theorem outside_after {s t u : State} (k : SameOutside t u) (h : SameOutside s t) : SameOutside s u := outside_trans h k

theorem outside_gated {s t : State} (h : SameOutside s t) : SameOutside s (gateCurrent t) :=
  outside_trans h (by constructor <;> simp)

theorem view_trans {s t u : State} (h : SameView s t) (k : SameView t u) : SameView s u :=
  ⟨k.station.trans h.station, k.side.trans h.side, k.peers.trans h.peers, k.announceTimer.trans h.announceTimer,
    k.lineOkRisen.trans h.lineOkRisen⟩

theorem view_gated {s t : State} (h : SameView s t) : SameView s (gateCurrent t) :=
  view_trans h (by constructor <;> simp)

/-! ### A CLAIM queued -/

theorem setOwnClaim_clu (v : Nat) (s : State) : (setOwnClaim v s).clu = { s.clu with ownClaim := v } := by
  unfold setOwnClaim
  split
  next h => rw [← h]
  next => simp

/-- R148: while the silence flag is set no ANNOUNCE joins the queue. -/
theorem announceChange_silenced {s : State} (h : s.wsq.silence = true) :
    (announceChange s).lnp.queue = s.lnp.queue := by
  unfold announceChange requestAnnounce Lnp.wantAnnounce
  repeat' split
  all_goals rfl

theorem setOwnClaim_silenced (v : Nat) {s : State} (h : s.wsq.silence = true) :
    (setOwnClaim v s).lnp.queue = s.lnp.queue := by
  unfold setOwnClaim
  split
  · rfl
  · rw [announceChange_silenced (by simpa using h)]
    simp

theorem enterState_silenced (st : SeqState) {s : State} (h : s.wsq.silence = true) :
    (enterState st s).lnp.queue = s.lnp.queue := by
  unfold enterState
  rw [announceChange_silenced (by simpa using h)]
  simp

/-- R117: the claim unit after a CLAIM is offered by a head that is not silenced. -/
theorem sendClaim_clu {s : State} (h : s.wsq.silence = false) :
    (sendClaim s).clu = { s.clu with serial := s.clu.serial + 1 } := by
  simp [sendClaim, h]

/-- R117: a CLAIM offered by a silenced head is taken as sent (log 23). -/
theorem sendClaim_silenced {s : State} (h : s.wsq.silence = true) (hstep : s.clu.step = .sending) :
    (sendClaim s).clu = { s.clu with
      serial := s.clu.serial + 1, step := .settling, settleTimer := some { length := 30, elapsed := 0 } }
    ∧ (sendClaim s).lnp.queue = s.lnp.queue := by
  have hsilent : sendClaim s = claimSent (s.clu.serial + 1) { s with
      clu := { s.clu with serial := s.clu.serial + 1 }, lnp := { s.lnp with claimDropped := !offerTaken s } } := by
    unfold sendClaim
    dsimp only
    rw [if_pos h, offer_silenced _ _ (by exact h)]
  rw [hsilent, claimSent, if_pos ⟨hstep, rfl⟩]
  exact ⟨rfl, rfl⟩

/-- R117, R148: a CLAIM joins a queue with room. -/
theorem sendClaim_room {s : State} (hs : s.wsq.silence = false) (hq : s.lnp.queue.length < 8) : sendClaim s = { s with
    clu := { s.clu with serial := s.clu.serial + 1 }
    lnp := { s.lnp with
      queue := s.lnp.queue ++ [.claim s.clu.ownClaim s.weldNumber (s.clu.serial + 1)], claimDropped := false } } := by
  unfold sendClaim
  dsimp only
  rw [if_neg (by simp [hs]), offer_queue_room _ _ (by exact hs) (by exact hq)]
  simp [offerTaken, Lnp.hasRoom, queueLimit, hq]

/-- The same, after announced changes from `s0`. -/
theorem sendClaim_queued {s0 s : State} (h : Announced s0 s) (hs : s0.wsq.silence = false) (hq : s0.lnp.queue.length < 7) :
    .claim s.clu.ownClaim s.weldNumber (s.clu.serial + 1) ∈ (sendClaim s).lnp.queue := by
  have hgrows := h.length
  rw [sendClaim_room (h.quiet.trans hs) (by omega)]
  exact List.mem_append_right _ (List.mem_singleton.mpr rfl)

theorem sendClaim_logOnly (s : State) : LogOnly s (sendClaim s) := by
  unfold sendClaim
  dsimp only
  split
  · refine LogOnly.trans ?_ (.of_eq (claimSent_rst _ _))
    exact offer_logOnly_of _ rfl
  · exact offer_logOnly_of _ rfl

/-! ### A claim decided -/

/-- What the claim unit leaves as it was whenever it claims or gives back. -/
structure ClaimAside (c : WeldCtx) (s t : State) : Prop where
  context : ∃ cut, t.ctx = some { c with truncated := cut }
  wsq     : t.wsq = s.wsq
  mfe     : t.mfe = s.mfe
  frg     : t.frg = s.frg
  tnl     : t.tnl = s.tnl
  calls   : t.lnp.calls = s.lnp.calls
  log     : LogOnly s t
  view    : SameView s t
  outside : SameOutside s t

/-- R116, R117: an amount claimed, after announced changes from `s0`. -/
structure Claimed (amount : Nat) (c : WeldCtx) (s0 s t : State) : Prop where
  aside  : ClaimAside c s t
  own    : t.clu.ownClaim = amount
  kept   : t.clu.room = s.clu.room ∧ t.clu.qInForce = s.clu.qInForce ∧ t.clu.claimWait = s.clu.claimWait
    ∧ t.clu.backoffTimer = s.clu.backoffTimer
  sends  : s0.wsq.silence = false → t.clu.step = .sending ∧ t.clu.settleTimer = s.clu.settleTimer
  queued : s0.wsq.silence = false → s0.lnp.queue.length < 7 → .claim t.clu.ownClaim c.weldNumber t.clu.serial ∈ t.lnp.queue
  silent : s0.wsq.silence = true → t.clu.step = .settling ∧ t.clu.settleTimer = some { length := 30, elapsed := 0 }
    ∧ t.lnp.queue = s.lnp.queue

theorem claimAmount_claimed (amount : Nat) {c : WeldCtx} {s0 s : State} (hann : Announced s0 s) (h : s.ctx = some c) :
    Claimed amount c s0 s (claimAmount amount s) := by
  have hset := setOwnClaim_clu amount { s with clu := { s.clu with step := .sending } }
  have hann' : Announced s0 (setOwnClaim amount { s with clu := { s.clu with step := .sending } }) :=
    (hann.trans (.of_eq (t := { s with clu := { s.clu with step := .sending } }) rfl rfl rfl)).trans
      (setOwnClaim_announced _ _)
  obtain ⟨cut, hctx⟩ := setOwnClaim_cut amount (s := { s with clu := { s.clu with step := .sending } }) h
  have hclu (hs : s0.wsq.silence = false) := sendClaim_clu (hann'.quiet.trans hs)
  have hclu' (hs : s0.wsq.silence = true) := sendClaim_silenced (hann'.quiet.trans hs) (congrArg Clu.step hset)
  have hkept (hs : s0.wsq.silence = true) :=
    setOwnClaim_silenced amount (s := { s with clu := { s.clu with step := .sending } }) (hann.quiet.trans hs)
  unfold claimAmount
  have hcases : (sendClaim (setOwnClaim amount { s with clu := { s.clu with step := .sending } })).clu.ownClaim = amount
      ∧ (sendClaim (setOwnClaim amount { s with clu := { s.clu with step := .sending } })).clu.room = s.clu.room
      ∧ (sendClaim (setOwnClaim amount { s with clu := { s.clu with step := .sending } })).clu.qInForce = s.clu.qInForce
      ∧ (sendClaim (setOwnClaim amount { s with clu := { s.clu with step := .sending } })).clu.claimWait = s.clu.claimWait
      ∧ (sendClaim (setOwnClaim amount { s with clu := { s.clu with step := .sending } })).clu.backoffTimer
        = s.clu.backoffTimer := by
    cases hs : s0.wsq.silence
    · rw [hclu hs, hset]; exact ⟨rfl, rfl, rfl, rfl, rfl⟩
    · rw [(hclu' hs).1, hset]; exact ⟨rfl, rfl, rfl, rfl, rfl⟩
  obtain ⟨hown, hkeeps⟩ := hcases
  refine ⟨⟨⟨cut, by simpa using hctx⟩, by simp, by simp, by simp, by simp, by simp, ?_, ?_, ?_⟩, hown, hkeeps,
    fun hs => ?_, fun hs hq => ?_, fun hs => ?_⟩
  · exact (LogOnly.of_eq (by simp)).trans (sendClaim_logOnly _)
  · constructor <;> simp
  · constructor <;> simp
  · rw [hclu hs, hset]; exact ⟨rfl, rfl⟩
  · have := sendClaim_queued hann' hs hq
    rw [hown]
    rw [hset, weldNumber_of_ctx hctx] at this
    rw [hclu hs, hset]
    exact this
  · rw [(hclu' hs).1, (hclu' hs).2, hkept hs]
    exact ⟨rfl, rfl, rfl⟩

/-- R116: the decision on the room, after announced changes from `s0`. -/
structure RoomDecided (c : WeldCtx) (s0 s t : State) : Prop where
  aside  : ClaimAside c s t
  room   : t.clu.room = s.room
  kept   : t.clu.qInForce = s.clu.qInForce ∧ t.clu.claimWait = s.clu.claimWait ∧ t.clu.backoffTimer = s.clu.backoffTimer
  whole  : (c.demand : Int) ≤ s.room → t.clu.ownClaim = c.demand
  part   : s.room < c.demand → (c.dMin : Int) ≤ s.room → (t.clu.ownClaim : Int) = s.room
  waits  : s.room < c.demand → s.room < c.dMin → t.clu.step = .waiting ∧ t.clu.ownClaim = s.clu.ownClaim
  sends  : (c.demand : Int) ≤ s.room ∨ (c.dMin : Int) ≤ s.room → s0.wsq.silence = false → t.clu.step = .sending
    ∧ (s0.lnp.queue.length < 7 → .claim t.clu.ownClaim c.weldNumber t.clu.serial ∈ t.lnp.queue)
  silent : (c.demand : Int) ≤ s.room ∨ (c.dMin : Int) ≤ s.room → s0.wsq.silence = true → t.clu.step = .settling
    ∧ t.clu.settleTimer = some { length := 30, elapsed := 0 } ∧ t.lnp.queue = s.lnp.queue

theorem decidedAmount_some {c : WeldCtx} {room : Int} {amount : Nat} (h : decidedAmount c room = some amount) :
    ((c.demand : Int) ≤ room ∧ amount = c.demand) ∨ (room < c.demand ∧ (c.dMin : Int) ≤ room ∧ (amount : Int) = room) := by
  unfold decidedAmount at h
  split at h
  next hd => cases h; exact .inl ⟨hd, rfl⟩
  next hd =>
    split at h
    · cases h; exact .inr ⟨by omega, by assumption, by omega⟩
    · cases h

theorem decidedAmount_none {c : WeldCtx} {room : Int} (h : decidedAmount c room = none) :
    room < c.demand ∧ room < c.dMin := by
  unfold decidedAmount at h
  split at h
  · cases h
  · split at h
    · cases h
    · omega

theorem decideClaim_decided {c : WeldCtx} {s0 s : State} (hann : Announced s0 s) (h : s.ctx = some c) :
    RoomDecided c s0 s (decideClaim s) := by
  cases hd : decidedAmount c s.room with
  | none =>
    have ht : decideClaim s = { s with clu := { s.clu with room := s.room, step := .waiting } } := by
      simp only [decideClaim, h, hd]
    obtain ⟨h1, h2⟩ := decidedAmount_none hd
    rw [ht]
    exact
      { aside := ⟨⟨c.truncated, h⟩, rfl, rfl, rfl, rfl, rfl, .of_eq rfl, ⟨rfl, rfl, rfl, rfl, rfl⟩, ⟨rfl, rfl, rfl, rfl⟩⟩
        room := rfl, kept := ⟨rfl, rfl, rfl⟩, whole := fun h' => by omega, part := fun _ h' => by omega
        waits := fun _ _ => ⟨rfl, rfl⟩, sends := fun h' => by omega, silent := fun h' => by omega }
  | some amount =>
    have ht : decideClaim s = claimAmount amount { s with clu := { s.clu with room := s.room } } := by
      simp only [decideClaim, h, hd]
    have hclaimed := claimAmount_claimed amount (s := { s with clu := { s.clu with room := s.room } })
      (hann.trans (.of_eq rfl rfl rfl)) h
    have ha := hclaimed.aside
    obtain ⟨hroom, hkept⟩ := hclaimed.kept
    rw [ht]
    exact
      { aside := ⟨ha.context, ha.wsq, ha.mfe, ha.frg, ha.tnl, ha.calls, ⟨ha.log.store, ha.log.kept⟩,
          ⟨ha.view.station, ha.view.side, ha.view.peers, ha.view.announceTimer, ha.view.lineOkRisen⟩,
          ⟨ha.outside.pins, ha.outside.svp, ha.outside.freeCount, ha.outside.pending⟩⟩
        room := hroom, kept := hkept
        whole := fun h' => by
          rw [hclaimed.own]
          rcases decidedAmount_some hd with ⟨-, hd⟩ | ⟨hd, -⟩ <;> omega
        part := fun h' _ => by
          rw [hclaimed.own]
          rcases decidedAmount_some hd with ⟨hd, -⟩ | ⟨-, -, hd⟩ <;> omega
        waits := fun h1 h2 => by rcases decidedAmount_some hd with ⟨hd, -⟩ | ⟨-, hd, -⟩ <;> omega
        sends := fun _ hs => ⟨(hclaimed.sends hs).1, hclaimed.queued hs⟩
        silent := fun _ hs => hclaimed.silent hs }

/-- R116: the room, worked from the rows. -/
theorem room_eq (s : State) : s.room = if ∃ r ∈ s.lnp.peers, r.isPower = true ∧ r.isLive = true then
    (s.clu.qInForce : Int) - (s.lnp.peers.map PeerRow.claim).sum else 0 := by
  simp [State.room, State.anyPowerLive, State.othersClaims]

/-- R116: POWER is entered and the claim decided, from a state that differs from `s` in what the room is not worked from. -/
structure PowerEntered (c : WeldCtx) (s t : State) : Prop where
  context : ∃ cut, t.ctx = some { c with phaseReached := .power, truncated := cut }
  wsq     : t.wsq = { s.wsq with seq := .power }
  tnl     : t.tnl = s.tnl
  calls   : t.lnp.calls = s.lnp.calls
  decided : ClaimDecided c s t
  outside : SameOutside s t

theorem enterPower_entered {s : State} {c : WeldCtx} (h : s.ctx = some c) : PowerEntered c s (enterPower s) := by
  obtain ⟨cut, hcut⟩ := enterState_forward (st := .power) rfl h
  have hsched := enterState_sched .power h
  have hann := enterState_announced .power s
  have hpeers : (enterState .power s).lnp.peers = s.lnp.peers := by simp
  have hcalls : (enterState .power s).lnp.calls = s.lnp.calls := by simp
  have hclu : (enterState .power s).clu = s.clu := by simp
  have hwsq : (enterState .power s).wsq = { s.wsq with seq := .power } := by simp
  have htnl : (enterState .power s).tnl = s.tnl := by simp
  have hout : SameOutside s (enterState .power s) := by constructor <;> simp
  have hquiet (hs : s.wsq.silence = true) := enterState_silenced .power hs
  unfold enterPower
  dsimp only
  generalize enterState .power s = w at *
  have hdecided := decideClaim_decided
    (s := { w with clu := { w.clu with claimWait := startTimer (w.sched.claimWait * 1000) } })
    (hann.trans (.of_eq rfl rfl rfl)) hcut
  have hroom : State.room { w with clu := { w.clu with claimWait := startTimer (w.sched.claimWait * 1000) } } = s.room := by
    simp [State.room, State.anyPowerLive, State.othersClaims, hpeers, hclu]
  generalize decideClaim _ = t at *
  obtain ⟨cut', hctx⟩ := hdecided.aside.context
  have haside := hdecided.aside
  obtain ⟨hq, hwait, -⟩ := hdecided.kept
  have hroom' := hdecided.room.trans hroom
  refine ⟨⟨cut', hctx⟩, haside.wsq.trans hwsq, haside.tnl.trans htnl, haside.calls.trans hcalls, ?_,
    outside_trans hout (outside_after haside.outside ⟨rfl, rfl, rfl, rfl⟩)⟩
  have hwhole := hdecided.whole
  have hpart := hdecided.part
  have hwaits := hdecided.waits
  have hsends := hdecided.sends
  have hsilent := hdecided.silent
  rw [← hdecided.room] at hwhole hpart hwaits hsends hsilent
  exact
    { wait := by rw [hwait, ← sched_of_ctx h, ← hsched]; rfl
      room := hroom'.trans (room_eq s)
      whole := hwhole, part := hpart
      waits := fun h1 h2 => by simpa [hclu] using hwaits h1 h2
      sends := fun h1 hs => (hsends h1 hs).1
      queued := fun h1 hs => (hsends h1 hs).2
      silent := fun h1 hs => by
        obtain ⟨h2, h3, h4⟩ := hsilent h1 hs
        exact ⟨h2, h3, h4.trans (hquiet hs)⟩ }

/-- R116: a decision read from another state and weld that agree in what it is worked from. -/
theorem decided_of_same {c c' : WeldCtx} {s s' t : State} (h : ClaimDecided c' s' t) (hdemand : c'.demand = c.demand)
    (hleast : c'.dMin = c.dMin) (hnumber : c'.weldNumber = c.weldNumber)
    (hwait : (s'.bank c'.bank).image.claimWait = (s.bank c.bank).image.claimWait) (hpeers : s'.lnp.peers = s.lnp.peers)
    (hqueue : s'.lnp.queue = s.lnp.queue) (hclu : s'.clu = s.clu) (hsilence : s'.wsq.silence = s.wsq.silence) :
    ClaimDecided c s (gateCurrent t) := by
  obtain ⟨h1, h2, h3, h4, h5, h6, h7, h8⟩ := h
  rw [hwait] at h1
  rw [hpeers, hclu] at h2
  rw [hclu] at h5
  rw [hdemand] at h3 h4 h5 h6 h7 h8
  rw [hleast] at h4 h5 h6 h7 h8
  rw [hsilence] at h6 h7 h8
  rw [hqueue] at h7 h8
  rw [hnumber] at h7
  constructor <;> simp only [gateCurrent_clu, gateCurrent_lnp]
  · exact h1
  · exact h2
  · exact h3
  · exact h4
  · exact h5
  · exact h6
  · exact h7
  · exact h8

/-! ### The grant -/

/-- R120: the claim granted, before the sequencer leaves POWER. -/
def granted (s : State) : State :=
  let own := s.clu.ownClaim
  let s1 := s.mapCtx (fun c => { c with granted := own, share := shareOf own c.demand })
  let s2 : State := { s1 with clu := { s1.clu with step := .granted, settleTimer := none, claimWait := none } }
  if own < s.ctx.elim 0 (·.demand) then enterFault .powerDegraded (some own) s2 else s2

theorem grantClaim_eq (s : State) : grantClaim s = leavePower (granted s) := rfl

structure Granted (c : WeldCtx) (s t : State) : Prop where
  context : ∃ faults full cut, t.ctx = some { c with
      granted := s.clu.ownClaim, share := s.clu.ownClaim * 1000 / c.demand
      faults := faults, overflow := full, truncated := cut }
    ∧ (s.clu.ownClaim < c.demand → full = true ∨ .powerDegraded ∈ faults.map (·.kind))
    ∧ (c.demand ≤ s.clu.ownClaim → faults = c.faults ∧ t.rst = s.rst)
  wsq     : t.wsq = s.wsq
  mfe     : t.mfe = s.mfe
  frg     : t.frg = s.frg
  clu     : t.clu = { s.clu with step := .granted, settleTimer := none, claimWait := none }
  tnl     : t.tnl = s.tnl
  peers   : t.lnp.peers = s.lnp.peers
  sched   : t.sched = s.sched
  outside : SameOutside s t

theorem granted_at {s : State} {c : WeldCtx} (h : s.ctx = some c) : Granted c s (granted s) := by
  have hdemand : s.ctx.elim 0 (·.demand) = c.demand := by rw [h]; rfl
  unfold granted
  extract_lets own s1 u s2
  have hctx2 : s2.ctx = some { c with granted := s.clu.ownClaim, share := s.clu.ownClaim * 1000 / c.demand } := by
    simp [s2, s1, h, own, shareOf]
  have hsched2 : s2.sched = s.sched := by
    rw [sched_of_ctx h, sched_of_ctx hctx2]
    rfl
  rw [hdemand]
  split
  next hless =>
    obtain ⟨faults, full, cut, hctx, hlisted, -⟩ := enterFaultAs_shape s2.wsq.seq .powerDegraded (some own) hctx2
    have hentered := enterFault_entered .powerDegraded (some own) s2 _ hctx2
    obtain ⟨_, _, _, _, _, hrst⟩ := hentered.listed
    refine ⟨⟨faults, full, cut, hctx, fun _ => hlisted, fun hmore => absurd hless (by simp only [own]; omega)⟩, hentered.wsq,
      hentered.mfe, hentered.frg, hentered.clu, hentered.tnl, hentered.view.peers, ?_,
      outside_after hentered.outside ⟨rfl, rfl, rfl, rfl⟩⟩
    rw [← hsched2, sched_of_ctx hctx2]
    refine (sched_of_ctx hctx).trans (congrArg Bank.image (bank_of_eq ?_ ?_ _))
    · exact (congrArg Rst.bankA hrst).trans rfl
    · exact (congrArg Rst.bankB hrst).trans rfl
  next hmore =>
    exact ⟨⟨c.faults, c.overflow, c.truncated, hctx2, fun hless => absurd hless hmore, fun _ => ⟨rfl, rfl⟩⟩, rfl, rfl, rfl,
      rfl, rfl, rfl, hsched2, ⟨rfl, rfl, rfl, rfl⟩⟩

/-- R77: what the entry to PREHEAT leaves. -/
structure PreheatEntered (c : WeldCtx) (s t : State) : Prop where
  context : ∃ cut, t.ctx = some { c with phaseReached := .preheat, truncated := cut }
  wsq     : t.wsq = { s.wsq with seq := .preheat }
  set     : t.mfe.set = { s.mfe.set with current := 0, velocity := s.sched.vApp }
  frg     : t.frg = { s.frg with
    step := .approach, k := 1, preheatEntry := s.position, openTimer := none
    approachTimer := some { length := 2000, elapsed := 0 } }
  clu     : t.clu = s.clu
  rst     : t.rst = s.rst
  outside : SameOutside s t

theorem enterPreheat_entered {s : State} {c : WeldCtx} (h : s.ctx = some c) : PreheatEntered c s (enterPreheat s) := by
  obtain ⟨cut, hcut⟩ := enterState_forward (st := .preheat) rfl h
  have hsched := enterState_sched .preheat h
  have hposition : (enterState .preheat s).position = s.position := by simp [State.position, State.input]
  have hfrg : (enterState .preheat s).frg = s.frg := by simp
  have hset : (enterState .preheat s).mfe.set = s.mfe.set := by simp
  refine ⟨⟨cut, hcut⟩, by simp [enterPreheat, beginApproach], ?_, ?_, by simp [enterPreheat, beginApproach],
    by simp [enterPreheat, beginApproach], by constructor <;> simp⟩
  · show ({ (enterState .preheat s).mfe.set with current := 0, velocity := (enterState .preheat s).sched.vApp } : Outputs) = _
    rw [hsched, hset]
  · show ({ (enterState .preheat s).frg with
      preheatEntry := (enterState .preheat s).position, k := 0 + 1, step := .approach, approachTimer := startTimer 2000
      openTimer := none } : Frg) = _
    rw [hfrg, hposition]
    rfl

/-! ### The timers -/

/-- Settles O45: the grant and the three ways out of POWER; the decision after a backoff; the end of a shed wait. -/
theorem claimTimersEnd : Obligations.ClaimTimersEnd := by
  refine ⟨fun s c hctx hseq hstep hdue hpre => ?_, fun s c hctx hseq hstep hdue hpre => ?_,
    fun s c hctx hstep hdue hsilence => ?_, fun s c hctx hstep hdue => ⟨fun hfits => ?_, fun hless habort => ?_⟩⟩
  · have hexec : exec .settleTimerExpiry s = .next (gateCurrent (grantClaim s)) := finish_turn ⟨hstep, hdue⟩
    have hsched := sched_of_ctx hctx
    have hgranted := granted_at hctx
    obtain ⟨faults, full, cut, hctx1, hless, hmore⟩ := hgranted.context
    have hleave : leavePower (granted s) = enterPreheat (granted s) := if_pos (by rw [hgranted.sched, hsched]; exact hpre)
    have hentered := enterPreheat_entered hctx1
    obtain ⟨cut', hctx2⟩ := hentered.context
    have hposition : (granted s).position = s.position := by simp [State.position, State.input, hgranted.mfe]
    rw [hexec, grantClaim_eq, hleave]
    refine ⟨_, _, rfl, by rw [gateCurrent_ctx]; exact hctx2, ?_⟩
    intro k
    rw [gateCurrent_clu, gateCurrent_wsq, gateCurrent_mfe_set, gateCurrent_frg, gateCurrent_rst]
    refine ⟨rfl, rfl, hentered.clu.trans hgranted.clu, ?_, rfl, ?_, ?_, hless,
      fun h => ⟨(hmore h).1, hentered.rst.trans (hmore h).2⟩, ?_⟩
    · rw [hentered.wsq, hgranted.wsq]
    · rw [hentered.set, hgranted.mfe, hgranted.sched, hsched]
    · rw [hentered.frg, hgranted.frg, hposition]
    · exact outside_gated (outside_trans hgranted.outside hentered.outside)
  · have hexec : exec .settleTimerExpiry s = .next (gateCurrent (grantClaim s)) := finish_turn ⟨hstep, hdue⟩
    have hsched := sched_of_ctx hctx
    have hgranted := granted_at hctx
    obtain ⟨faults, full, cut, hctx1, hless, hmore⟩ := hgranted.context
    have hposition : (granted s).position = s.position := by simp [State.position, State.input, hgranted.mfe]
    have hgate : (granted s).gateHolds = s.gateHolds :=
      (gate_of_same hctx hctx1 rfl rfl hgranted.sched hgranted.peers).1
    have hnone : (granted s).sched.nPre = 0 := by rw [hgranted.sched, hsched]; exact hpre
    have hleave : leavePower (granted s) = if c.mode = .tensioned then requestHeatGate (granted s)
        else enterFlash (granted s) := by
      unfold leavePower
      rw [if_neg (by omega)]
      simp [State.tensioned, hctx1]
    by_cases hwait : c.mode = .tensioned ∧ s.gateHolds = false
    · obtain ⟨hmode, hno⟩ := hwait
      rw [hexec, grantClaim_eq, hleave, if_pos hmode, requestHeatGate_waits (hgate.trans hno)]
      refine ⟨_, _, rfl, by rw [gateCurrent_ctx]; exact hctx1, ?_⟩
      intro k
      rw [gateCurrent_clu, gateCurrent_wsq, gateCurrent_mfe_set, gateCurrent_frg, gateCurrent_rst, gateCurrent_tnl]
      refine ⟨rfl, rfl, hgranted.clu, fun hor => ?_, fun _ _ => ⟨hgranted.wsq, rfl, rfl, ?_, ?_, ?_⟩, hless, hmore, ?_⟩
      · rcases hor with hfree | hmet
        · exact absurd (hmode.symm.trans hfree) (by decide)
        · exact absurd (hno.symm.trans hmet) (by decide)
      · rw [hgranted.mfe]
      · rw [hgranted.tnl]
      · rw [hgranted.frg, hgranted.sched, hsched]
      · exact outside_gated (outside_trans hgranted.outside ⟨rfl, rfl, rfl, rfl⟩)
    · have hmet : ∃ tnl, leavePower (granted s) = enterFlash { granted s with tnl := tnl } := by
        rw [hleave]
        split
        next hmode => exact ⟨_, requestHeatGate_met (hgate.trans (by simpa [hmode] using hwait))⟩
        next => exact ⟨(granted s).tnl, rfl⟩
      obtain ⟨tnl, hmet⟩ := hmet
      have hflash := enterFlash_entered (s := { granted s with tnl := tnl }) hctx1
      obtain ⟨cut', hctx2⟩ := hflash.context
      have hsched' : State.sched { granted s with tnl := tnl } = (s.bank c.bank).image := hgranted.sched.trans hsched
      have hposition' : State.position { granted s with tnl := tnl } = s.position := hposition
      rw [hexec, grantClaim_eq, hmet]
      refine ⟨_, _, rfl, by rw [gateCurrent_ctx]; exact hctx2, ?_⟩
      intro k
      rw [gateCurrent_clu, gateCurrent_wsq, gateCurrent_mfe_set, gateCurrent_frg, gateCurrent_rst, gateCurrent_mfe_onsets]
      refine ⟨rfl, rfl, hflash.clu.trans hgranted.clu, fun _ => ?_, fun h1 h2 => absurd ⟨h1, h2⟩ hwait, hless,
        fun h => ⟨(hmore h).1, hflash.rst.trans (hmore h).2⟩, ?_⟩
      · rw [hflash.wsq, hflash.mfe, hflash.frg, hsched', hposition']
        refine ⟨by rw [hgranted.wsq], rfl, ?_, rfl, rfl, rfl, ?_, rfl, rfl, rfl, rfl⟩
        · simp [hpre]
        · show ({ (granted s).mfe.set with current := _, velocity := _ } : Outputs) = _
          rw [hgranted.mfe]
      · exact outside_gated (outside_trans hgranted.outside (outside_after hflash.outside ⟨rfl, rfl, rfl, rfl⟩))
  · have hexec : exec .backoffTimerExpiry s
        = .next (gateCurrent (decideClaim { s with clu := { s.clu with backoffTimer := none } })) := finish_turn ⟨hstep, hdue⟩
    have hdecided := decideClaim_decided (s0 := s) (s := { s with clu := { s.clu with backoffTimer := none } })
      (.of_eq rfl rfl rfl) hctx
    have hroom : State.room { s with clu := { s.clu with backoffTimer := none } } =
        if s.anyPowerLive then (s.clu.qInForce : Int) - (s.lnp.peers.map PeerRow.claim).sum else 0 := rfl
    have haside := hdecided.aside
    have hwhole := hdecided.whole
    have hpart := hdecided.part
    have hwaits := hdecided.waits
    have hsends := hdecided.sends
    have hroom' := hdecided.room
    obtain ⟨-, -, hbackoff⟩ := hdecided.kept
    rw [hroom] at hwhole hpart hwaits hsends hroom'
    refine ⟨_, hexec, ?_⟩
    intro room
    rw [gateCurrent_clu, gateCurrent_wsq, gateCurrent_mfe_set, gateCurrent_lnp]
    exact ⟨hroom', hbackoff, haside.wsq, by rw [haside.mfe], hwaits, fun h => ⟨(hsends (.inl h) hsilence).1, hwhole h⟩,
      fun h1 h2 => ⟨(hsends (.inr h2) hsilence).1, hpart h1 h2⟩, fun h hq => (hsends h.symm hsilence).2 hq,
      outside_gated (outside_after haside.outside ⟨rfl, rfl, rfl, rfl⟩)⟩
  · have hexec : exec .shedTimerExpiry s = .next (gateCurrent (expireShed s)) := finish_turn ⟨hstep, hdue⟩
    rw [hexec, expireShed, if_pos (by exact hfits)]
    rfl
  · have hexec : exec .shedTimerExpiry s = .next (gateCurrent (expireShed s)) := finish_turn ⟨hstep, hdue⟩
    have hno : ¬(s.clu.ownClaim : Int) ≤ s.sparePower := by
      intro hle
      exact absurd hless (by simpa [State.sparePower, State.othersClaims] using hle)
    refine ⟨_, hexec, ?_⟩
    rw [expireShed, if_neg hno, losePower, takeFault, if_pos habort]
    exact abortWeld_aborted _ _ _ _ hctx

end Sys2Proof.Proofs.Claims

/-! Calls to the tensor (R131 to R134, R140, R141, R150): what asking for one does; the statement ThePlanIsTaken. -/
namespace Sys2Proof.Proofs.Closures
open Sys2Proof Sys2Proof.Machine Sys2Proof.Proofs.Preheat Sys2Proof.Proofs.Outcomes Sys2Proof.Proofs.HoldEnds
  Sys2Proof.Proofs.Orders Sys2Proof.Proofs.SampleReadings Sys2Proof.Proofs.Wires Sys2Proof.Proofs.Claims

set_option Elab.async false

/-! ### One call asked for -/

/-- R150: the tensor call that the TNL holds while a call of this number is out. -/
def askedCall (dest : Nat) (body : CallBody) (number : Nat) : TensorCall :=
  { closure := body.isClosure, dest := dest, weldNumber := body.weldNumber, number := some number }

/-- R150: with no call out and room in the queue, the call is queued. -/
theorem requestCall_sent (dest : Nat) (body : CallBody) {s : State} (hs : s.wsq.silence = false) (hc : s.lnp.calls = [])
    (hq : s.lnp.queue.length < 8) : requestCall dest body s = { s with
      lnp := { s.lnp with
        queue := s.lnp.queue ++ [.call dest s.lnp.nextCall body]
        nextCall := (s.lnp.nextCall + 1) % 256
        calls := [{ dest := dest, number := s.lnp.nextCall, closure := body.isClosure, deadline := none }] }
      tnl := { s.tnl with call := some (askedCall dest body s.lnp.nextCall) } } := by
  simp [askedCall, requestCall, hs, hc, Lnp.callAllowed, offerTaken, Lnp.hasRoom, queueLimit, hq, offer, Lnp.join]

/-- R148, R150: a silenced head takes the call as sent, with its deadline (log 23). -/
theorem requestCall_silenced (dest : Nat) (body : CallBody) {s : State} (hs : s.wsq.silence = true)
    (hc : s.lnp.calls = []) : requestCall dest body s = { s with
      lnp := { s.lnp with
        nextCall := (s.lnp.nextCall + 1) % 256
        calls := [{ dest := dest, number := s.lnp.nextCall, closure := body.isClosure
                    deadline := some { length := 250, elapsed := 0 } }] }
      tnl := { s.tnl with call := some (askedCall dest body s.lnp.nextCall) } } := by
  simp [askedCall, requestCall, hs, hc, Lnp.callAllowed, offerTaken, offer, startTimer]

/-! ### A queue full of other frames than an ANNOUNCE -/

/-- R148: neither a frame nor an ANNOUNCE finds room. -/
structure Full (s : State) : Prop where
  heard : s.wsq.silence = false
  full  : 8 ≤ s.lnp.queue.length
  none  : .announce ∉ s.lnp.queue

theorem Full.of_eq {s t : State} (h : Full s) (hl : t.lnp.queue = s.lnp.queue) (hs : t.wsq.silence = s.wsq.silence) :
    Full t := ⟨hs.trans h.heard, hl ▸ h.full, hl ▸ h.none⟩

section
variable {s : State} (h : Full s)
include h

theorem announceChange_lnp_full : (announceChange s).lnp = s.lnp := by rw [announceChange_full h.full h.none]

theorem logFault_lnp_full (k : FaultKind) (w : Option Nat) (i : Option Int) : (logFault k w i s).lnp = s.lnp := by
  unfold logFault
  dsimp only
  split
  · rfl
  · rw [announceChange_lnp_full (h.of_eq _ _)] <;> rfl

theorem enterFaultAs_lnp_full (p : SeqState) (k : FaultKind) (i : Option Int) : (enterFaultAs p k i s).lnp = s.lnp := by
  unfold enterFaultAs
  split
  · exact logFault_lnp_full h _ _ _
  · dsimp only
    rw [logFault_lnp_full (h.of_eq _ _)]
    all_goals split <;> simp

theorem enterState_lnp_full (st : SeqState) : (enterState st s).lnp = s.lnp := by
  unfold enterState
  rw [announceChange_lnp_full (h.of_eq (by simp) (by simp))]
  simp

theorem setOwnClaim_lnp_full (v : Nat) : (setOwnClaim v s).lnp = s.lnp := by
  unfold setOwnClaim
  split
  · rfl
  · rw [announceChange_lnp_full (h.of_eq (by simp) (by simp))]
    simp

theorem offer_lnp_full (f : OutFrame) : (offer f s).lnp = s.lnp := by rw [offer_full f h.heard h.full h.none]

theorem offerTaken_full : offerTaken s = false := by
  have hfull : ¬s.lnp.queue.length < queueLimit := by unfold queueLimit; have := h.full; omega
  simp [offerTaken, h.heard, Lnp.hasRoom, Lnp.announceRemovable, hfull, h.none]

theorem yieldOwnClaim_lnp_full : (yieldOwnClaim s).lnp = s.lnp := by
  unfold yieldOwnClaim
  dsimp only
  split
  · rfl
  · rfl
  · rfl
  · have hset := setOwnClaim_lnp_full (h.of_eq (t := { s with clu := { s.clu with
      settleTimer := Option.none, backoffTimer := Option.none, shedTimer := Option.none, claimWait := Option.none } })
      rfl rfl) 0
    exact (offer_lnp_full (h.of_eq (congrArg Lnp.queue hset) (by simp)) _).trans hset

theorem requestCall_calls_full (dest : Nat) (body : CallBody) : (requestCall dest body s).lnp.calls = s.lnp.calls := by
  unfold requestCall
  dsimp only
  rw [offerTaken_full h]
  split
  · rw [if_neg (by decide), offer_lnp_full (h.of_eq _ _)] <;> rfl
  · split <;> rfl

theorem sendLetGo_calls_full : (sendLetGo s).lnp.calls = s.lnp.calls := by
  unfold sendLetGo
  repeat' split
  · rfl
  · rfl
  · exact requestCall_calls_full h _ _

/-- R68, R148: an abort sends nothing, and no call is out after it that was not before. -/
theorem abortWeld_calls_full (k : FaultKind) (i : Option Int) : (abortWeld k i s).lnp.calls = s.lnp.calls := by
  have hentered : (enterFault k i s).lnp = s.lnp := enterFaultAs_lnp_full h _ _ _
  have hbegun : (enterState .stopping (stopRegulation
      ((enterFault k i s).mapCtx (fun c => { c with abortKind := some k })))).lnp = s.lnp := by
    rw [enterState_lnp_full (h.of_eq (by simp [hentered]) (by simp [enterFault]))]
    simp [hentered]
  have hquiet := (abortWeld_begins k i s).quiet
  unfold abortWeld makeSafe
  dsimp only
  generalize enterState .stopping _ = x at *
  have hyield := yieldOwnClaim_lnp_full (s := { x with
    mfe := { x.mfe with set := { current := 0, velocity := 0, force := 0, clamp := .opn } }
    wsq := { x.wsq with stroke := .none, upsetTimer := Option.none } })
    (h.of_eq (congrArg Lnp.queue hbegun) hquiet)
  have hlnp : (stopTensor (yieldOwnClaim { x.mapSet (fun _ =>
      { current := 0, velocity := 0, force := 0, clamp := .opn }) with wsq := { x.wsq with
        stroke := .none, upsetTimer := Option.none } })).lnp = s.lnp := by
    simp only [stopTensor_lnp]
    exact hyield.trans hbegun
  split
  · refine (sendLetGo_calls_full (h.of_eq (congrArg Lnp.queue hlnp) ?_)).trans (congrArg Lnp.calls hlnp)
    simpa using hquiet
  · exact congrArg Lnp.calls hlnp

end

/-- R148, R150: a call that finds the queue full of other frames is dropped with LINE_FAULT. -/
theorem requestCall_full (dest : Nat) (body : CallBody) {s : State} (h : Full s) (hc : s.lnp.calls = []) :
    ∃ log, requestCall dest body s = { s with
      lnp := { s.lnp with nextCall := (s.lnp.nextCall + 1) % 256 }
      tnl := { s.tnl with call := Option.none }
      rst := { s.rst with log := log } } := by
  refine ⟨s.rst.log.file
    { kind := .lineFault, state := s.wsq.seq, weldNumber := s.weldNumber?, input := some 4 }, ?_⟩
  unfold requestCall
  dsimp only
  rw [offerTaken_full h, if_pos (by simp [Lnp.callAllowed, hc]), if_neg (by decide),
    offer_full _ (by exact h.heard) (by exact h.full) (by exact h.none)]
  rfl

/-- R66: a fault taken in CLAMP to UPSET aborts. -/
theorem takeFault_aborts {k : FaultKind} {i : Option Int} {s : State} {c : WeldCtx} (h : s.ctx = some c)
    (ha : s.wsq.seq.abortable = true) : Aborted k i s (gateCurrent (takeFault k i s)) := by
  rw [takeFault, if_pos ha]
  exact abortWeld_aborted k i s c h

/-! ### The SET_CLOSURE -/

/-- R132: the SET_CLOSURE of a weld under its schedule. -/
def closureBody (k : Schedule) (c : WeldCtx) : CallBody :=
  .setClosure c.plan.fReq (c.plan.g0 - k.workingGap).toNat c.weldNumber

/-- R132: the state after the TNL has asked for the SET_CLOSURE, before it looks whether the call was dropped. -/
def closureAsked (p : Nat) (k : Schedule) (c : WeldCtx) (s : State) : State :=
  requestCall p (closureBody k c) { s with tnl := { s.tnl with closureWaiting := false } }

section
variable {s : State} {c : WeldCtx} {p : Nat} (h : s.ctx = some c) (hp : c.pair = some p)
include h hp

theorem sendClosure_eq : sendClosure s = if (closureAsked p s.sched c s).tnl.call.isNone = true then
    takeFault .tensorTimeout none (closureAsked p s.sched c s) else closureAsked p s.sched c s := by
  have hpair : s.pair = some p := by simp [State.pair, h, hp]
  have hbody : CallBody.setClosure (s.ctx.elim 0 (·.plan.fReq)) s.closureTravel s.weldNumber = closureBody s.sched c := by
    simp [closureBody, State.closureTravel, weldNumber_of_ctx h, h]
  unfold sendClosure
  simp only [hpair, hbody]
  rfl

theorem sendClosure_sent (hs : s.wsq.silence = false) (hc : s.lnp.calls = []) (hq : s.lnp.queue.length < 8) :
    sendClosure s = { s with
      lnp := { s.lnp with
        queue := s.lnp.queue ++ [.call p s.lnp.nextCall (closureBody s.sched c)]
        nextCall := (s.lnp.nextCall + 1) % 256
        calls := [{ dest := p, number := s.lnp.nextCall, closure := true, deadline := none }] }
      tnl := { s.tnl with
        closureWaiting := false, call := some (askedCall p (closureBody s.sched c) s.lnp.nextCall) } } := by
  have hasked : closureAsked p s.sched c s = _ := requestCall_sent p (closureBody s.sched c)
    (s := { s with tnl := { s.tnl with closureWaiting := false } }) hs hc hq
  rw [sendClosure_eq h hp, hasked]
  rfl

theorem sendClosure_silenced (hs : s.wsq.silence = true) (hc : s.lnp.calls = []) :
    sendClosure s = { s with
      lnp := { s.lnp with
        nextCall := (s.lnp.nextCall + 1) % 256
        calls := [{ dest := p, number := s.lnp.nextCall, closure := true
                    deadline := some { length := 250, elapsed := 0 } }] }
      tnl := { s.tnl with
        closureWaiting := false, call := some (askedCall p (closureBody s.sched c) s.lnp.nextCall) } } := by
  have hasked : closureAsked p s.sched c s = _ := requestCall_silenced p (closureBody s.sched c)
    (s := { s with tnl := { s.tnl with closureWaiting := false } }) hs hc
  rw [sendClosure_eq h hp, hasked]
  rfl

/-- R134, R148: a SET_CLOSURE that finds the queue full of other frames aborts the weld. -/
theorem sendClosure_full (hfull : Full s) (hc : s.lnp.calls = []) (habort : s.wsq.seq.abortable = true) :
    ∃ log, sendClosure s = abortWeld .tensorTimeout none { s with
      lnp := { s.lnp with nextCall := (s.lnp.nextCall + 1) % 256 }
      tnl := { s.tnl with closureWaiting := false, call := none }
      rst := { s.rst with log := log } } := by
  obtain ⟨log, hasked⟩ := requestCall_full p (closureBody s.sched c)
    (s := { s with tnl := { s.tnl with closureWaiting := false } }) (hfull.of_eq rfl rfl) hc
  change closureAsked p s.sched c s = _ at hasked
  refine ⟨log, ?_⟩
  rw [sendClosure_eq h hp, hasked, if_pos (by rfl)]
  exact if_pos habort

end

/-! ### The entry to CLOSE -/

/-- R132: CLOSE as it is entered, before the SET_CLOSURE. -/
structure CloseEntered (c : WeldCtx) (s t : State) : Prop where
  context : ∃ cut, t.ctx = some { c with phaseReached := .close, truncated := cut }
  wsq     : t.wsq = { s.wsq with seq := .close }
  tnl     : t.tnl = s.tnl
  sched   : t.sched = s.sched
  line    : Announced s t
  silent  : s.wsq.silence = true → t.lnp.queue = s.lnp.queue
  full    : Full s → t.lnp = s.lnp
  outside : SameOutside s t

theorem enterState_close {s : State} {c : WeldCtx} (h : s.ctx = some c) : CloseEntered c s (enterState .close s) where
  context := enterState_forward rfl h
  wsq := by simp
  tnl := by simp
  sched := enterState_sched .close h
  line := enterState_announced _ _
  silent := enterState_silenced _
  full := fun hf => enterState_lnp_full hf _
  outside := by constructor <;> simp

theorem addFault_phase (kind : FaultKind) (p : SeqState) (c : WeldCtx) :
    (c.addFault kind p).1.phaseReached = c.phaseReached := by
  obtain ⟨faults, full, hshape⟩ := addFault_shape kind p c
  rw [hshape]

/-! ### The plan taken -/

/-- R34: the state once the plan is written. -/
def planned (plan : Plan) (c : WeldCtx) (s : State) : State :=
  { s with mfe := { s.mfe with planning := .none }, ctx := some { c with plan := plan } }

theorem takePlanning_eq {s : State} {c : WeldCtx} {tR g0 : Int} (hp : s.mfe.planning = .answered tR g0)
    (hctx : s.ctx = some c) (hseq : s.wsq.seq = .plan) :
    let r := workPlan (s.bank c.bank).image c tR g0
    (∀ kind v, r.refusal = some (kind, v) → takePlanning s = takeFault kind (some v) (planned r.plan c s))
    ∧ (r.refusal = none → c.mode = .free → takePlanning s = enterPower (planned r.plan c s))
    ∧ (r.refusal = none → c.mode = .tensioned → takePlanning s = pairTensor (planned r.plan c s)) := by
  intro r
  have hsched : State.sched { s with mfe := { s.mfe with planning := .none } } = (s.bank c.bank).image :=
    sched_of_ctx (s := { s with mfe := { s.mfe with planning := .none } }) hctx
  have hplanned (plan : Plan) : State.mapCtx (fun c => { c with plan := plan })
      { s with mfe := { s.mfe with planning := .none } } = planned plan c s := by simp [State.mapCtx, hctx, planned]
  have htake : takePlanning s = takePlan c tR g0 { s with mfe := { s.mfe with planning := .none } } := by
    simp only [takePlanning, hp, hctx, hseq, if_true]
  rw [htake]
  simp only [takePlan, hsched, hplanned]
  refine ⟨fun kind v hr => ?_, fun hr hm => ?_, fun hr hm => ?_⟩
  · simp only [show (workPlan (s.bank c.bank).image c tR g0).refusal = some (kind, v) from hr]
    rfl
  · simp only [show (workPlan (s.bank c.bank).image c tR g0).refusal = none from hr, hm]
    rfl
  · simp only [show (workPlan (s.bank c.bank).image c tR g0).refusal = none from hr, hm]
    rfl

/-- R131: the state once the plan is written and the tensor paired. -/
def paired (plan : Plan) (n : Nat) (c : WeldCtx) (s : State) : State :=
  { planned plan c s with ctx := some { c with plan := plan, pair := some n } }

theorem paired_sched (plan : Plan) (n : Nat) (c : WeldCtx) (s : State) :
    (paired plan n c s).sched = (s.bank c.bank).image :=
  sched_of_ctx (s := paired plan n c s) (c := { c with plan := plan, pair := some n }) rfl

/-- R131: one candidate is paired, and CLOSE entered. -/
theorem pairTensor_one {plan : Plan} {s : State} {c : WeldCtx} {n : Nat} (h : s.pairCandidates = [n]) :
    pairTensor (planned plan c s) = enterClose (paired plan n c s) := by
  have hcandidates : (planned plan c s).pairCandidates = [n] := h
  simp only [pairTensor, hcandidates]
  rfl

/-- R131: no candidate aborts the weld. -/
theorem pairTensor_none {s : State} (h : s.pairCandidates = []) : pairTensor s = takeFault .tensorAbsent none s := by
  simp only [pairTensor, h]

/-- R131: several candidates abort the weld. -/
theorem pairTensor_several {s : State} (h : 2 ≤ s.pairCandidates.length) :
    pairTensor s = takeFault .tensorAmbiguous (some (s.pairCandidates.length : Int)) s := by
  unfold pairTensor
  split
  next h0 => rw [h0] at h; simp at h
  next h1 => rw [h1] at h; simp at h
  next => rfl

/-- R131: which rows are candidates. -/
theorem pairCandidates_iff (s : State) : s.pairCandidates.Nodup ∧ ∀ n, n ∈ s.pairCandidates ↔ 1 ≤ n ∧ n ≤ 14
    ∧ ∃ age st force, s.row n = .heard true (some s.lnp.side) age (.tensor st force) := by
  have hrow (r : PeerRow) : pairCandidate s.lnp.side r = true
      ↔ ∃ age st force, r = .heard true (some s.lnp.side) age (.tensor st force) := by
    constructor
    · intro h
      unfold pairCandidate at h
      split at h
      · rename_i d age st force
        cases eq_of_beq h
        exact ⟨age, st, force, rfl⟩
      · cases h
    · rintro ⟨age, st, force, rfl⟩
      exact beq_self_eq_true _
  refine ⟨List.Nodup.filter _ (List.nodup_range' 1), fun n => ?_⟩
  rw [State.pairCandidates, List.mem_filter, hrow, List.mem_range'_1, and_assoc]
  constructor
  · rintro ⟨h1, h2, h3⟩
    exact ⟨h1, by omega, h3⟩
  · rintro ⟨h1, h2, h3⟩
    exact ⟨h1, by omega, h3⟩

/-- Settles O23: the plan is refused, or its mode takes it: POWER in FREE mode, the pairing in TENSIONED mode. -/
theorem thePlanIsTaken : Obligations.ThePlanIsTaken := by
  refine ⟨fun s c tR g0 hplanning hctx hseq => ?_, fun s hnone => ?_, pairCandidates_iff⟩
  · intro k r s0
    have hexec : exec .planningMeasurement s = .next (gateCurrent (takePlanning s)) := rfl
    obtain ⟨hrefused, hfree, htensioned⟩ := takePlanning_eq hplanning hctx hseq
    have habort (u : State) (hu : u.wsq = s.wsq) : u.wsq.seq.abortable = true := by rw [hu, hseq]; rfl
    have hpaired {n : Nat} (hr : r.refusal = none) (hm : c.mode = .tensioned) (hn : s.pairCandidates = [n]) :
        takePlanning s = enterClose (paired r.plan n c s) :=
      (htensioned hr hm).trans (pairTensor_one hn)
    have hclose (n : Nat) : CloseEntered { c with plan := r.plan, pair := some n }
        (paired r.plan n c s) _ := enterState_close rfl
    refine ⟨fun kind v hr => ?_, fun hr hm => ?_, fun hr hm hn => ?_, fun hr hm hn => ?_, fun n hr hm hn hcall hcalls hq hs => ?_,
      fun n hr hm hn hcall hcalls => ⟨fun hs => ?_, fun hs hq hann => ?_⟩, fun n hr hm hn hcall => ?_⟩
    · refine ⟨_, hexec, ?_⟩
      rw [hrefused kind v hr]
      exact takeFault_aborts (s := s0) rfl (habort s0 rfl)
    · have hentered := enterPower_entered (s := planned r.plan c s) (c := { c with plan := r.plan }) rfl
      obtain ⟨cut, hctx'⟩ := hentered.context
      rw [hexec, hfree hr hm]
      refine ⟨_, _, rfl, by rw [gateCurrent_ctx]; exact hctx', by rw [gateCurrent_wsq]; exact hentered.wsq, rfl, rfl,
        decided_of_same hentered.decided rfl rfl rfl rfl rfl rfl rfl rfl, outside_gated (outside_after hentered.outside ⟨rfl, rfl, rfl, rfl⟩)⟩
    · refine ⟨_, hexec, ?_⟩
      rw [(htensioned hr hm).trans (pairTensor_none (s := s0) hn)]
      exact takeFault_aborts rfl (habort s0 rfl)
    · refine ⟨_, hexec, ?_⟩
      rw [(htensioned hr hm).trans (pairTensor_several (s := s0) hn)]
      exact takeFault_aborts rfl (habort s0 rfl)
    · rw [hexec, hpaired hr hm hn, enterClose]
      have hw := hclose n
      generalize enterState .close _ = w at *
      obtain ⟨cut, hctx'⟩ := hw.context
      have hgrows := hw.line.length
      obtain ⟨hwcalls, -, hwnext⟩ := hw.line.calls
      rw [if_pos (by rw [hw.tnl]; exact Option.isNone_iff_eq_none.mpr hcall),
        sendClosure_sent hctx' rfl (hw.line.quiet.trans hs) (hwcalls.trans hcalls)
          (by change _ ≤ s.lnp.queue.length + 1 at hgrows; omega)]
      refine ⟨_, _, rfl, by rw [gateCurrent_ctx]; exact hctx', by rw [gateCurrent_wsq]; exact hw.wsq, rfl, rfl, rfl, ?_, ?_,
        outside_gated (outside_trans (outside_after hw.outside ⟨rfl, rfl, rfl, rfl⟩) ⟨rfl, rfl, rfl, rfl⟩)⟩
      · rw [gateCurrent_lnp]
        show [({ dest := n, number := w.lnp.nextCall, closure := true, deadline := none } : CallRecord)] = _
        rw [hwnext]
        rfl
      · rw [gateCurrent_lnp]
        show _ ∈ w.lnp.queue ++ [.call n w.lnp.nextCall (closureBody w.sched _)]
        rw [hwnext, hw.sched, paired_sched]
        exact List.mem_append_right _ (List.mem_singleton.mpr rfl)
    · rw [hexec, hpaired hr hm hn, enterClose]
      have hw := hclose n
      generalize enterState .close _ = w at *
      obtain ⟨cut, hctx'⟩ := hw.context
      obtain ⟨hwcalls, -, hwnext⟩ := hw.line.calls
      rw [if_pos (by rw [hw.tnl]; exact Option.isNone_iff_eq_none.mpr hcall),
        sendClosure_silenced hctx' rfl (hw.line.quiet.trans hs) (hwcalls.trans hcalls)]
      refine ⟨_, rfl, by rw [gateCurrent_wsq]; exact hw.wsq, by rw [gateCurrent_lnp]; exact hw.silent hs, ?_⟩
      rw [gateCurrent_lnp, ← show w.lnp.nextCall = s.lnp.nextCall from hwnext]
    · have hfull : Full s := ⟨hs, hq, hann⟩
      rw [hexec, hpaired hr hm hn, enterClose]
      have hw := hclose n
      generalize enterState .close _ = w at *
      obtain ⟨cut, hctx'⟩ := hw.context
      have hlnp := hw.full (hfull.of_eq rfl rfl)
      have hwfull : Full w := hfull.of_eq (congrArg Lnp.queue hlnp) hw.line.quiet
      have hwcalls : w.lnp.calls = [] := (congrArg Lnp.calls hlnp).trans hcalls
      have hwseq : w.wsq.seq = .close := congrArg Wsq.seq hw.wsq
      obtain ⟨log, hsent⟩ := sendClosure_full hctx' rfl hwfull hwcalls (by rw [hwseq]; rfl)
      rw [if_pos (by rw [hw.tnl]; exact Option.isNone_iff_eq_none.mpr hcall), hsent]
      have haborted := abortWeld_aborted .tensorTimeout none { w with
        lnp := { w.lnp with nextCall := (w.lnp.nextCall + 1) % 256 }
        tnl := { w.tnl with closureWaiting := false, call := none }, rst := { w.rst with log := log } } _ hctx'
      have hcallsAfter := abortWeld_calls_full (s := { w with
        lnp := { w.lnp with nextCall := (w.lnp.nextCall + 1) % 256 }
        tnl := { w.tnl with closureWaiting := false, call := none }, rst := { w.rst with log := log } })
        (hwfull.of_eq rfl rfl) .tensorTimeout none
      obtain ⟨c₀, c', hc₀, hc', hsame, -⟩ := haborted.context
      cases hctx'.symm.trans hc₀
      refine ⟨_, c', rfl, hc', by rw [hsame], by rw [hsame]; exact (addFault_phase _ _ _), ?_, ?_, ?_⟩
      · rw [haborted.wsq]
      · rw [gateCurrent_lnp]
        exact hcallsAfter.trans hwcalls
      · rw [haborted.owed]
        have howed : w.tnl.owed = s.tnl.owed := congrArg Tnl.owed hw.tnl
        dsimp only
        rw [howed]
        cases s.tnl.owed <;> rfl
    · rw [hexec, hpaired hr hm hn, enterClose]
      have hw := hclose n
      generalize enterState .close _ = w at *
      obtain ⟨cut, hctx'⟩ := hw.context
      obtain ⟨hwcalls, -, -⟩ := hw.line.calls
      rw [if_neg (by rw [hw.tnl]; exact fun h => absurd (Option.isNone_iff_eq_none.mp h) (Option.isSome_iff_ne_none.mp hcall))]
      refine ⟨_, _, rfl, by rw [gateCurrent_ctx]; exact hctx', by rw [gateCurrent_wsq]; exact hw.wsq, rfl, ?_,
        by rw [gateCurrent_lnp]; exact hwcalls⟩
      rw [gateCurrent_tnl]
      show ({ w.tnl with closureWaiting := true } : Tnl) = _
      rw [hw.tnl]
      rfl
  · have htake : takePlanning s = s := by
      unfold takePlanning
      split
      · rename_i tR g0 hp
        exact absurd hp (hnone tR g0)
      · rfl
    exact congrArg (fun u => Host.Outcome.next (gateCurrent u)) htake

end Sys2Proof.Proofs.Closures

/-! The calls of the controller (R133, R140, R141, R150, R151): their answers and deadlines; the statement CallsAreFreed. -/
namespace Sys2Proof.Proofs.Calls
open Sys2Proof Sys2Proof.Machine Sys2Proof.Proofs.Preheat Sys2Proof.Proofs.Outcomes Sys2Proof.Proofs.HoldEnds
  Sys2Proof.Proofs.Orders Sys2Proof.Proofs.SampleReadings Sys2Proof.Proofs.Wires Sys2Proof.Proofs.Claims
  Sys2Proof.Proofs.Closures

set_option Elab.async false

/-! ### One call freed -/

/-- R151: no call is out, and the TNL holds none. -/
def freed (s : State) : State :=
  { s with lnp := { s.lnp with calls := [] }, tnl := { s.tnl with call := none } }

theorem callFreed_one {dest : Nat} {r : CallRecord} {k : TensorCall} {s : State} (res : CallResult)
    (hcalls : s.lnp.calls = [r]) (hdest : r.dest = dest) (hheld : s.lnp.held = none) (hcall : s.tnl.call = some k)
    (hown : k.dest = dest) : callFreed dest res s = tensorFreed k res (freed s) := by
  simp [callFreed, hcall, hown, dropRecord, hcalls, hdest, hheld, freed]

section
variable {k : TensorCall} {res : CallResult} {s : State}

/-- R140: a freed LET_GO has no effect of its own. -/
theorem tensorFreed_letGo (hk : k.closure = false) (hw : s.tnl.closureWaiting = false) : tensorFreed k res s = s := by
  simp [tensorFreed, hk, hw]

/-- R141: a SET_CLOSURE that waits in CLOSE goes out when a LET_GO before it is freed. -/
theorem tensorFreed_waiting (hk : k.closure = false) (hw : s.tnl.closureWaiting = true) (hcall : s.tnl.call = none)
    (hseq : s.wsq.seq = .close) : tensorFreed k res s = sendClosure s := by
  simp [tensorFreed, hk, hw, hcall, hseq]

theorem tensorFreed_owed {o : Owed} (hk : k.closure = true) (ho : s.tnl.owed = some o)
    (hw : (owedFreed o res s).tnl.closureWaiting = false) : tensorFreed k res s = owedFreed o res s := by
  simp only [tensorFreed, hk, ho, if_true, hw, Bool.false_and, Bool.false_eq_true, if_false]

theorem tensorFreed_close (hk : k.closure = true) (ho : s.tnl.owed = none) (hseq : s.wsq.seq = .close)
    (hw : (closureFreed res s).tnl.closureWaiting = false) : tensorFreed k res s = closureFreed res s := by
  simp only [tensorFreed, hk, ho, hseq, if_true, hw, Bool.false_and, Bool.false_eq_true, if_false]

end

/-- R133, R134: the SET_CLOSURE of the weld in CLOSE, freed by anything but ACCEPTED, aborts the weld. -/
theorem closure_aborts {k : TensorCall} {res : CallResult} {kind : FaultKind} {i : Option Int} {s : State} {c : WeldCtx}
    (h : s.ctx = some c) (hseq : s.wsq.seq = .close) (hk : k.closure = true) (ho : s.tnl.owed = none)
    (hres : closureFreed res s = takeFault kind i s) : Aborted kind i s (gateCurrent (tensorFreed k res s)) := by
  have haborted : Aborted kind i s (gateCurrent (takeFault kind i s)) := takeFault_aborts h (by rw [hseq]; rfl)
  have hwaiting := haborted.waiting
  rw [gateCurrent_tnl] at hwaiting
  rw [tensorFreed_close hk ho hseq (by rw [hres]; exact hwaiting), hres]
  exact haborted

/-! ### ANSWER and CALL_DEADLINE -/

section
variable {bytes : List Byte} {source number outcome result : Nat} {s : State} {r : CallRecord} {k : TensorCall}

theorem answer_freed (h : FrameTaken bytes source (.answer number outcome result) s)
    (hcalls : s.lnp.calls = [r]) (hdest : r.dest = source) (hdeadline : r.deadline.isSome = true)
    (hheld : s.lnp.held = none) (hcall : s.tnl.call = some k) (hown : k.dest = source) (hnumber : r.number = number) :
    exec (.answerFrame bytes) s = .next (gateCurrent (tensorFreed k (.answered outcome result) (freed s))) := by
  refine (frame_taken rfl h).trans ?_
  have hmatch : s.lnp.calls.any (fun r => r.dest == source && r.number == number && r.deadline.isSome) = true := by
    simp [hcalls, hdest, hnumber, hdeadline]
  show Host.Outcome.next (gateCurrent (takeAnswer source number outcome result s)) = _
  rw [takeAnswer, if_pos hmatch, callFreed_one _ hcalls hdest hheld hcall hown]

theorem deadline_freed {n : BitVec 4} (h : CallAwaits n.toNat r k s) (hdue : timerDue r.deadline = true) :
    exec (.callDeadline n) s = .next (gateCurrent (tensorFreed k .timeout (freed s))) := by
  have hmatch : s.lnp.calls.any (fun r => r.dest == n.toNat && timerDue r.deadline) = true := by
    simp [h.calls, h.dest, hdue]
  show Host.Outcome.next (gateCurrent (expireCall n.toNat s)) = _
  rw [expireCall, if_pos hmatch, callFreed_one _ h.calls h.dest h.held h.call h.own]

end

/-- R133, R136: the tensor has accepted and the gate is met: POWER is entered. -/
theorem closureTaken_met {s : State} (h : s.gateHolds = true) : closureTaken s = enterPower { s with
    tnl := { s.tnl with closureAccepted := true, watch := .none, gateMet := true } } := by
  have hgate : State.gateHolds { s with tnl := { s.tnl with closureAccepted := true } } = true := h
  simp only [closureTaken, requestGate, hgate, if_true, endWatch]

/-- R133, R136: the tensor has accepted and the gate is not met: the tensor wait starts. -/
theorem closureTaken_waits {s : State} (h : s.gateHolds = false) : closureTaken s = { s with
    tnl := { s.tnl with
      closureAccepted := true, watch := .close, gateMet := false
      tensorWait := some { length := s.sched.tensorWait * 1000, elapsed := 0 } } } := by
  have hgate : State.gateHolds { s with tnl := { s.tnl with closureAccepted := true } } = false := h
  simp only [closureTaken, requestGate, hgate, Bool.false_eq_true, if_false]
  rfl

/-- Settles O39: the one call is freed, and the TNL acts by what it was and how it was freed. -/
theorem callsAreFreed : Obligations.CallsAreFreed := by
  refine ⟨fun bytes source number outcome result s h hnone => ?_,
    fun bytes source number outcome result s c r k h hawaits hnumber hctx hseq hk ho => ?_,
    fun n s r k hawaits hdue => ?_, fun bytes source number outcome result s r k o h hawaits hnumber hk ho => ?_,
    fun bytes source number outcome result s r k h hawaits hnumber hk => ?_,
    fun bytes source number outcome result p s c r k h hawaits hnumber hk hwaiting hseq hctx hp hs hq => ?_,
    fun n s hnone => ?_⟩
  · refine (frame_taken rfl h).trans ?_
    have hmatch : ¬s.lnp.calls.any (fun r => r.dest == source && r.number == number && r.deadline.isSome) = true := by
      rw [List.any_eq_true]
      rintro ⟨r, hr, hr'⟩
      exact hnone r hr (by simpa [and_assoc] using hr')
    show Host.Outcome.next (gateCurrent (takeAnswer source number outcome result s)) = _
    rw [takeAnswer, if_neg hmatch]
  · intro s0
    have hexec := answer_freed h hawaits.calls hawaits.dest hawaits.deadline hawaits.held hawaits.call hawaits.own hnumber
    have hgate : (freed s).gateHolds = s.gateHolds := rfl
    refine ⟨fun h0 hmet => ?_, fun h0 hno => ?_, fun h0 => ?_⟩
    · subst h0
      have hentered := enterPower_entered (s := { freed s with
        tnl := { (freed s).tnl with closureAccepted := true, watch := .none, gateMet := true } }) (c := c) hctx
      have htaken : closureFreed (.answered 0 result) (freed s) = _ := closureTaken_met (hgate.trans hmet)
      have hw : (closureFreed (.answered 0 result) (freed s)).tnl.closureWaiting = false := by
        rw [htaken, hentered.tnl]
        exact hawaits.waiting
      obtain ⟨cut, hctx'⟩ := hentered.context
      rw [hexec, tensorFreed_close (s := freed s) hk ho hseq hw, htaken]
      refine ⟨_, _, rfl, by rw [gateCurrent_ctx]; exact hctx', rfl, by rw [gateCurrent_wsq]; exact hentered.wsq,
        by rw [gateCurrent_lnp]; exact hentered.calls, by rw [gateCurrent_tnl, hentered.tnl]; rfl,
        by rw [gateCurrent_tnl, hentered.tnl], by rw [gateCurrent_tnl, hentered.tnl],
        decided_of_same hentered.decided rfl rfl rfl rfl rfl rfl rfl rfl,
        outside_gated (outside_after hentered.outside ⟨rfl, rfl, rfl, rfl⟩)⟩
    · subst h0
      have htaken : closureFreed (.answered 0 result) (freed s) = _ := closureTaken_waits (hgate.trans hno)
      have hsched : (freed s).sched = (s.bank c.bank).image := sched_of_ctx (s := freed s) hctx
      rw [hexec, tensorFreed_close (s := freed s) hk ho hseq (by rw [htaken]; exact hawaits.waiting), htaken, hsched]
      rfl
    · obtain ⟨v, rfl⟩ := Nat.exists_eq_succ_of_ne_zero h0
      exact ⟨_, hexec, closure_aborts (s := freed s) hctx hseq hk ho rfl⟩
  · intro s0
    have hexec := deadline_freed hawaits hdue
    refine ⟨fun c hctx hseq hk ho => ⟨_, hexec, closure_aborts (s := freed s) hctx hseq hk ho rfl⟩, fun hk => ?_,
      fun o hk ho => ?_⟩
    · rw [hexec, tensorFreed_letGo (s := freed s) hk hawaits.waiting]
      rfl
    · rw [hexec, tensorFreed_owed (res := .timeout) (s := freed s) hk ho hawaits.waiting]
      rfl
  · have hexec := answer_freed h hawaits.calls hawaits.dest hawaits.deadline hawaits.held hawaits.call hawaits.own hnumber
    refine ⟨fun h0 => ?_, fun h0 hs hq => ?_⟩
    · obtain ⟨v, rfl⟩ := Nat.exists_eq_succ_of_ne_zero h0
      rw [hexec, tensorFreed_owed (res := .answered (v + 1) result) (s := freed s) hk ho hawaits.waiting]
      rfl
    · subst h0
      have hsent : owedFreed o (.answered 0 result) (freed s) = _ := requestCall_sent o.station (.letGo o.weldNumber)
        (s := { freed s with tnl := { (freed s).tnl with owed := none } }) hs rfl hq
      rw [hexec, tensorFreed_owed (s := freed s) hk ho (by rw [hsent]; exact hawaits.waiting), hsent]
      rfl
  · have hexec := answer_freed h hawaits.calls hawaits.dest hawaits.deadline hawaits.held hawaits.call hawaits.own hnumber
    rw [hexec, tensorFreed_letGo (s := freed s) hk hawaits.waiting]
    rfl
  · have hexec := answer_freed h hawaits.calls hawaits.dest hawaits.deadline hawaits.held hawaits.call hawaits.own hnumber
    rw [hexec, tensorFreed_waiting (s := freed s) hk hwaiting rfl hseq,
      sendClosure_sent (s := freed s) hctx hp hs rfl hq]
    have hsched : (freed s).sched = (s.bank c.bank).image := sched_of_ctx (s := freed s) hctx
    rw [hsched]
    rfl
  · have hmatch : ¬s.lnp.calls.any (fun r => r.dest == n.toNat && timerDue r.deadline) = true := by
      rw [List.any_eq_true]
      rintro ⟨r, hr, hr'⟩
      obtain ⟨hd, hdue⟩ := Bool.and_eq_true_iff.mp hr'
      exact absurd (hnone r hr (eq_of_beq hd)) (by simp [hdue])
    show Host.Outcome.next (gateCurrent (expireCall n.toNat s)) = _
    rw [expireCall, if_neg hmatch]

end Sys2Proof.Proofs.Calls

/-! CLEAR (R156), and the ends of an attempt (R147, R149); the statements ClearEmptiesTheQueueAndCalls and
AttemptsAreWonAndLost. -/
namespace Sys2Proof.Proofs.Attempts
open Sys2Proof Sys2Proof.Machine Sys2Proof.Proofs.Preheat Sys2Proof.Proofs.Outcomes Sys2Proof.Proofs.HoldEnds
  Sys2Proof.Proofs.Orders Sys2Proof.Proofs.SampleReadings Sys2Proof.Proofs.Wires Sys2Proof.Proofs.Claims
  Sys2Proof.Proofs.Closures Sys2Proof.Proofs.Calls

set_option Elab.async false

/-! ### CLEAR -/

/-- R156: the state after a CLEAR but for what the TNL does on its cancelled call. -/
def cleared (source : Nat) (s : State) : State :=
  let s1 := clearCalls (clearQueue s)
  if s.isConsole source then clearHaltLatch s1 else s1

theorem clear_taken {bytes : List Byte} {source : Nat} {s : State} (h : FrameTaken bytes source .clearAll s) :
    exec (.clearFrame bytes) s = .next (gateCurrent (takeClear source s)) := frame_taken rfl h

theorem takeClear_none {source : Nat} {s : State} (h : s.tnl.call = none) : takeClear source s = cleared source s := by
  simp only [takeClear, h]
  rfl

theorem takeClear_some {source : Nat} {s : State} {k : TensorCall} (h : s.tnl.call = some k) :
    takeClear source s = tensorFreed k .cancelled (cleared source s) := by
  simp only [takeClear, h]
  rfl

/-- The outgoing queue and what goes with it, emptied. -/
def emptied (s : State) : State :=
  { s with lnp := { s.lnp with queue := [], announceOwed := false, claimDropped := false } }

theorem cluCleared_quiet {s : State} (h1 : s.clu.step ≠ .sending) (h2 : s.clu.step ≠ .settling) : cluCleared s = s := by
  unfold cluCleared
  split
  next h => exact absurd h h1
  next h => exact absurd h h2
  next => rfl

/-- R117, R156: in SENDING and SETTLING a fresh CLAIM is the only frame. -/
structure ClaimAfresh (s t : State) : Prop where
  queue : t.lnp.queue = [.claim s.clu.ownClaim s.weldNumber (s.clu.serial + 1)]
  step  : t.clu.step = .sending
  own   : t.clu.ownClaim = s.clu.ownClaim
  rst   : t.rst = s.rst

theorem sendClaim_afresh {s : State} (hs : s.wsq.silence = false) (hq : s.lnp.queue = []) (hstep : s.clu.step = .sending) :
    ClaimAfresh s (sendClaim s) := by
  rw [sendClaim_room hs (by simp [hq])]
  exact ⟨by rw [hq]; rfl, hstep, rfl, rfl⟩

theorem cluCleared_afresh {s : State} (hs : s.wsq.silence = false)
    (hstep : s.clu.step = .sending ∨ s.clu.step = .settling) : ClaimAfresh s (cluCleared (emptied s)) := by
  rcases hstep with hstep | hstep
  · have hclu : cluCleared (emptied s) = sendClaim (emptied s) := by
      have h : (emptied s).clu.step = .sending := hstep
      simp only [cluCleared, h]
    rw [hclu]
    obtain ⟨h1, h2, h3, h4⟩ := sendClaim_afresh (s := emptied s) hs rfl hstep
    exact ⟨h1, h2, h3, h4⟩
  · have hclu : cluCleared (emptied s) = sendClaim { emptied s with
        clu := { (emptied s).clu with step := .sending, settleTimer := none } } := by
      have h : (emptied s).clu.step = .settling := hstep
      simp only [cluCleared, h]
    rw [hclu]
    obtain ⟨h1, h2, h3, h4⟩ := sendClaim_afresh (s := { emptied s with
        clu := { (emptied s).clu with step := .sending, settleTimer := none } }) hs rfl rfl
    exact ⟨h1, h2, h3, h4⟩

theorem sendClaim_nextCall (s : State) : (sendClaim s).lnp.nextCall = s.lnp.nextCall := by
  obtain ⟨-, -, hnext⟩ := offer_callsKept (.claim s.clu.ownClaim s.weldNumber (s.clu.serial + 1)) { s with
    clu := { s.clu with serial := s.clu.serial + 1 }, lnp := { s.lnp with claimDropped := !offerTaken s } }
  unfold sendClaim
  dsimp only
  split
  · rw [claimSent_lnp]; exact hnext
  · exact hnext

/-- R117: what the claim unit leaves as it was when it is told of a CLEAR. -/
structure ClaimKept (s t : State) : Prop where
  ctx  : t.ctx = s.ctx
  wsq  : t.wsq = s.wsq
  tnl  : t.tnl = s.tnl
  next : t.lnp.nextCall = s.lnp.nextCall
  view : SameView s t
  outside : SameOutside s t

theorem cluCleared_keeps (s : State) : ClaimKept s (cluCleared s) := by
  have hsend (x : State) : ClaimKept x (sendClaim x) :=
    ⟨by simp, by simp, by simp, sendClaim_nextCall x, by constructor <;> simp, by constructor <;> simp⟩
  unfold cluCleared
  split
  · exact hsend s
  · obtain ⟨h1, h2, h3, h4, h5, h6⟩ := hsend { s with clu := { s.clu with step := .sending, settleTimer := none } }
    exact ⟨h1, h2, h3, h4, ⟨h5.station, h5.side, h5.peers, h5.announceTimer, h5.lineOkRisen⟩,
      ⟨h6.pins, h6.svp, h6.freeCount, h6.pending⟩⟩
  · exact ⟨rfl, rfl, rfl, rfl, ⟨rfl, rfl, rfl, rfl, rfl⟩, ⟨rfl, rfl, rfl, rfl⟩⟩

/-- R156: what a CLEAR does, but for what the TNL does on its cancelled call. -/
theorem cleared_eq (source : Nat) (s : State) :
    let u := cluCleared (emptied s)
    cleared source s = { u with
      lnp := { u.lnp with calls := [], held := none, attemptCount := 0, backoff := false }
      tnl := { s.tnl with call := none }
      wsq := { s.wsq with haltLatch := !s.isConsole source && s.wsq.haltLatch } } := by
  intro u
  obtain ⟨-, hwsq, htnl, -⟩ := cluCleared_keeps (emptied s)
  have hlatched : cleared source s = { clearCalls u with
      wsq := { u.wsq with haltLatch := !s.isConsole source && u.wsq.haltLatch } } := by
    unfold cleared
    cases hconsole : s.isConsole source
    · rfl
    · rfl
  rw [hlatched, clearCalls]
  simp only [u, hwsq, htnl]
  rfl

/-- Settles O41: the queue, the calls and the latch; the claim queued afresh; the cancelled SET_CLOSURE. -/
theorem clearEmptiesTheQueueAndCalls : Obligations.ClearEmptiesTheQueueAndCalls := by
  intro bytes source s h latched
  have hexec := clear_taken h
  obtain ⟨hctx', hwsq', htnl', hnext', hview', hout'⟩ := cluCleared_keeps (emptied s)
  have hcleared := cleared_eq source s
  refine ⟨fun hnone => ?_, fun c k hctx hseq _ hcall hk ho _ => ?_⟩
  · have htake : takeClear source s = cleared source s := by
      cases hcall : s.tnl.call with
      | none => exact takeClear_none hcall
      | some k =>
        obtain ⟨hk, hwaiting⟩ := hnone k hcall
        rw [takeClear_some hcall]
        exact tensorFreed_letGo hk (by rw [hcleared]; exact hwaiting)
    rw [htake, hcleared] at hexec
    refine ⟨⟨_, hexec, ?_⟩, fun h1 h2 => ?_, fun hsend hs => ⟨_, hexec, ?_⟩⟩
    · rw [gateCurrent_lnp, gateCurrent_tnl, gateCurrent_wsq]
      exact ⟨rfl, rfl, rfl, hnext',
        view_gated ⟨hview'.station, hview'.side, hview'.peers, hview'.announceTimer, hview'.lineOkRisen⟩,
        outside_gated ⟨hout'.pins, hout'.svp, hout'.freeCount, hout'.pending⟩, rfl⟩
    · rw [hexec, cluCleared_quiet (s := emptied s) h1 h2]
      rfl
    · obtain ⟨hq, hsending, hown, hrst⟩ := cluCleared_afresh hs hsend
      rw [gateCurrent_lnp, gateCurrent_clu, gateCurrent_ctx, gateCurrent_rst]
      exact ⟨hq, hsending, hown, hctx', hrst⟩
  · have habort : Aborted .callCancelled none (cleared source s)
        (gateCurrent (tensorFreed k .cancelled (cleared source s))) :=
      closure_aborts (c := c) (by rw [hcleared]; exact hctx'.trans hctx) (by rw [hcleared]; exact hseq) hk
        (by rw [hcleared]; exact ho) rfl
    obtain ⟨c', hc', hkind, -⟩ := aborted_weld habort
    rw [takeClear_some hcall] at hexec
    exact ⟨_, c', hexec, hc', hkind, by rw [habort.wsq]⟩

/-! ### An attempt won -/

/-- R147: the head frame has left the queue. -/
def wonFrame (rest : List OutFrame) (s : State) : State :=
  { s with lnp := { s.lnp with attempt := none, queue := rest, attemptCount := 0 } }

section
variable {s : State} {sent : List Byte} {f : OutFrame} {rest : List OutFrame}

theorem tellRoom_idle (h : s.lnp.claimDropped = false) : tellRoom s = s := by simp [tellRoom, h]

theorem winAttempt_eq (ha : s.lnp.attempt = some sent) (hq : s.lnp.queue = f :: rest) (hd : s.lnp.claimDropped = false) :
    winAttempt s = frameWon f (wonFrame rest s) := by
  have hroom : tellRoom (wonFrame rest s) = wonFrame rest s := tellRoom_idle hd
  simp only [winAttempt, ha, hq]
  exact congrArg (frameWon f) hroom

/-- R117: only the newest CLAIM, in SENDING, is one the claim unit acts on. -/
theorem claimSent_stale {n : Nat} (h : n ≠ s.clu.serial ∨ s.clu.step ≠ .sending) :
    claimSent n s = s ∧ claimDiscarded n s = s := by
  have hno : ¬(s.clu.step = .sending ∧ n = s.clu.serial) := by tauto
  exact ⟨if_neg hno, if_neg hno⟩

/-- R146: an ANNOUNCE joins a queue with room that holds none. -/
theorem requestAnnounce_joins (hs : s.wsq.silence = false) (hn : .announce ∉ s.lnp.queue) (hq : s.lnp.queue.length < 8) :
    requestAnnounce s = { s with lnp := { s.lnp with queue := s.lnp.queue ++ [.announce] } } := by
  have hno : ¬s.lnp.queue.contains .announce = true := by simpa using hn
  have hroom : s.lnp.queue.length < queueLimit := hq
  simp only [requestAnnounce, Lnp.wantAnnounce, hno, if_false, hs, Bool.false_eq_true, hroom, if_true]

/-! ### An attempt lost -/

/-- R147: the head frame is discarded after its last attempt. -/
def lostFrame (q : List OutFrame) (s : State) : State :=
  { s with lnp := { s.lnp with attempt := none, announceOwed := false, backoff := false, attemptCount := 0, queue := q } }

/-- R147, R183: the device fault log with the LINE_FAULT of a lost frame. -/
def lostLog (f : OutFrame) (s : State) : FaultLog :=
  s.rst.log.file { kind := .lineFault, state := s.wsq.seq, weldNumber := s.weldNumber?, input := some (f.kindCode : Int) }

/-- R147, R183: the head frame discarded, with LINE_FAULT in the log. -/
def lostLogged (f : OutFrame) (q : List OutFrame) (s : State) : State :=
  { lostFrame q s with rst := { s.rst with log := lostLog f s } }

/-- R146: with no attempt in progress a request for an ANNOUNCE changes the queue alone. -/
theorem announceChange_idle (h : s.lnp.attempt = none) : ∃ q, s.lnp.queue <+: q ∧ q.length ≤ s.lnp.queue.length + 1
    ∧ announceChange s = { s with lnp := { s.lnp with queue := q } } := by
  have hno : s.lnp.announceInAttempt = false := by simp [Lnp.announceInAttempt, h]
  have hstands (t : State) (ht : t = s) : ∃ q, s.lnp.queue <+: q ∧ q.length ≤ s.lnp.queue.length + 1
      ∧ t = { s with lnp := { s.lnp with queue := q } } := ⟨s.lnp.queue, List.prefix_refl _, by omega, ht⟩
  unfold announceChange requestAnnounce Lnp.wantAnnounce
  rw [hno]
  split
  · split
    · exact hstands _ rfl
    · split
      · exact hstands _ rfl
      · split
        · exact ⟨s.lnp.queue ++ [.announce], List.prefix_append _ _, by simp, rfl⟩
        · exact hstands _ rfl
  · exact hstands _ rfl

theorem lineFault_lost (f : OutFrame) (rest : List OutFrame) (s : State) : ∃ q, rest <+: q ∧ q.length ≤ rest.length + 1
    ∧ lineFault f (lostFrame rest s) = lostLogged f q s := by
  unfold lineFault logFault
  dsimp only
  split
  · exact ⟨rest, List.prefix_refl _, by omega, rfl⟩
  · exact announceChange_idle (s := lostLogged f rest s) rfl

theorem loseAttempt_again (ha : s.lnp.attempt = some sent) (hq : s.lnp.queue = f :: rest) (hn : s.lnp.attemptCount < 15) :
    loseAttempt s = { s with lnp := { s.lnp with
      attempt := none, announceOwed := false, backoff := true, attemptCount := s.lnp.attemptCount + 1 } } := by
  have hleft : ¬attemptLimit ≤ s.lnp.attemptCount + 1 := by unfold attemptLimit; omega
  simp only [loseAttempt, ha, hq, if_neg hleft]

theorem loseAttempt_last (ha : s.lnp.attempt = some sent) (hq : s.lnp.queue = f :: rest) (hd : s.lnp.claimDropped = false)
    (hn : 15 ≤ s.lnp.attemptCount) : ∃ q, rest <+: q ∧ q.length ≤ rest.length + 1
      ∧ loseAttempt s = frameDiscarded f (lostLogged f q s) := by
  obtain ⟨q, hprefix, hlength, hfault⟩ := lineFault_lost f rest s
  have hlast : attemptLimit ≤ s.lnp.attemptCount + 1 := by unfold attemptLimit; omega
  have hroom : tellRoom (lostFrame rest s) = lostFrame rest s := tellRoom_idle hd
  refine ⟨q, hprefix, hlength, ?_⟩
  simp only [loseAttempt, ha, hq, if_pos hlast, discardHead]
  rw [← hfault]
  exact congrArg (fun u => frameDiscarded f (lineFault f u)) hroom

end

/-- Settles O44: what a frame that is won or lost hands to its owner. -/
theorem attemptsAreWonAndLost : Obligations.AttemptsAreWonAndLost := by
  intro s sent f rest ha hq hd won stale logged
  have hwin : exec .attemptWon s = .next (gateCurrent (frameWon f (wonFrame rest s))) := by
    show finish (winAttempt s) = _
    rw [winAttempt_eq ha hq hd]
    rfl
  have hlose : exec .attemptLost s = .next (gateCurrent (loseAttempt s)) := rfl
  have hview (q : List OutFrame) : SameView s (gateCurrent (lostLogged f q s)) := view_gated ⟨rfl, rfl, rfl, rfl, rfl⟩
  have hout (q : List OutFrame) : SameOutside s (gateCurrent (lostLogged f q s)) := outside_gated ⟨rfl, rfl, rfl, rfl⟩
  refine ⟨fun hf => ?_, fun hf howed hnone hroom hs => ?_, fun d n body hf => ?_, fun a w hf hstep => ?_, fun hn => ?_,
    fun hn hf => ?_, fun a w hn hf hstep hs hroom => ?_, fun d n body r k hn hf hcalls hdest hnumber hdeadline hheld hcall
      hown hwaiting => ?_⟩
  · have hstands : frameWon f (wonFrame rest s) = wonFrame rest s := by
      rcases hf with ⟨rfl, howed⟩ | ⟨n, rfl⟩ | ⟨d, n, c, r, rfl⟩ | ⟨a, w, n, rfl, hstale⟩
      · exact if_neg (by show ¬s.lnp.announceOwed = true; simp [howed])
      · rfl
      · rfl
      · exact (claimSent_stale (s := wonFrame rest s) hstale).1
    rw [hwin, hstands]
    rfl
  · subst hf
    have hwon : frameWon .announce (wonFrame rest s) = requestAnnounce { wonFrame rest s with
        lnp := { (wonFrame rest s).lnp with announceOwed := false } } := if_pos howed
    rw [hwin, hwon, requestAnnounce_joins (by exact hs) (by exact hnone) (by exact hroom)]
    rfl
  · subst hf
    have hdeadline (r : CallRecord) : startDeadline d n r = if r.dest = d ∧ r.number = n ∧ r.deadline = none then
        { r with deadline := some { length := 250, elapsed := 0 } } else r := by
      simp [startDeadline, startTimer]
    rw [hwin]
    show Host.Outcome.next (gateCurrent { wonFrame rest s with
      lnp := { (wonFrame rest s).lnp with calls := s.lnp.calls.map (startDeadline d n) } }) = _
    rw [funext hdeadline]
    rfl
  · subst hf
    have hsent : frameWon (.claim a w s.clu.serial) (wonFrame rest s) = _ := if_pos ⟨hstep, rfl⟩
    rw [hwin, hsent]
    rfl
  · rw [hlose, loseAttempt_again ha hq hn]
  · obtain ⟨q, hprefix, -, hlost⟩ := loseAttempt_last ha hq hd hn
    have hstands : frameDiscarded f (lostLogged f q s) = lostLogged f q s := by
      rcases hf with rfl | ⟨n, rfl⟩ | ⟨d, n, c, r, rfl⟩ | ⟨a, w, n, rfl, hstale⟩
      · rfl
      · rfl
      · rfl
      · exact (claimSent_stale (s := lostLogged _ q s) hstale).2
    refine ⟨_, hlose, ?_⟩
    rw [hlost, hstands]
    simp only [gateCurrent_lnp, gateCurrent_rst, gateCurrent_wsq, gateCurrent_ctx, gateCurrent_clu, gateCurrent_tnl]
    exact ⟨rfl, rfl, rfl, hprefix, rfl, rfl, rfl, rfl, rfl, rfl, hview q, hout q⟩
  · obtain ⟨q, hprefix, hlength, hlost⟩ := loseAttempt_last ha hq hd hn
    have hclaim : frameDiscarded f (lostLogged f q s) = sendClaim (lostLogged f q s) := by
      subst hf
      exact if_pos ⟨hstep, rfl⟩
    have hsent := sendClaim_room (s := lostLogged f q s) hs (by show q.length < 8; omega)
    refine ⟨_, hlose, ?_⟩
    rw [hlost, hclaim, hsent]
    simp only [gateCurrent_lnp, gateCurrent_rst, gateCurrent_wsq, gateCurrent_ctx, gateCurrent_clu, gateCurrent_tnl]
    exact ⟨rfl, rfl, rfl, hprefix.trans (List.prefix_append _ _), List.mem_append_right _ (List.mem_singleton.mpr rfl), rfl,
      rfl, rfl, rfl, rfl, rfl, view_gated ⟨rfl, rfl, rfl, rfl, rfl⟩, outside_gated ⟨rfl, rfl, rfl, rfl⟩⟩
  · obtain ⟨q, hprefix, -, hlost⟩ := loseAttempt_last ha hq hd hn
    have hmatch : (lostLogged f q s).lnp.calls.any
        (fun r => r.dest == d && r.number == n && r.deadline.isNone) = true := by
      show s.lnp.calls.any _ = true
      simp [hcalls, hdest, hnumber, hdeadline]
    have hfreed : frameDiscarded f (lostLogged f q s) = tensorFreed k .discarded (freed (lostLogged f q s)) := by
      rw [← callFreed_one (s := lostLogged f q s) .discarded hcalls hdest hheld hcall hown]
      subst hf
      exact if_pos hmatch
    have hexec : exec .attemptLost s = .next (gateCurrent (tensorFreed k .discarded (freed (lostLogged f q s)))) := by
      rw [hlose, hlost, hfreed]
    refine ⟨q, hprefix, fun hk => ?_, fun o hk ho => ?_, fun c hk ho hctx hseq => ?_⟩
    · rw [hexec, tensorFreed_letGo (s := freed (lostLogged f q s)) hk hwaiting]
      rfl
    · rw [hexec, tensorFreed_owed (res := .discarded) (s := freed (lostLogged f q s)) hk ho hwaiting]
      rfl
    · exact ⟨_, hexec, closure_aborts (s := freed (lostLogged f q s)) hctx hseq hk ho rfl⟩

end Sys2Proof.Proofs.Attempts

/-! A duplicate station (R65, R155); the statement DuplicateStationSilencesTheHead. -/
namespace Sys2Proof.Proofs.Duplicates
open Sys2Proof Sys2Proof.Machine Sys2Proof.Proofs.Preheat Sys2Proof.Proofs.Outcomes Sys2Proof.Proofs.Aborts
  Sys2Proof.Proofs.Orders Sys2Proof.Proofs.Claims

set_option Elab.async false

/-! ### The calls freed -/

/-- R141, R151: the TNL once its call is freed as DISCARDED, out of CLOSE. -/
def released (c : TensorCall) (t : Tnl) : Tnl := { t with call := none, owed := if c.closure then none else t.owed }

/-- The TNL once the call to a station is freed. -/
def releasedTo (d : Nat) (t : Tnl) : Tnl :=
  match t.call with
  | some c => if c.dest = d then released c t else t
  | none => t

/-- The TNL once the held call is freed. -/
def releasedHeld (held : Option HeldCall) (t : Tnl) : Tnl :=
  match held, t.call with
  | some _, some c => if c.number.isNone then released c t else t
  | _, _ => t

section
variable {s : State}

theorem tensorFreed_past (c : TensorCall) (h : s.wsq.seq ≠ .close) :
    tensorFreed c .discarded { s with tnl := { s.tnl with call := none } } = { s with tnl := released c s.tnl } := by
  have hseq : (s.wsq.seq == .close) = false := by simpa using h
  cases hc : c.closure <;> cases ho : s.tnl.owed <;> simp [tensorFreed, released, owedFreed, hc, ho, h]

theorem callFreed_past (d : Nat) (h : s.wsq.seq ≠ .close) (hheld : s.lnp.held = none) :
    callFreed d .discarded s = { s with
      lnp := { s.lnp with calls := s.lnp.calls.filter (fun r => r.dest != d) }, tnl := releasedTo d s.tnl } := by
  cases hcall : s.tnl.call with
  | none => simp [callFreed, dropRecord, releasedTo, hcall, hheld]
  | some c =>
    by_cases hd : c.dest = d
    · have hdrop : dropRecord d { s with tnl := { s.tnl with call := none } } = { s with
          lnp := { s.lnp with calls := s.lnp.calls.filter (fun r => r.dest != d) }
          tnl := { s.tnl with call := none } } := by simp [dropRecord, hheld]
      have hfreed := tensorFreed_past c
        (s := { s with lnp := { s.lnp with calls := s.lnp.calls.filter (fun r => r.dest != d) } }) h
      simp only [callFreed, releasedTo, hcall, hd, if_true, hdrop]
      exact hfreed
    · simp [callFreed, dropRecord, releasedTo, hcall, hd, hheld]

theorem freeCalls_past (ds : List Nat) (h : s.wsq.seq ≠ .close) (hheld : s.lnp.held = none) :
    freeCalls .discarded ds s = { s with
      lnp := { s.lnp with calls := s.lnp.calls.filter (fun r => r.dest ∉ ds) }
      tnl := ds.foldl (fun t d => releasedTo d t) s.tnl } := by
  induction ds generalizing s with
  | nil => simp [freeCalls]
  | cons d ds ih =>
    have hstep : freeCalls .discarded (d :: ds) s = freeCalls .discarded ds (callFreed d .discarded s) := rfl
    rw [hstep, callFreed_past d h hheld, ih (by exact h) (by exact hheld)]
    simp only [List.filter_filter, List.foldl_cons]
    congr 3
    funext r
    by_cases hd : r.dest = d <;> simp [hd]

theorem freeHeld_past (h : s.wsq.seq ≠ .close) : freeHeld .discarded s = { s with
    lnp := { s.lnp with held := none }, tnl := releasedHeld s.lnp.held s.tnl } := by
  cases hheld : s.lnp.held with
  | none => simp [freeHeld, releasedHeld, hheld]
  | some _ =>
    cases hcall : s.tnl.call with
    | none => simp [freeHeld, releasedHeld, hheld, hcall]
    | some c =>
      cases hn : c.number with
      | none =>
        have hfreed := tensorFreed_past c (s := { s with lnp := { s.lnp with held := none } }) h
        simp only [freeHeld, releasedHeld, hheld, hcall, hn, Option.isNone_none, if_true]
        exact hfreed
      | some _ => simp [freeHeld, releasedHeld, hheld, hcall, hn]

end

/-- The stations with a QUEUED call. -/
def queuedTo (l : Lnp) : List Nat := (l.calls.filter (fun r => r.deadline.isNone)).map (·.dest)

/-- R155: the line after it is silenced. -/
theorem silenceLine_past {s : State} (h : s.wsq.seq ≠ .close) : silenceLine s = { s with
    lnp := { s.lnp with
      announceTimer := none, backoff := false, attemptCount := 0, queue := [], announceOwed := false
      claimDropped := false, held := none, calls := s.lnp.calls.filter (fun r => r.dest ∉ queuedTo s.lnp) }
    tnl := (queuedTo s.lnp).foldl (fun t d => releasedTo d t) (releasedHeld s.lnp.held s.tnl) } := by
  have hheld := freeHeld_past (s := { s with lnp := { s.lnp with
    announceTimer := none, backoff := false, attemptCount := 0, queue := [], announceOwed := false
    claimDropped := false } }) h
  unfold silenceLine
  dsimp only
  rw [hheld]
  exact freeCalls_past (queuedTo s.lnp) h rfl

theorem releasedTo_none (ds : List Nat) {t : Tnl} (h : t.call = none) : ds.foldl (fun t d => releasedTo d t) t = t := by
  induction ds with
  | nil => rfl
  | cons d ds ih => rw [List.foldl_cons, show releasedTo d t = t by simp [releasedTo, h], ih]

/-- The call of the TNL is released by the frees exactly when one is to its station. -/
theorem releasedTo_some (ds : List Nat) {t : Tnl} {c : TensorCall} (h : t.call = some c) :
    ds.foldl (fun t d => releasedTo d t) t = if c.dest ∈ ds then released c t else t := by
  induction ds with
  | nil => simp
  | cons d ds ih =>
    rw [List.foldl_cons]
    by_cases hd : c.dest = d
    · rw [show releasedTo d t = released c t by simp [releasedTo, h, hd], releasedTo_none ds rfl, if_pos (by simp [hd])]
    · rw [show releasedTo d t = t by simp [releasedTo, h, hd], ih]
      simp [hd]

theorem mem_queuedTo (l : Lnp) (d : Nat) : d ∈ queuedTo l ↔ ∃ r ∈ l.calls, r.dest = d ∧ r.deadline = none := by
  simp only [queuedTo, List.mem_map, List.mem_filter, Option.isNone_iff_eq_none]
  exact ⟨fun ⟨r, ⟨hr, hnone⟩, hd⟩ => ⟨r, hr, hd, hnone⟩, fun ⟨r, hr, hd, hnone⟩ => ⟨r, ⟨hr, hnone⟩, hd⟩⟩

/-- R155: with one call at most to a station, the AWAITING calls are what is left. -/
theorem calls_awaiting {l : Lnp} (h : (l.calls.map (·.dest)).Nodup) :
    l.calls.filter (fun r => r.dest ∉ queuedTo l) = l.calls.filter (fun r => r.deadline.isSome) := by
  refine List.filter_congr fun r hr => ?_
  have hqueued : r.dest ∈ queuedTo l ↔ r.deadline = none := by
    rw [mem_queuedTo]
    constructor
    · rintro ⟨r', hr', hdest, hnone⟩
      cases List.inj_on_of_nodup_map h hr' hr hdest
      exact hnone
    · exact fun hnone => ⟨r, hr, rfl, hnone⟩
  cases hd : r.deadline <;> simp [hqueued, hd]

/-! ### The fault by state -/

/-- What stands of the calls, the rows and the outside. -/
structure LineStands (s t : State) : Prop where
  silence : t.wsq.silence = s.wsq.silence
  calls   : t.lnp.calls = s.lnp.calls
  held    : t.lnp.held = s.lnp.held
  call    : t.tnl.call = s.tnl.call
  peers   : t.lnp.peers = s.lnp.peers
  outside : SameOutside s t

theorem LineStands.trans {s t u : State} (h : LineStands s t) (k : LineStands t u) : LineStands s u :=
  ⟨k.silence.trans h.silence, k.calls.trans h.calls, k.held.trans h.held, k.call.trans h.call, k.peers.trans h.peers,
    outside_trans h.outside k.outside⟩

theorem lineStands_announced {s t : State} (h : Announced s t) (hp : t.lnp.peers = s.lnp.peers) (ho : SameOutside s t) :
    LineStands s t := by
  obtain ⟨hcalls, hheld, -⟩ := h.calls
  exact ⟨h.quiet, hcalls, hheld, by rw [h.tnl], hp, ho⟩

theorem enterState_stands (st : SeqState) (s : State) : LineStands s (enterState st s) :=
  lineStands_announced (enterState_announced st s) (by simp) (by constructor <;> simp)

theorem enterFault_stands (k : FaultKind) (i : Option Int) (s : State) : LineStands s (enterFault k i s) :=
  lineStands_announced (enterFaultAs_announced _ _ _ _) (by simp [enterFault]) (by constructor <;> simp [enterFault])

/-- R72, R183: the log takes the one fault, whether or not a weld is in flight. -/
theorem enterFault_rst (k : FaultKind) (i : Option Int) (s : State) : (enterFault k i s).rst = { s.rst with
    log := s.rst.log.file { kind := k, state := s.wsq.seq, weldNumber := s.weldNumber?, input := i } } := by
  cases h : s.ctx with
  | none => rw [enterFault_idle k i h, logFault_rst, State.weldNumber?, h]; rfl
  | some c => rw [enterFault, (enterFaultAs_ctx _ k i s c h).2, State.weldNumber?, h]; rfl

/-- R127, R148: a silenced head gives its claim back without a YIELD. -/
theorem yieldOwnClaim_stands {s : State} (hs : s.wsq.silence = true) :
    LineStands s (yieldOwnClaim s) ∧ (yieldOwnClaim s).rst = s.rst := by
  obtain ⟨⟨hcalls, hheld, -⟩, -⟩ := yieldOwnClaim_line (Announced.refl s)
  refine ⟨⟨by simp, hcalls, hheld, by simp, by simp, by constructor <;> simp⟩, ?_⟩
  unfold yieldOwnClaim
  dsimp only
  split
  · rfl
  · rfl
  · rfl
  · rw [offer_silenced _ _ (by simpa using hs)]
    simp

/-- R68, R148: a silenced head makes the weld safe without a frame. -/
theorem makeSafe_stands {s : State} (hs : s.wsq.silence = true) : LineStands s (makeSafe s) ∧ (makeSafe s).rst = s.rst := by
  obtain ⟨hstands, hrst⟩ := yieldOwnClaim_stands (s := { s with
    mfe := { s.mfe with set := { current := 0, velocity := 0, force := 0, clamp := .opn } }
    wsq := { s.wsq with stroke := .none, upsetTimer := none } }) hs
  have hlet (x : State) (hx : x.wsq.silence = true) :
      (if x.tnl.closureAccepted = true then sendLetGo x else x) = x := by
    rw [sendLetGo_silenced x hx, ite_self]
  unfold makeSafe
  dsimp only
  rw [hlet _ (by rw [stopTensor_wsq]; exact hstands.silence.trans hs)]
  exact ⟨⟨hstands.silence, hstands.calls, hstands.held, hstands.call, hstands.peers,
    ⟨hstands.outside.pins, hstands.outside.svp, hstands.outside.freeCount, hstands.outside.pending⟩⟩, hrst⟩

/-- R66: an abort of a silenced head. -/
theorem abortWeld_stands (k : FaultKind) (i : Option Int) {s : State} (hs : s.wsq.silence = true) :
    LineStands s (abortWeld k i s) ∧ (abortWeld k i s).rst = (enterFault k i s).rst
    ∧ (abortWeld k i s).wsq.seq = .stopping := by
  have hentered := enterFault_stands k i s
  have hregulated : LineStands (enterFault k i s) (stopRegulation
      ((enterFault k i s).mapCtx (fun c => { c with abortKind := some k }))) := by
    exact ⟨by simp, by simp, by simp, by simp, by simp, by constructor <;> simp⟩
  have hstopping := (hentered.trans hregulated).trans (enterState_stands .stopping _)
  obtain ⟨hsafe, hrst⟩ := makeSafe_stands (hstopping.silence.trans hs)
  refine ⟨hstopping.trans hsafe, ?_, by simp [abortWeld, makeSafe_wsq]⟩
  show (makeSafe _).rst = _
  rw [hrst]
  simp

/-- R65: the silence flag is set. -/
def silenced (s : State) : State := { s with wsq := { s.wsq with silence := true } }

/-- R65: READY and LOCKED go to OFFLINE. -/
def toOffline (s : State) : State :=
  match s.wsq.seq with
  | .ready => enterState .offline s
  | .locked => enterState .offline s
  | _ => s

theorem toOffline_stays {s : State} (h1 : s.wsq.seq ≠ .ready) (h2 : s.wsq.seq ≠ .locked) : toOffline s = s := by
  unfold toOffline
  split
  next h => exact absurd h h1
  next h => exact absurd h h2
  next => rfl

theorem toOffline_goes {s : State} (h : s.wsq.seq = .ready ∨ s.wsq.seq = .locked) :
    toOffline s = enterState .offline s := by
  rcases h with h | h <;> simp only [toOffline, h]

theorem duplicateFound_eq {s : State} (h : s.wsq.silence = false) : duplicateFound s
    = silenceLine (toOffline (takeStationFault .duplicateStation none (silenced s))) := by
  rw [duplicateFound, if_neg (by simp [h])]
  rfl

/-- R65, R69: what the fault leaves before the line is silenced. -/
structure Struck (s u : State) : Prop where
  stands : LineStands (silenced s) u
  rst    : u.rst = { s.rst with
    log := s.rst.log.file { kind := .duplicateStation, state := s.wsq.seq, weldNumber := s.weldNumber?, input := none } }
  past   : u.wsq.seq ≠ .close
  idle   : s.ctx = none → s.wsq.seq = .ready ∨ s.wsq.seq = .locked → u.wsq.seq = .offline ∧ u.ctx = none
  aborts : ∀ c, s.ctx = some c → s.wsq.seq.abortable = true →
    u.wsq.seq = .stopping ∧ ∃ c', u.ctx = some c' ∧ c'.abortKind = some .duplicateStation
  late   : ∀ c, s.ctx = some c →
    s.wsq.seq = .hold ∨ s.wsq.seq = .letGo ∨ s.wsq.seq = .unclamp ∨ s.wsq.seq = .stopping →
    u.wsq = { s.wsq with silence := true } ∧ u.mfe.set = s.mfe.set
    ∧ ∃ c', u.ctx = some c'
      ∧ c'.abortKind = (if s.wsq.seq ≠ .stopping ∧ c.abortKind = none then some .duplicateStation else c.abortKind)
      ∧ (c'.overflow = true ∨ .duplicateStation ∈ c'.faults.map (·.kind))

theorem struck (s : State) : Struck s (toOffline (takeStationFault .duplicateStation none (silenced s))) := by
  have hentered := enterFault_stands .duplicateStation none (silenced s)
  have hrst := enterFault_rst .duplicateStation none (silenced s)
  have hwsq : (enterFault .duplicateStation none (silenced s)).wsq = (silenced s).wsq := by simp [enterFault]
  have hset : (enterFault .duplicateStation none (silenced s)).mfe.set = s.mfe.set := by simp [enterFault, silenced]
  have hctx {c : WeldCtx} (h : s.ctx = some c) :=
    enterFaultAs_shape (silenced s).wsq.seq .duplicateStation none (s := silenced s) h
  by_cases habort : s.wsq.seq.abortable = true
  · obtain ⟨hstands, hsame, hseq⟩ := abortWeld_stands .duplicateStation none (s := silenced s) rfl
    have htake : takeStationFault .duplicateStation none (silenced s) = abortWeld .duplicateStation none (silenced s) :=
      if_pos habort
    rw [htake, toOffline_stays (by rw [hseq]; decide) (by rw [hseq]; decide)]
    refine ⟨hstands, hsame.trans hrst, by rw [hseq]; decide, fun _ hor => ?_, fun c h _ => ⟨hseq, ?_⟩, fun c _ hor => ?_⟩
    · rcases hor with h | h <;> rw [h] at habort <;> cases habort
    · obtain ⟨c', hc', hkind, -⟩ := aborted_weld (abortWeld_aborted .duplicateStation none (silenced s) c h)
      rw [gateCurrent_ctx] at hc'
      exact ⟨c', hc', hkind⟩
    · rcases hor with h | h | h | h <;> rw [h] at habort <;> cases habort
  have hnot : s.wsq.seq ≠ .close := by
    rintro h
    exact habort (by rw [h]; rfl)
  by_cases hlate : s.wsq.seq = .hold ∨ s.wsq.seq = .letGo ∨ s.wsq.seq = .unclamp
  · have htake : takeStationFault .duplicateStation none (silenced s) = _ :=
      (takeStationFault_late .duplicateStation none (s := silenced s) hlate).trans (enterLate_eq _ _ _)
    have hstays : ∀ st : SeqState, st = .ready ∨ st = .locked ∨ st = .stopping → s.wsq.seq ≠ st := by
      rintro st (rfl | rfl | rfl) h <;> rw [h] at hlate <;> simp at hlate
    rw [htake, toOffline_stays (by dsimp only; rw [hwsq]; exact hstays _ (by simp))
      (by dsimp only; rw [hwsq]; exact hstays _ (by simp))]
    refine ⟨⟨hentered.silence, hentered.calls, hentered.held, hentered.call, hentered.peers,
      ⟨hentered.outside.pins, hentered.outside.svp, hentered.outside.freeCount, hentered.outside.pending⟩⟩, hrst,
      by dsimp only; rw [hwsq]; exact hnot, fun _ hor => ?_, fun c _ h => absurd h habort, fun c h _ => ⟨hwsq, hset, ?_⟩⟩
    · rcases hor with h | h
      · exact absurd h (hstays _ (by simp))
      · exact absurd h (hstays _ (by simp))
    · obtain ⟨faults, full, cut, hc, hlisted, -⟩ := hctx h
      refine ⟨_, congrArg (Option.map _) hc, ?_, hlisted⟩
      simp [hstays .stopping (by simp)]
  · have hplain : s.wsq.seq = .stopping ∨ s.wsq.seq = .ready ∨ s.wsq.seq = .offline ∨ s.wsq.seq = .locked := by
      revert habort hlate
      cases s.wsq.seq <;> simp [SeqState.abortable]
    have htake : takeStationFault .duplicateStation none (silenced s) = enterFault .duplicateStation none (silenced s) :=
      takeStationFault_plain .duplicateStation none (s := silenced s) hplain
    rw [htake]
    by_cases hrest : s.wsq.seq = .ready ∨ s.wsq.seq = .locked
    · rw [toOffline_goes (by rw [hwsq]; exact hrest)]
      refine ⟨hentered.trans (enterState_stands _ _), by rw [enterState_rst]; exact hrst, by simp, fun h _ => ⟨by simp, ?_⟩,
        fun c _ h => absurd h habort, fun c _ hor => ?_⟩
      · refine enterState_idle _ ?_
        rw [enterFault_idle _ _ (by exact h), logFault_ctx]
        exact h
      · rcases hrest with h | h <;> rw [h] at hor <;> simp at hor
    · rw [toOffline_stays (by rw [hwsq]; exact fun h => hrest (.inl h)) (by rw [hwsq]; exact fun h => hrest (.inr h))]
      refine ⟨hentered, hrst, by rw [hwsq]; exact hnot, fun _ h => absurd h hrest, fun c _ h => absurd h habort,
        fun c h hor => ⟨hwsq, hset, ?_⟩⟩
      have hstopping : s.wsq.seq = .stopping := by
        rcases hor with h | h | h | h
        · exact absurd (.inl h) hlate
        · exact absurd (.inr (.inl h)) hlate
        · exact absurd (.inr (.inr h)) hlate
        · exact h
      obtain ⟨faults, full, cut, hc, hlisted, -⟩ := hctx h
      exact ⟨_, hc, by simp [hstopping], hlisted⟩

/-- Settles O42: the fault by state, then the line silenced and its QUEUED and held calls freed. -/
theorem duplicateStationSilencesTheHead : Obligations.DuplicateStationSilencesTheHead := by
  intro bytes f s hf hsource hlow hhigh hline hreset hoffline hattempt
  have htakes : s.takesFrames = true := by simp [State.takesFrames, hline, hreset, hoffline]
  have hvalid : s.lnp.strapValid = true := by simp [Lnp.strapValid, hlow, hhigh]
  have hexec : exec (.duplicateStation bytes) s = .next (gateCurrent (duplicateFound s)) :=
    congrArg finish (receive_duplicate (fun _ => false) bytes f s htakes hattempt hf hsource hvalid)
  refine ⟨fun hs => ?_, fun hs => ⟨_, hexec, ?_⟩⟩
  · rw [hexec, duplicateFound, if_pos hs]
  have hstruck := struck s
  rw [duplicateFound_eq hs, silenceLine_past hstruck.past]
  generalize toOffline _ = u at *
  obtain ⟨hsilence, hcalls, hheld, hcall, hpeers, hout⟩ := hstruck.stands
  change u.lnp.calls = s.lnp.calls at hcalls
  change u.lnp.held = s.lnp.held at hheld
  change u.tnl.call = s.tnl.call at hcall
  rw [gateCurrent_lnp, gateCurrent_wsq, gateCurrent_rst, gateCurrent_ctx, gateCurrent_tnl, gateCurrent_mfe_set]
  refine ⟨hsilence, rfl, rfl, rfl, rfl, rfl, rfl, hpeers,
    outside_gated ⟨hout.pins, hout.svp, hout.freeCount, hout.pending⟩, hstruck.rst, fun hnodup => ?_, fun k hk => ?_,
    hstruck.idle, hstruck.aborts, hstruck.late⟩
  · rw [← hcalls] at hnodup ⊢
    exact calls_awaiting hnodup
  · intro hfreed
    have hqueued : k.dest ∈ queuedTo u.lnp ↔ ∃ r ∈ s.lnp.calls, r.dest = k.dest ∧ r.deadline = none := by
      rw [mem_queuedTo, hcalls]
    have huk : u.tnl.call = some k := hcall.trans hk
    by_cases hwaits : s.lnp.held.isSome = true ∧ k.number = none
    · obtain ⟨x, hx⟩ := Option.isSome_iff_exists.mp hwaits.1
      have hreleased : releasedHeld u.lnp.held u.tnl = released k u.tnl := by
        simp [releasedHeld, hheld, hx, huk, hwaits.2]
      rw [hreleased, releasedTo_none _ rfl]
      exact ⟨fun _ => ⟨rfl, fun hclosure => if_pos hclosure⟩, fun hno => absurd (Or.inr hwaits) hno⟩
    · have hkept : releasedHeld u.lnp.held u.tnl = u.tnl := by
        unfold releasedHeld
        split
        next c hc hcall' =>
          cases huk.symm.trans hcall'
          rw [if_neg]
          intro hnone
          exact hwaits ⟨by rw [← hheld, hc]; rfl, Option.isNone_iff_eq_none.mp hnone⟩
        next => rfl
      rw [hkept, releasedTo_some _ huk]
      refine ⟨fun hyes => ?_, fun hno => ?_⟩
      · rw [if_pos (hqueued.mpr (hyes.resolve_right hwaits))]
        exact ⟨rfl, fun hclosure => if_pos hclosure⟩
      · rw [if_neg (fun hin => hno (.inl (hqueued.mp hin)))]
        exact huk

end Sys2Proof.Proofs.Duplicates

/-! The peer view (R113, R114, R153, R154): which rows a command changes, and that the notices leave the rows and Q in force
as the change has left them. -/
namespace Sys2Proof.Proofs.PeerView
open Sys2Proof Sys2Proof.Machine Sys2Proof.Proofs.Preheat Sys2Proof.Proofs.Orders Sys2Proof.Proofs.Claims
  Sys2Proof.Proofs.Outcomes Sys2Proof.Proofs.Aborts

set_option Elab.async false

/-! ### The rows and Q in force through the operations -/

/-- The rows, Q in force and the pairing stand. -/
structure RowsKept (s t : State) : Prop where
  peers : t.lnp.peers = s.lnp.peers
  q     : t.clu.qInForce = s.clu.qInForce
  pair  : t.pair = s.pair

theorem RowsKept.refl (s : State) : RowsKept s s := ⟨rfl, rfl, rfl⟩

theorem RowsKept.trans {s t u : State} (h : RowsKept s t) (k : RowsKept t u) : RowsKept s u :=
  ⟨k.peers.trans h.peers, k.q.trans h.q, k.pair.trans h.pair⟩

/-- The same, with the first step read off the second. -/
theorem RowsKept.after {s t u : State} (k : RowsKept t u) (h : RowsKept s t) : RowsKept s u := h.trans k

theorem rowsKept_ite {p : Prop} [Decidable p] {s t u : State} (h : RowsKept s t) (k : RowsKept s u) :
    RowsKept s (if p then t else u) := by
  split
  · exact h
  · exact k

section
variable {s : State}

theorem pair_of_map {t : State} {f : WeldCtx → WeldCtx} (h : t.ctx = s.ctx.map f) (hf : ∀ c, (f c).pair = c.pair) :
    t.pair = s.pair := by
  rw [State.pair, h, State.pair]
  cases s.ctx <;> simp [hf]

theorem mapCtx_rows {f : WeldCtx → WeldCtx} (hf : ∀ c, (f c).pair = c.pair) : RowsKept s (s.mapCtx f) :=
  ⟨rfl, rfl, pair_of_map rfl hf⟩

theorem activate_rows (src : Source) : RowsKept s (activate src s) := by
  obtain ⟨b, hb⟩ := activate_ctx src s
  exact ⟨by simp, by simp, pair_of_map hb fun _ => rfl⟩

theorem announceChange_rows : RowsKept s (announceChange s) := ⟨by simp, by simp, by simp [State.pair]⟩

theorem sendClaim_rows : RowsKept s (sendClaim s) := by
  refine ⟨by simp, ?_, by simp [State.pair]⟩
  unfold sendClaim claimSent
  dsimp only
  repeat' split
  all_goals simp

theorem setOwnClaim_rows (v : Nat) : RowsKept s (setOwnClaim v s) :=
  rowsKept_ite (.refl s) (((activate_rows _).trans announceChange_rows).after ⟨rfl, rfl, rfl⟩)

theorem offer_rows (f : OutFrame) : RowsKept s (offer f s) := ⟨by simp, by simp, by simp [State.pair]⟩

theorem enterState_rows (st : SeqState) : RowsKept s (enterState st s) :=
  ((activate_rows _).trans announceChange_rows).after
    ⟨rfl, rfl, pair_of_map (f := fun c => if st.forward then { c with phaseReached := st } else c) rfl
      fun c => by split <;> rfl⟩

theorem addFault_pair (kind : FaultKind) (p : SeqState) (c : WeldCtx) : (c.addFault kind p).1.pair = c.pair := by
  obtain ⟨faults, full, hshape⟩ := addFault_shape kind p c
  rw [hshape]

theorem enterFault_rows (k : FaultKind) (i : Option Int) : RowsKept s (enterFault k i s) := by
  refine ⟨by simp [enterFault], by simp [enterFault], ?_⟩
  cases h : s.ctx with
  | none => rw [enterFault_idle k i h, State.pair, logFault_ctx, State.pair]
  | some c =>
    obtain ⟨cut, hcut⟩ := enterFaultAs_cut s.wsq.seq k i h
    rw [State.pair, enterFault, hcut, State.pair, h]
    exact addFault_pair k _ c

theorem yieldOwnClaim_rows : RowsKept s (yieldOwnClaim s) := by
  unfold yieldOwnClaim
  dsimp only
  split
  · exact .refl s
  · exact ⟨rfl, rfl, rfl⟩
  · exact ⟨rfl, rfl, rfl⟩
  · have hgiven := ((setOwnClaim_rows 0).trans (offer_rows (.yieldClaim s.weldNumber))).after (s := s) (t := { s with
      clu := { s.clu with settleTimer := none, backoffTimer := none, shedTimer := none, claimWait := none } })
      ⟨rfl, rfl, rfl⟩
    exact ⟨hgiven.peers, hgiven.q, hgiven.pair⟩

theorem sendLetGo_rows : RowsKept s (sendLetGo s) := ⟨by simp, by simp, by simp [State.pair]⟩

theorem stopTensor_rows : RowsKept s (stopTensor s) := ⟨by simp, by simp, by simp [State.pair]⟩

theorem makeSafe_rows : RowsKept s (makeSafe s) := by
  have hyield := (yieldOwnClaim_rows (s := { s with
    mfe := { s.mfe with set := { current := 0, velocity := 0, force := 0, clamp := .opn } }
    wsq := { s.wsq with stroke := .none, upsetTimer := none } })).after (s := s) ⟨rfl, rfl, rfl⟩
  have hstopped := hyield.trans stopTensor_rows
  exact (hstopped.trans (rowsKept_ite sendLetGo_rows (.refl _))).trans ⟨rfl, rfl, rfl⟩

theorem stopRegulation_rows : RowsKept s (stopRegulation s) :=
  ⟨by simp, by simp, pair_of_map (stopRegulation_ctx s) fun c => by split <;> rfl⟩

theorem abortWeld_rows (k : FaultKind) (i : Option Int) : RowsKept s (abortWeld k i s) :=
  ((((enterFault_rows k i).trans (mapCtx_rows (f := fun c => { c with abortKind := some k }) fun _ => rfl)).trans
    stopRegulation_rows).trans (enterState_rows .stopping)).trans makeSafe_rows

theorem takeFault_rows (k : FaultKind) (i : Option Int) : RowsKept s (takeFault k i s) :=
  rowsKept_ite (abortWeld_rows k i) (rowsKept_ite (enterFault_rows k i) (.refl s))

theorem claimAmount_rows (amount : Nat) : RowsKept s (claimAmount amount s) :=
  ((setOwnClaim_rows amount).trans sendClaim_rows).after ⟨rfl, rfl, rfl⟩

theorem decideClaim_rows : RowsKept s (decideClaim s) := by
  unfold decideClaim
  split
  · exact .refl s
  · dsimp only
    split
    · exact (claimAmount_rows _).after ⟨rfl, rfl, rfl⟩
    · exact ⟨rfl, rfl, rfl⟩

theorem redecideClaim_rows : RowsKept s (redecideClaim s) := by
  unfold redecideClaim
  split
  · exact .refl s
  · dsimp only
    split
    · exact (claimAmount_rows _).after ⟨rfl, rfl, rfl⟩
    · exact ((setOwnClaim_rows 0).trans (offer_rows _)).after ⟨rfl, rfl, rfl⟩

theorem yieldToLower_rows : RowsKept s (yieldToLower s) := ((setOwnClaim_rows 0).trans (offer_rows _)).after ⟨rfl, rfl, rfl⟩

theorem shrinkClaim_rows (amount : Nat) : RowsKept s (shrinkClaim amount s) :=
  (((setOwnClaim_rows amount).trans sendClaim_rows).trans (enterFault_rows _ _)).after (mapCtx_rows fun _ => rfl)

theorem shortfall_rows : RowsKept s (shortfall s) :=
  rowsKept_ite (takeFault_rows _ _) ((rowsKept_ite (shrinkClaim_rows _) (.refl s)).trans ⟨rfl, rfl, rfl⟩)

theorem checkSpare_rows : RowsKept s (checkSpare s) :=
  rowsKept_ite (.refl s) (rowsKept_ite (shrinkClaim_rows _) shortfall_rows)

theorem checkShed_rows : RowsKept s (checkShed s) :=
  rowsKept_ite ⟨rfl, rfl, rfl⟩ (rowsKept_ite (takeFault_rows _ _) (.refl s))

theorem settleNotice_rows (n : Nat) (rose fell : Bool) : RowsKept s (settleNotice n rose fell s) :=
  rowsKept_ite yieldToLower_rows (rowsKept_ite redecideClaim_rows (.refl s))

theorem enterPower_rows : RowsKept s (enterPower s) :=
  RowsKept.after (t := enterState .power s) (decideClaim_rows.after ⟨rfl, rfl, rfl⟩) (enterState_rows .power)

theorem enterFlash_rows : RowsKept s (enterFlash s) :=
  (enterState_rows .flash).trans ⟨rfl, rfl, pair_of_map rfl fun _ => rfl⟩

theorem enterUnclamp_rows : RowsKept s (enterUnclamp s) := (enterState_rows .unclamp).trans ⟨rfl, rfl, rfl⟩

theorem holdBroken_rows : RowsKept s (holdBroken s) := rowsKept_ite (.refl s) ((enterFault_rows _ _).trans ⟨rfl, rfl, rfl⟩)

theorem requestCall_rows (d : Nat) (b : CallBody) : RowsKept s (requestCall d b s) :=
  ⟨by simp, by simp, by simp [State.pair]⟩

theorem dropRecord_rows (d : Nat) : RowsKept s (dropRecord d s) := by
  unfold dropRecord
  dsimp only
  split
  · exact ⟨rfl, rfl, rfl⟩
  · split
    · exact (requestCall_rows _ _).after ⟨rfl, rfl, rfl⟩
    · exact ⟨rfl, rfl, rfl⟩

theorem gateNotice_rows : RowsKept s (gateNotice s) := by
  unfold gateNotice
  split
  · exact .refl s
  · dsimp only
    split
    · exact enterPower_rows.after ⟨rfl, rfl, rfl⟩
    · exact enterFlash_rows.after ⟨rfl, rfl, rfl⟩
    · exact holdBroken_rows.after ⟨rfl, rfl, rfl⟩
    · exact ⟨rfl, rfl, rfl⟩

theorem closeRowLost_rows : RowsKept s (closeRowLost s) := by
  unfold closeRowLost
  split
  · split
    · exact takeFault_rows _ _
    · split
      · exact ((dropRecord_rows _).trans (takeFault_rows _ _)).after ⟨rfl, rfl, rfl⟩
      · exact takeFault_rows _ _
  · exact .refl s

theorem pairedNotice_rows (announced : Bool) : RowsKept s (pairedNotice announced s) := by
  have hreport : RowsKept s (if announced then activate .tensorReport s else s) :=
    rowsKept_ite (activate_rows _) (.refl s)
  exact ((hreport.trans closeRowLost_rows).trans gateNotice_rows).trans (rowsKept_ite enterUnclamp_rows (.refl _))

end

/-! ### A row changed -/

theorem setRow_eq {n : Nat} (r : PeerRow) {s : State} (h : 1 ≤ n) : s.setRow n r = { s with
    lnp := { s.lnp with peers := s.lnp.peers.set (n - 1) r } } := if_neg (by omega)

theorem row_eq (s : State) (n : Nat) : s.row n = if n = 0 then .empty else s.lnp.peers.getD (n - 1) .empty := rfl

/-- R153: the row that is set is the one then read. -/
theorem row_set {n : Nat} {r : PeerRow} {s t : State} (hpeers : t.lnp.peers = s.lnp.peers.set (n - 1) r) (h1 : 1 ≤ n)
    (h14 : n ≤ 14) (hlen : s.lnp.peers.length = 14) : t.row n = r := by
  rw [row_eq, if_neg (by omega), hpeers, List.getD_eq_getElem?_getD, List.getElem?_set_self (by omega)]
  rfl

/-- R113, R154: what the claim unit is handed at a change of a row. -/
def cluActs (s : State) (n : Nat) (u : State) : State :=
  let sums := u.clu.qInForce != s.clu.qInForce || u.othersClaims != s.othersClaims
  let lost := s.anyPowerHeard && !u.anyPowerHeard
  let rose := (s.row n).claim < (u.row n).claim
  let fell := u.clu.qInForce < s.clu.qInForce || (s.anyPowerLive && !u.anyPowerLive)
  match u.clu.step with
  | .idle => u
  | .backoff => u
  | .waiting => if sums || s.anyPowerLive != u.anyPowerLive then decideClaim u else u
  | .sending => settleNotice n rose fell u
  | .settling => settleNotice n rose fell u
  | .granted => if lost then losePower none u else if sums then checkSpare u else u
  | .shed => if lost then losePower none u else if sums then checkShed u else u

section
variable {n : Nat} {r : PeerRow} {s : State}

/-- R113: Q in force worked afresh where the row was or is one of a POWER station. -/
def workQ (before : State) (n : Nat) (s : State) : State :=
  if ((before.row n).isPower || (s.row n).isPower) = true then { s with clu := { s.clu with qInForce := s.capacityNow } }
  else s

theorem cluNotice_acts (before : State) (n : Nat) (s : State) :
    cluNotice before n s = cluActs before n (workQ before n s) := rfl

theorem workQ_setRow (h1 : 1 ≤ n) (h14 : n ≤ 14) (hlen : s.lnp.peers.length = 14) :
    workQ s n (s.setRow n r) = s.withRow n r := by
  have hrow : (s.setRow n r).row n = r := row_set (s := s) (by rw [setRow_eq r h1]) h1 h14 hlen
  rw [workQ, hrow, setRow_eq r h1]
  unfold State.withRow
  split <;> rfl

theorem cluNotice_eq (h1 : 1 ≤ n) (h14 : n ≤ 14) (hlen : s.lnp.peers.length = 14) :
    cluNotice s n (s.setRow n r) = cluActs s n (s.withRow n r) := by
  rw [cluNotice_acts, workQ_setRow h1 h14 hlen]

theorem cluActs_rows (s : State) (n : Nat) (u : State) : RowsKept u (cluActs s n u) := by
  unfold cluActs
  dsimp only
  split
  · exact .refl u
  · exact .refl u
  · exact rowsKept_ite decideClaim_rows (.refl u)
  · exact settleNotice_rows _ _ _
  · exact settleNotice_rows _ _ _
  · exact rowsKept_ite (takeFault_rows _ _) (rowsKept_ite checkSpare_rows (.refl u))
  · exact rowsKept_ite (takeFault_rows _ _) (rowsKept_ite checkShed_rows (.refl u))

theorem changeRow_rows (announced : Bool) (h1 : 1 ≤ n) (h14 : n ≤ 14) (hlen : s.lnp.peers.length = 14) :
    RowsKept (s.withRow n r) (changeRow n announced r s) := by
  unfold changeRow
  dsimp only
  rw [cluNotice_eq h1 h14 hlen]
  split
  · exact (cluActs_rows s n _).trans (pairedNotice_rows announced)
  · exact cluActs_rows s n _

/-- R153, R154: whatever follows a change of a row, the rows stand as it has set them. -/
theorem changeRow_peers (announced : Bool) (h1 : 1 ≤ n) :
    (changeRow n announced r s).lnp.peers = s.lnp.peers.set (n - 1) r := by
  have hworked : (workQ s n (s.setRow n r)).lnp.peers = s.lnp.peers.set (n - 1) r := by
    rw [setRow_eq r h1, workQ]
    split <;> rfl
  have hacts := (cluActs_rows s n (workQ s n (s.setRow n r))).peers.trans hworked
  unfold changeRow
  dsimp only
  rw [cluNotice_acts]
  split
  · exact (pairedNotice_rows announced).peers.trans hacts
  · exact hacts

theorem changeRow_outside (announced : Bool) : SameOutside s (gateCurrent (changeRow n announced r s)) :=
  outside_gated (by constructor <;> simp)

end

/-! ### Frames and ages -/

section
variable {bytes : List Byte} {source : Nat} {s : State}

theorem announce_taken {side : Option Side} {role : RoleData} (h : FrameTaken bytes source (.announce side role) s) :
    exec (.announceFrame bytes) s = .next (gateCurrent (changeRow source true (.heard true side 0 role) s)) :=
  frame_taken rfl h

theorem claim_taken {amount state old age : Nat} {live : Bool} {side : Option Side}
    (h : FrameTaken bytes source (.claim amount) s) (hrow : s.row source = .heard live side age (.head state old)) :
    exec (.claimFrame bytes) s
      = .next (gateCurrent (changeRow source false (.heard live side age (.head state amount)) s)) := by
  refine (frame_taken rfl h).trans ?_
  simp only [takeBody, takeClaim, hrow]

theorem yield_taken {state old age : Nat} {live : Bool} {side : Option Side}
    (h : FrameTaken bytes source .yieldClaim s) (hrow : s.row source = .heard live side age (.head state old)) :
    exec (.yieldFrame bytes) s
      = .next (gateCurrent (changeRow source false (.heard live side age (.head state 0)) s)) := by
  refine (frame_taken rfl h).trans ?_
  simp only [takeBody, takeClaim, hrow]

/-- R154: a CLAIM or YIELD from a station that is not heard in role HEAD is discarded. -/
theorem takeClaim_discarded {amount : Nat}
    (h : ∀ live side age state claim, s.row source ≠ .heard live side age (.head state claim)) :
    takeClaim source amount s = s := by
  unfold takeClaim
  split
  next hrow => exact absurd hrow (h _ _ _ _ _)
  next => rfl

theorem stale_taken {n : BitVec 4} {side : Option Side} {age : Nat} {role : RoleData}
    (hrow : s.row n.toNat = .heard true side age role) (hold : 200 ≤ age + 1) : exec (.rowStale n) s
      = .next (gateCurrent (changeRow n.toNat false (.heard false side age role) s)) := by
  show finish (staleRow n.toNat s) = _
  simp only [staleRow, hrow, if_pos hold]
  rfl

theorem empty_taken {n : BitVec 4} {live : Bool} {side : Option Side} {age : Nat} {role : RoleData}
    (hrow : s.row n.toNat = .heard live side age role) (hold : 2000 ≤ age + 1) : exec (.rowEmpty n) s
      = .next (gateCurrent (changeRow n.toNat false .empty s)) := by
  show finish (emptyRow n.toNat s) = _
  simp only [emptyRow, hrow, if_pos hold]
  rfl

/-- R153, R154: every change of a row is one step of `changeRow`, and no ANNOUNCE makes a row EMPTY. -/
theorem rowChange_runs {n : Nat} {row : PeerRow} {i : Instr} (h : RowChange s n row i) : ∃ announced,
    exec i s = .next (gateCurrent (changeRow n announced row s)) ∧ (row = .empty → announced = false) := by
  cases h with
  | announce _ _ _ h => exact ⟨true, announce_taken h, fun he => by cases he⟩
  | claim _ _ _ _ _ _ _ h hrow => exact ⟨false, claim_taken h hrow, fun _ => rfl⟩
  | yieldClaim _ _ _ _ _ _ h hrow => exact ⟨false, yield_taken h hrow, fun _ => rfl⟩
  | stale station _ _ _ h hrow hold =>
    subst h
    exact ⟨false, stale_taken hrow hold, fun _ => rfl⟩
  | gone station _ _ _ _ h hrow hold =>
    subst h
    exact ⟨false, empty_taken hrow hold, fun _ => rfl⟩

end

/-- R113, R153: the row of a LIVE POWER station makes Q in force the sum of the offers. -/
theorem withRow_power {n : Nat} {s : State} {side : Option Side} {age : Nat} {u : UnitState} {offered : Nat} (h1 : 1 ≤ n)
    (h14 : n ≤ 14) (hlen : s.lnp.peers.length = 14) :
    let t := s.withRow n (.heard true side age (.power u offered))
    t.clu.qInForce = (t.lnp.peers.map PeerRow.offer).sum := by
  have hlive : (s.lnp.peers.set (n - 1) (.heard true side age (.power u offered))).any
      (fun x => x.isPower && x.isLive) = true :=
    List.any_eq_true.mpr ⟨_, List.mem_set (by omega) _, rfl⟩
  have hpower : (PeerRow.heard true side age (.power u offered)).isPower = true := rfl
  simp only [State.withRow, hlive, hpower, if_true, Bool.or_true]

end Sys2Proof.Proofs.PeerView

/-! The claim unit at a change of a row (R114 to R126); the statement RowsAreSetByFrames. -/
namespace Sys2Proof.Proofs.RowNotices
open Sys2Proof Sys2Proof.Machine Sys2Proof.Proofs.Preheat Sys2Proof.Proofs.Outcomes Sys2Proof.Proofs.HoldEnds
  Sys2Proof.Proofs.Orders Sys2Proof.Proofs.Claims Sys2Proof.Proofs.Closures Sys2Proof.Proofs.PeerView

set_option Elab.async false

/-! ### A claim given back, decided again and shrunk -/

/-- R118, R119: the claim is given back by a YIELD. -/
structure GivenBack (c : WeldCtx) (s t : State) : Prop where
  wsq    : t.wsq = s.wsq
  clu    : t.clu = { s.clu with ownClaim := 0 }
  queued : s.wsq.silence = false → s.lnp.queue.length < 7 → .yieldClaim c.weldNumber ∈ t.lnp.queue

theorem givenBack_at {s : State} {c : WeldCtx} (c' : WeldCtx) (hn : c'.weldNumber = c.weldNumber) :
    GivenBack c s (offer (.yieldClaim c'.weldNumber) (setOwnClaim 0 s)) := by
  have hann := setOwnClaim_announced 0 s
  have hgrows := hann.length
  refine ⟨by simp, by rw [offer_clu, setOwnClaim_clu], fun hs hq => ?_⟩
  rw [offer_queue_room _ _ (hann.quiet.trans hs) (by unfold queueLimit; omega), hn]
  exact List.mem_append_right _ (List.mem_singleton.mpr rfl)

theorem yieldToLower_at {s : State} {c : WeldCtx} (h : s.ctx = some c) :
    GivenBack c { s with clu := { s.clu with
      settleTimer := none, step := .backoff, backoffTimer := some { length := s.lnp.station * 20, elapsed := 0 } } }
      (yieldToLower s) := by
  unfold yieldToLower
  rw [weldNumber_of_ctx h]
  exact givenBack_at c rfl

/-- R119: the decision taken again: the room claimed where it is D_min or more, and the claim given back otherwise. -/
structure Redecided (c : WeldCtx) (s t : State) : Prop where
  room   : t.clu.room = s.room
  wsq    : t.wsq = s.wsq
  timer  : s.wsq.silence = false → t.clu.settleTimer = none
  whole  : (c.demand : Int) ≤ s.room → t.clu.ownClaim = c.demand
  part   : s.room < c.demand → (c.dMin : Int) ≤ s.room → (t.clu.ownClaim : Int) = s.room
  sends  : (c.demand : Int) ≤ s.room ∨ (c.dMin : Int) ≤ s.room → s.wsq.silence = false → t.clu.step = .sending
    ∧ (s.lnp.queue.length < 7 → .claim t.clu.ownClaim c.weldNumber t.clu.serial ∈ t.lnp.queue)
  waits  : s.room < c.demand → s.room < c.dMin → t.clu.step = .waiting ∧ t.clu.ownClaim = 0
    ∧ (s.wsq.silence = false → s.lnp.queue.length < 7 → .yieldClaim c.weldNumber ∈ t.lnp.queue)

theorem redecideClaim_at {s : State} {c : WeldCtx} (h : s.ctx = some c) : Redecided c s (redecideClaim s) := by
  cases hd : decidedAmount c s.room with
  | none =>
    have ht : redecideClaim s = offer (.yieldClaim c.weldNumber) (setOwnClaim 0 { s with
        clu := { s.clu with room := s.room, settleTimer := none, step := .waiting } }) := by
      simp only [redecideClaim, h, hd, weldNumber_of_ctx h]
    obtain ⟨h1, h2⟩ := decidedAmount_none hd
    have hback := givenBack_at (c := c) (s := { s with
        clu := { s.clu with room := s.room, settleTimer := none, step := .waiting } }) c rfl
    rw [ht]
    exact
      { room := by rw [hback.clu], wsq := hback.wsq, timer := fun _ => by rw [hback.clu]
        whole := fun h' => by omega, part := fun _ h' => by omega, sends := fun h' => by omega
        waits := fun _ _ => ⟨by rw [hback.clu], by rw [hback.clu], hback.queued⟩ }
  | some amount =>
    have ht : redecideClaim s = claimAmount amount { s with
        clu := { s.clu with room := s.room, settleTimer := none } } := by
      simp only [redecideClaim, h, hd]
    have hclaimed := claimAmount_claimed amount (s0 := s)
      (s := { s with clu := { s.clu with room := s.room, settleTimer := none } }) (.of_eq rfl rfl rfl) h
    obtain ⟨hroom, -⟩ := hclaimed.kept
    rw [ht]
    exact
      { room := hroom, wsq := hclaimed.aside.wsq, timer := fun hs => (hclaimed.sends hs).2
        whole := fun h' => by
          rw [hclaimed.own]
          rcases decidedAmount_some hd with ⟨-, hd⟩ | ⟨hd, -⟩ <;> omega
        part := fun h' _ => by
          rw [hclaimed.own]
          rcases decidedAmount_some hd with ⟨hd, -⟩ | ⟨-, -, hd⟩ <;> omega
        sends := fun _ hs => ⟨(hclaimed.sends hs).1, hclaimed.queued hs⟩
        waits := fun h1 h2 => by rcases decidedAmount_some hd with ⟨hd, -⟩ | ⟨-, hd, -⟩ <;> omega }

/-- R122: the granted claim shrunk. -/
structure Shrunk (amount : Nat) (c : WeldCtx) (s t : State) : Prop where
  context : ∃ c', t.ctx = some c' ∧ c'.granted = amount ∧ c'.share = amount * 1000 / c.demand
    ∧ (c'.overflow = true ∨ .powerDegraded ∈ c'.faults.map (·.kind))
  wsq     : t.wsq = s.wsq
  clu     : t.clu = { s.clu with ownClaim := amount, serial := s.clu.serial + 1 }
  queued  : s.wsq.silence = false → s.lnp.queue.length < 7 →
    .claim amount c.weldNumber (s.clu.serial + 1) ∈ t.lnp.queue

/-- R117: a CLAIM offered out of SENDING changes the serial alone. -/
theorem sendClaim_clu_past {s : State} (h : s.clu.step ≠ .sending) :
    (sendClaim s).clu = { s.clu with serial := s.clu.serial + 1 } := by
  cases hs : s.wsq.silence with
  | false => exact sendClaim_clu hs
  | true =>
    unfold sendClaim
    dsimp only
    rw [if_pos hs, claimSent, if_neg (by simp [h])]
    simp

theorem shrinkClaim_at (amount : Nat) {s : State} {c : WeldCtx} (h : s.ctx = some c) (hstep : s.clu.step ≠ .sending) :
    Shrunk amount c s (shrinkClaim amount s) := by
  have hctx0 : (s.mapCtx (fun c => { c with granted := amount, share := shareOf amount c.demand })).ctx
      = some { c with granted := amount, share := amount * 1000 / c.demand } := by simp [h, shareOf]
  obtain ⟨cut, hctx1⟩ := setOwnClaim_cut amount hctx0
  have hset := setOwnClaim_clu amount (s.mapCtx (fun c => { c with granted := amount, share := shareOf amount c.demand }))
  have hwsq : (setOwnClaim amount (s.mapCtx
    (fun c => { c with granted := amount, share := shareOf amount c.demand }))).wsq = s.wsq := by simp
  have hann : Announced s (setOwnClaim amount (s.mapCtx
      (fun c => { c with granted := amount, share := shareOf amount c.demand }))) :=
    (setOwnClaim_announced _ _).after rfl rfl rfl
  unfold shrinkClaim
  dsimp only
  generalize setOwnClaim amount _ = x at *
  have hxstep : x.clu.step = s.clu.step := by rw [hset]; rfl
  have hclu := sendClaim_clu_past (s := x) (by rw [hxstep]; exact hstep)
  have hctx2 : (sendClaim x).ctx = _ := (sendClaim_ctx x).trans hctx1
  obtain ⟨faults, full, cut', hctx3, hlisted, -⟩ :=
    enterFaultAs_shape (sendClaim x).wsq.seq .powerDegraded (some (amount : Int)) hctx2
  refine ⟨⟨_, hctx3, rfl, rfl, hlisted⟩, by simp [enterFault, hwsq], ?_, fun hs hq => ?_⟩
  · rw [enterFault, enterFaultAs_clu, hclu, hset]
    rfl
  · have hin := sendClaim_queued hann hs hq
    rw [hset, weldNumber_of_ctx hctx1] at hin
    exact mem_of_announced (enterFaultAs_announced _ _ _ _) hin

/-! ### The claim unit by its step -/

theorem highestClaimant_iff (s : State) :
    s.highestClaimant = true ↔ ∀ m, 1 ≤ m → m ≤ 14 → (s.row m).claim = 0 ∨ m < s.lnp.station := by
  simp only [State.highestClaimant, List.all_eq_true, List.mem_range'_1, Bool.or_eq_true, beq_iff_eq, decide_eq_true_eq]
  exact ⟨fun h m h1 h2 => h m ⟨h1, by omega⟩, fun h m ⟨h1, h2⟩ => h m h1 (by omega)⟩

/-- R113, R122: one of the sums has changed. -/
def Moved (s u : State) : Prop := u.clu.qInForce ≠ s.clu.qInForce ∨ u.othersClaims ≠ s.othersClaims

theorem moved_iff (s u : State) :
    (u.clu.qInForce != s.clu.qInForce || u.othersClaims != s.othersClaims) = true ↔ Moved s u := by
  simp [Moved]

/-- R125: the last POWER row has become EMPTY. -/
def AllLost (s u : State) : Prop := s.anyPowerHeard = true ∧ u.anyPowerHeard = false

theorem allLost_iff (s u : State) : (s.anyPowerHeard && !u.anyPowerHeard) = true ↔ AllLost s u := by simp [AllLost]

section
variable {s u : State} {n : Nat}

theorem cluActs_noted (h : u.clu.step = .idle ∨ u.clu.step = .backoff) : cluActs s n u = u := by
  rcases h with h | h <;> simp only [cluActs, h]

theorem cluActs_waiting (h : u.clu.step = .waiting) :
    (¬Moved s u → u.anyPowerLive = s.anyPowerLive → cluActs s n u = u)
    ∧ (Moved s u ∨ u.anyPowerLive ≠ s.anyPowerLive → cluActs s n u = decideClaim u) := by
  have hcond : ((u.clu.qInForce != s.clu.qInForce || u.othersClaims != s.othersClaims)
      || s.anyPowerLive != u.anyPowerLive) = true ↔ Moved s u ∨ u.anyPowerLive ≠ s.anyPowerLive := by
    rw [Bool.or_eq_true, moved_iff, bne_iff_ne, ne_comm]
  simp only [cluActs, h]
  refine ⟨fun h1 h2 => if_neg (mt hcond.mp ?_), fun h1 => if_pos (hcond.mpr h1)⟩
  rintro (h3 | h3)
  · exact h1 h3
  · exact h3 h2

/-- R118: the row of station `n` shows a higher claim, the claims pass Q in force, and the station is the lower. -/
def Conflict (s : State) (n : Nat) (u : State) : Prop :=
  (s.row n).claim < (u.row n).claim ∧ u.clu.qInForce < u.othersClaims + u.clu.ownClaim ∧ n < u.lnp.station

/-- R119: the capacity fell below the claims. -/
def FellShort (s u : State) : Prop :=
  (u.clu.qInForce < s.clu.qInForce ∨ (s.anyPowerLive = true ∧ u.anyPowerLive = false))
  ∧ u.capacityForRoom < u.clu.ownClaim + u.othersClaims

theorem cluActs_settling (h : u.clu.step = .sending ∨ u.clu.step = .settling) :
    (Conflict s n u → cluActs s n u = yieldToLower u)
    ∧ (¬Conflict s n u → FellShort s u → cluActs s n u = redecideClaim u)
    ∧ (¬Conflict s n u → ¬FellShort s u → cluActs s n u = u) := by
  have hacts : cluActs s n u = settleNotice n ((s.row n).claim < (u.row n).claim)
      (u.clu.qInForce < s.clu.qInForce || (s.anyPowerLive && !u.anyPowerLive)) u := by
    rcases h with h | h <;> simp only [cluActs, h]
  rw [hacts, settleNotice]
  have hconflict : (decide ((s.row n).claim < (u.row n).claim)
      && decide (u.clu.qInForce < u.othersClaims + u.clu.ownClaim) && decide (n < u.lnp.station)) = true
      ↔ Conflict s n u := by simp [Conflict, and_assoc]
  have hfell : ((decide (u.clu.qInForce < s.clu.qInForce) || (s.anyPowerLive && !u.anyPowerLive))
      && decide (u.capacityForRoom < u.clu.ownClaim + u.othersClaims)) = true ↔ FellShort s u := by simp [FellShort]
  exact ⟨fun h1 => if_pos (hconflict.mpr h1),
    fun h1 h2 => (if_neg (mt hconflict.mp h1)).trans (if_pos (hfell.mpr h2)),
    fun h1 h2 => (if_neg (mt hconflict.mp h1)).trans (if_neg (mt hfell.mp h2))⟩

/-- R122, R124, R125: GRANTED and SHED at a change: the loss of all power, a check of the spare power, or nothing. -/
theorem cluActs_holding (h : u.clu.step = .granted ∨ u.clu.step = .shed) :
    (AllLost s u → cluActs s n u = losePower none u)
    ∧ (¬AllLost s u → ¬Moved s u → cluActs s n u = u)
    ∧ (¬AllLost s u → Moved s u → cluActs s n u = if u.clu.step = .shed then checkShed u else checkSpare u) := by
  have hlost := allLost_iff s u
  have hmoved := moved_iff s u
  rcases h with h | h <;> simp only [cluActs, h, if_true, reduceCtorEq, if_false] <;>
    exact ⟨fun h1 => if_pos (hlost.mpr h1), fun h1 h2 => (if_neg (mt hlost.mp h1)).trans (if_neg (mt hmoved.mp h2)),
      fun h1 h2 => (if_neg (mt hlost.mp h1)).trans (if_pos (hmoved.mpr h2))⟩

end

/-- R123, R126: the highest claimant, or a head that has lost all power, aborts the weld. -/
theorem losePower_aborts {i : Option Int} {s : State} {c : WeldCtx} (h : s.ctx = some c) (ha : s.wsq.seq.abortable = true) :
    Aborted (if s.wsq.seq = .power then .powerDenied else .powerLost) i s (gateCurrent (losePower i s)) :=
  takeFault_aborts h ha

/-- R122, R123: the claim after a check in GRANTED that does not abort. -/
structure Held (amount : Int) (c : WeldCtx) (s t : State) : Prop where
  context : ∃ c', t.ctx = some c' ∧ (amount < s.clu.ownClaim → (c'.granted : Int) = amount
    ∧ (c'.share : Int) = amount * 1000 / c.demand ∧ (c'.overflow = true ∨ .powerDegraded ∈ c'.faults.map (·.kind)))
  wsq     : t.wsq = s.wsq
  own     : (t.clu.ownClaim : Int) = amount
  queued  : amount < s.clu.ownClaim → s.wsq.silence = false → s.lnp.queue.length < 7 →
    .claim t.clu.ownClaim c.weldNumber t.clu.serial ∈ t.lnp.queue

theorem shrunk_held {amount : Nat} {c : WeldCtx} {s t : State} (h : Shrunk amount c s t) : Held amount c s t := by
  obtain ⟨c', hc', hgranted, hshare, hlisted⟩ := h.context
  exact ⟨⟨c', hc', fun _ => ⟨by rw [hgranted], by rw [hshare]; simp, hlisted⟩⟩, h.wsq, by rw [h.clu],
    fun _ hs hq => by rw [h.clu]; exact h.queued hs hq⟩

/-- R122: a spare power of D_min or more. -/
theorem checkSpare_shrinks {s : State} {c : WeldCtx} (h : s.ctx = some c) (hstep : s.clu.step = .granted)
    (hless : s.sparePower < s.clu.ownClaim) (hleast : (c.dMin : Int) ≤ s.sparePower) :
    Held s.sparePower c s (checkSpare s) ∧ (checkSpare s).clu.step = .granted := by
  have hmin : s.leastPower = c.dMin := by simp [State.leastPower, h]
  have hcheck : checkSpare s = shrinkClaim s.sparePower.toNat s := by
    rw [checkSpare, if_neg (by omega), if_pos (by rw [hmin]; exact hleast)]
  have hshrunk := shrinkClaim_at s.sparePower.toNat h (by rw [hstep]; decide)
  have hcast : ((s.sparePower.toNat : Nat) : Int) = s.sparePower := Int.toNat_of_nonneg (by omega)
  have hheld := shrunk_held hshrunk
  rw [hcast] at hheld
  rw [hcheck]
  exact ⟨hheld, by rw [hshrunk.clu]; exact hstep⟩

/-- R123: a spare power below D_min, where another head is the highest claimant. -/
theorem checkSpare_sheds {s : State} {c : WeldCtx} (h : s.ctx = some c) (hstep : s.clu.step = .granted)
    (hless : s.sparePower < s.clu.ownClaim) (hshort : s.sparePower < c.dMin) (hnot : s.highestClaimant = false) :
    Held (if (c.dMin : Int) < s.clu.ownClaim then c.dMin else s.clu.ownClaim) c s (checkSpare s)
    ∧ (checkSpare s).clu.step = .shed ∧ (checkSpare s).clu.shedTimer = some { length := 100, elapsed := 0 } := by
  have hmin : s.leastPower = c.dMin := by simp [State.leastPower, h]
  have hcheck : checkSpare s = (fun x : State => { x with clu := { x.clu with step := .shed, shedTimer := startTimer 100 } })
      (if c.dMin < s.clu.ownClaim then shrinkClaim c.dMin s else s) := by
    rw [checkSpare, if_neg (by omega), if_neg (by rw [hmin]; omega), shortfall, if_neg (by simp [hnot]), hmin]
  rw [hcheck]
  refine ⟨?_, rfl, rfl⟩
  by_cases hmore : c.dMin < s.clu.ownClaim
  · obtain ⟨h1, h2, h3, h4⟩ := shrunk_held (shrinkClaim_at c.dMin h (by rw [hstep]; decide))
    rw [if_pos hmore, if_pos (by omega)]
    exact ⟨h1, h2, h3, h4⟩
  · rw [if_neg hmore, if_neg (by omega)]
    exact ⟨⟨c, h, fun hlt => absurd hlt (by omega)⟩, rfl, rfl, fun hlt => absurd hlt (by omega)⟩

/-- R122, R124, R126: a spare power that covers the own claim ends a shed wait, and leaves a claim held as it is. -/
theorem checks_pass {s : State} (hfits : (s.clu.ownClaim : Int) ≤ s.sparePower) :
    (if s.clu.step = .shed then checkShed s else checkSpare s) = { s with
      clu := if s.clu.step = .shed then { s.clu with step := .granted, shedTimer := none } else s.clu } := by
  by_cases hshed : s.clu.step = .shed
  · rw [if_pos hshed, if_pos hshed, checkShed, if_pos hfits]
    rfl
  · rw [if_neg hshed, if_neg hshed, checkSpare, if_pos hfits]

/-- R123, R125, R126: the highest claimant gives up where the shed wait, or D_min, leaves it no other way. -/
theorem checks_lose {s : State} {c : WeldCtx} (h : s.ctx = some c) (hless : s.sparePower < s.clu.ownClaim)
    (hor : s.clu.step = .shed ∨ s.sparePower < c.dMin) (hhigh : s.highestClaimant = true) :
    (if s.clu.step = .shed then checkShed s else checkSpare s) = losePower (some s.sparePower) s := by
  by_cases hshed : s.clu.step = .shed
  · rw [if_pos hshed, checkShed, if_neg (not_le.mpr hless), if_pos hhigh]
  · have hmin : s.leastPower = c.dMin := by simp [State.leastPower, h]
    have hshort : s.sparePower < c.dMin := hor.resolve_left hshed
    rw [if_neg hshed, checkSpare, if_neg (not_le.mpr hless), if_neg (by rw [hmin]; exact not_le.mpr hshort), shortfall,
      if_pos hhigh]

/-- The claim that a short spare power leaves a head that goes on (R122, R123). -/
def amountLeft (c : WeldCtx) (s : State) : Int :=
  if (c.dMin : Int) ≤ s.sparePower then s.sparePower else if (c.dMin : Int) < s.clu.ownClaim then c.dMin else s.clu.ownClaim

/-- R122, R123: the claim shrinks to the spare power, or to D_min with a shed wait. -/
theorem checkSpare_less {s : State} {c : WeldCtx} (h : s.ctx = some c) (hstep : s.clu.step = .granted)
    (hless : s.sparePower < s.clu.ownClaim) (hor : (c.dMin : Int) ≤ s.sparePower ∨ s.highestClaimant = false) :
    Held (amountLeft c s) c s (checkSpare s)
    ∧ ((c.dMin : Int) ≤ s.sparePower → (checkSpare s).clu.step = .granted)
    ∧ (s.sparePower < c.dMin → (checkSpare s).clu.step = .shed
        ∧ (checkSpare s).clu.shedTimer = some { length := 100, elapsed := 0 }) := by
  by_cases hleast : (c.dMin : Int) ≤ s.sparePower
  · obtain ⟨hheld, hstays⟩ := checkSpare_shrinks h hstep hless hleast
    rw [amountLeft, if_pos hleast]
    exact ⟨hheld, fun _ => hstays, fun hlt => absurd hleast (not_le.mpr hlt)⟩
  · obtain ⟨hheld, hsheds⟩ := checkSpare_sheds h hstep hless (not_le.mp hleast) (hor.resolve_left hleast)
    rw [amountLeft, if_neg hleast]
    exact ⟨hheld, fun hle => absurd hle hleast, fun _ => hsheds⟩

/-! ### The statement -/

/-- R113, R153: the ANNOUNCE of a station that was and is no POWER station only sets its row, with no claim in hand and
none paired. -/
theorem changeRow_idle {s : State} {n : Nat} {row : PeerRow} (announced : Bool) (h1 : 1 ≤ n) (h14 : n ≤ 14)
    (hlen : s.lnp.peers.length = 14) (hold : (s.row n).isPower = false) (hnew : row.isPower = false)
    (hidle : s.clu.step = .idle) (hpair : s.pair ≠ some n) :
    changeRow n announced row s = { s with lnp := { s.lnp with peers := s.lnp.peers.set (n - 1) row } } := by
  have hset : s.withRow n row = { s with lnp := { s.lnp with peers := s.lnp.peers.set (n - 1) row } } := by
    simp [State.withRow, hold, hnew]
  rw [changeRow, cluNotice_eq h1 h14 hlen, cluActs_noted (.inl (by exact hidle)), hset]
  exact if_neg hpair

/-- R154: the row of a station that the weld is not paired with: only the claim unit acts. -/
theorem unpaired_runs {s : State} {n : Nat} {row : PeerRow} {i : Instr} {c : WeldCtx} (h : RowChange s n row i)
    (hctx : s.ctx = some c) (hpair : c.pair ≠ some n) (h1 : 1 ≤ n) (h14 : n ≤ 14) (hlen : s.lnp.peers.length = 14) :
    exec i s = .next (gateCurrent (cluActs s n (s.withRow n row))) := by
  obtain ⟨announced, hexec, -⟩ := rowChange_runs h
  have hnot : (cluActs s n (s.withRow n row)).pair ≠ some n := by
    rw [(cluActs_rows s n _).pair]
    simpa [State.pair, State.withRow, hctx] using hpair
  rw [hexec, changeRow, cluNotice_eq h1 h14 hlen]
  exact congrArg (fun u => Host.Outcome.next (gateCurrent u)) (if_neg hnot)

theorem anyPowerLive_iff (s : State) :
    s.anyPowerLive = true ↔ ∃ r ∈ s.lnp.peers, r.isPower = true ∧ r.isLive = true := by simp [State.anyPowerLive]

theorem anyPowerHeard_iff (s : State) : s.anyPowerHeard = true ↔ ∃ r ∈ s.lnp.peers, r.isPower = true := by
  simp [State.anyPowerHeard]

/-- Settles O33: the row is set and Q in force worked; then the claim unit acts by its step. -/
theorem rowsAreSetByFrames : Obligations.RowsAreSetByFrames := by
  refine ⟨fun bytes source side role s h hlen => ?_, fun bytes source s => ⟨fun amount live side age state claim h hrow => ?_,
    fun live side age state claim h hrow => ?_, fun hnone => ⟨fun amount h => ?_, fun h => ?_⟩⟩,
    fun n row i s c h hctx hpair h1 h14 hlen => ?_, fun live side age role => ?_, rfl, rfl, rfl, rfl,
    fun s => ⟨rfl, anyPowerLive_iff s, anyPowerHeard_iff s, row_eq s⟩⟩
  · obtain ⟨hlow, hhigh, -⟩ := h.other
    have hexec := announce_taken h
    refine ⟨_, hexec, by rw [gateCurrent_lnp]; exact changeRow_peers true hlow, fun u offered hrole => ?_,
      fun hrole hold hidle hpair => ?_, changeRow_outside true⟩
    · subst hrole
      have hkept := changeRow_rows (s := s) (r := .heard true side 0 (.power u offered)) true hlow hhigh hlen
      rw [gateCurrent_clu, gateCurrent_lnp, hkept.q, hkept.peers]
      exact withRow_power hlow hhigh hlen
    · have hnew : (PeerRow.heard true side 0 role).isPower = false := by
        cases role with
        | power u offered => exact absurd rfl (hrole u offered)
        | _ => rfl
      exact congrArg gateCurrent (changeRow_idle true hlow hhigh hlen hold hnew hidle hpair)
  · obtain ⟨hlow, -⟩ := h.other
    exact ⟨_, claim_taken h hrow, changeRow_outside false, by rw [gateCurrent_lnp]; exact changeRow_peers false hlow⟩
  · obtain ⟨hlow, -⟩ := h.other
    exact ⟨_, yield_taken h hrow, changeRow_outside false, by rw [gateCurrent_lnp]; exact changeRow_peers false hlow⟩
  · exact (frame_taken rfl h).trans (congrArg (fun u => Host.Outcome.next (gateCurrent u)) (takeClaim_discarded hnone))
  · exact (frame_taken rfl h).trans (congrArg (fun u => Host.Outcome.next (gateCurrent u)) (takeClaim_discarded hnone))
  · have hexec := unpaired_runs h hctx hpair h1 h14 hlen
    have hnew : (s.withRow n row).row n = row := row_set (s := s) rfl h1 h14 hlen
    intro u noted own spare room sums lost fell conflict capacity highest claimed yielded
    have huctx : u.ctx = some c := hctx
    have hnoted (hsame : cluActs s n u = u) : noted := by
      show exec i s = _
      rw [hexec]
      exact congrArg (fun x => Host.Outcome.next (gateCurrent x)) hsame
    have hroom : u.room = room := rfl
    have hspare : u.sparePower = spare := rfl
    have hconflict : Conflict s n u ↔ conflict := by
      unfold Conflict
      rw [show u.row n = row from hnew]
      refine and_congr_right fun _ => and_congr_left fun _ => ?_
      show u.clu.qInForce < u.othersClaims + s.clu.ownClaim ↔ (u.clu.qInForce : Int) - u.othersClaims < s.clu.ownClaim
      omega
    have hfell : FellShort s u ↔ fell ∧ capacity < own + u.othersClaims := by
      refine and_congr_right fun _ => ?_
      show u.capacityForRoom < s.clu.ownClaim + u.othersClaims ↔ _
      have hcast : capacity = (u.capacityForRoom : Int) := by
        simp only [capacity, State.capacityForRoom]
        split <;> rfl
      rw [hcast]
      simp only [own]
      omega
    have hhighest : u.highestClaimant = true ↔ highest := highestClaimant_iff u
    refine ⟨fun hstep => hnoted (cluActs_noted hstep), fun hstep => ⟨fun hstill hlive => ?_, fun hmoved hs => ?_⟩,
      fun hstep => ⟨fun hyes => ?_, fun hno hfallen hshort hs => ?_, fun hno hnot => ?_⟩, fun hstep habort => ?_⟩
    · exact hnoted ((cluActs_waiting (s := s) (n := n) (u := u) hstep).1 hstill hlive)
    · rw [(cluActs_waiting (s := s) (n := n) (u := u) hstep).2 hmoved] at hexec
      have hdecided := decideClaim_decided (Announced.refl u) huctx
      have hsends := hdecided.sends
      refine ⟨_, hexec, ?_⟩
      simp only [claimed, gateCurrent_clu, gateCurrent_wsq, gateCurrent_mfe_set, gateCurrent_lnp]
      refine ⟨hdecided.room, hdecided.aside.wsq, by rw [hdecided.aside.mfe]; rfl, fun hd => ?_, fun hd hm => ?_,
        hdecided.waits⟩
      · exact ⟨(hsends (.inl hd) hs).1, by rw [hdecided.whole hd], fun _ hq => (hsends (.inl hd) hs).2 hq⟩
      · exact ⟨(hsends (.inr hm) hs).1, hdecided.part hd hm, fun _ hq => (hsends (.inr hm) hs).2 hq⟩
    · rw [(cluActs_settling (s := s) (n := n) (u := u) hstep).1 (hconflict.mpr hyes)] at hexec
      have hback := yieldToLower_at huctx
      refine ⟨_, hexec, ?_⟩
      simp only [yielded, gateCurrent_clu, gateCurrent_wsq, gateCurrent_lnp]
      exact ⟨⟨by rw [hback.clu], hback.queued⟩, hback.wsq, by rw [hback.clu], by rw [hback.clu], by rw [hback.clu]; rfl⟩
    · rw [(cluActs_settling (s := s) (n := n) (u := u) hstep).2.1 (mt hconflict.mp hno) (hfell.mpr ⟨hfallen, hshort⟩)] at hexec
      have hagain := redecideClaim_at huctx
      have hsends := hagain.sends
      refine ⟨_, hexec, ?_⟩
      simp only [claimed, yielded, gateCurrent_clu, gateCurrent_wsq, gateCurrent_lnp]
      refine ⟨hagain.room, hagain.timer hs, hagain.wsq, fun hd => ?_, fun hd hm => ?_, hagain.waits⟩
      · exact ⟨(hsends (.inl hd) hs).1, by rw [hagain.whole hd], fun _ hq => (hsends (.inl hd) hs).2 hq⟩
      · exact ⟨(hsends (.inr hm) hs).1, hagain.part hd hm, fun _ hq => (hsends (.inr hm) hs).2 hq⟩
    · exact hnoted ((cluActs_settling (s := s) (n := n) (u := u) hstep).2.2 (mt hconflict.mp hno) (mt hfell.mp hnot))
    · obtain ⟨hall, hstill, hchecked⟩ := cluActs_holding (s := s) (n := n) (u := u) hstep
      refine ⟨fun hlost => ?_, fun hlost hmoved => hnoted (hstill hlost hmoved), fun hlost hmoved hfits => ?_,
        fun hlost hmoved hless hor hhigh => ?_, fun hlost hmoved hless hshed hlow => hnoted ?_,
        fun hlost hmoved hless hgranted hor => ?_⟩
      · rw [hall hlost] at hexec
        exact ⟨_, hexec, losePower_aborts huctx habort⟩
      · exact hexec.trans (congrArg (fun x => Host.Outcome.next (gateCurrent x))
          ((hchecked hlost hmoved).trans (checks_pass hfits)))
      · rw [hchecked hlost hmoved, checks_lose huctx hless hor (hhighest.mpr hhigh)] at hexec
        exact ⟨_, hexec, losePower_aborts huctx habort⟩
      · rw [hchecked hlost hmoved, if_pos (by exact hshed), checkShed, if_neg (by rw [hspare]; exact not_le.mpr hless),
          if_neg (mt hhighest.mp hlow)]
      · have hnotshed : ¬u.clu.step = .shed := by
          show ¬s.clu.step = .shed
          rw [hgranted]
          decide
        rw [hchecked hlost hmoved, if_neg hnotshed] at hexec
        intro amount
        have hlow : (c.dMin : Int) ≤ u.sparePower ∨ u.highestClaimant = false :=
          hor.imp_right fun hno => Bool.eq_false_iff.mpr (mt hhighest.mp hno)
        obtain ⟨hheld, hstays, hsheds⟩ := checkSpare_less huctx hgranted hless hlow
        obtain ⟨c', hc', hgrant⟩ := hheld.context
        refine ⟨_, c', hexec, by rw [gateCurrent_ctx]; exact hc', ?_⟩
        rw [gateCurrent_clu, gateCurrent_wsq, gateCurrent_lnp]
        refine ⟨hheld.own, hheld.wsq, fun hlt => ?_, hstays, hsheds⟩
        obtain ⟨hg, hshare, hlisted⟩ := hgrant hlt
        exact ⟨hg, hshare, hlisted, hheld.queued hlt⟩
  · refine ⟨rfl, ?_, ?_, ?_⟩
    · cases role <;> rfl
    · cases role with
      | power u offered => cases u <;> rfl
      | _ => rfl
    · cases role <;> simp [PeerRow.isPower]

end Sys2Proof.Proofs.RowNotices

/-! The ages of the rows, and the watch of the paired row (R109, R134, R136 to R139, R154); the statement
RowsGoStaleAndEmpty. -/
namespace Sys2Proof.Proofs.PairedRow
open Sys2Proof Sys2Proof.Machine Sys2Proof.Proofs.Preheat Sys2Proof.Proofs.Outcomes Sys2Proof.Proofs.HoldEnds
  Sys2Proof.Proofs.Orders Sys2Proof.Proofs.Claims Sys2Proof.Proofs.Closures Sys2Proof.Proofs.PeerView
  Sys2Proof.Proofs.RowNotices Sys2Proof.Proofs.SampleReadings

set_option Elab.async false

/-! ### Ages out of turn -/

theorem staleRow_early {n : Nat} {s : State} (h : ∀ side age role, s.row n = .heard true side age role → age + 1 < 200) :
    staleRow n s = s := by
  unfold staleRow
  split
  next side age role hrow => exact if_neg (by have := h side age role hrow; omega)
  next => rfl

theorem emptyRow_early {n : Nat} {s : State}
    (h : ∀ live side age role, s.row n = .heard live side age role → age + 1 < 2000) : emptyRow n s = s := by
  unfold emptyRow
  split
  next live side age role hrow => exact if_neg (by have := h live side age role hrow; omega)
  next => rfl

/-! ### A row that neither offers nor claims -/

section
variable {s : State} {n : Nat} {row : PeerRow}

/-- What is read off each row stands where the row that changes shows the same. -/
theorem map_set_same {β : Type} (f : PeerRow → β) (h1 : 1 ≤ n) (h14 : n ≤ 14) (hlen : s.lnp.peers.length = 14)
    (hf : f row = f (s.row n)) : (s.lnp.peers.set (n - 1) row).map f = s.lnp.peers.map f := by
  have hlt : n - 1 < s.lnp.peers.length := by omega
  have hold : s.row n = s.lnp.peers[n - 1] := by
    rw [row_eq, if_neg (by omega), List.getD_eq_getElem _ _ hlt]
  rw [List.map_set, hf, hold, ← List.getElem_map f (h := by simpa using hlt), List.set_getElem_self]

theorem any_set_same (p : PeerRow → Bool) (h1 : 1 ≤ n) (h14 : n ≤ 14) (hlen : s.lnp.peers.length = 14)
    (hp : p row = p (s.row n)) : (s.lnp.peers.set (n - 1) row).any p = s.lnp.peers.any p := by
  simpa only [List.any_map, Function.id_comp] using congrArg (List.any · id) (map_set_same p h1 h14 hlen hp)

/-- The row of a station that is neither a POWER station nor claims anything. -/
structure Plain (r : PeerRow) : Prop where
  power : r.isPower = false
  claim : r.claim = 0

theorem withRow_plain (hold : Plain (s.row n)) (hnew : Plain row) : s.withRow n row = { s with
    lnp := { s.lnp with peers := s.lnp.peers.set (n - 1) row } } := by
  simp [State.withRow, hold.power, hnew.power]

theorem cluActs_plain (h1 : 1 ≤ n) (h14 : n ≤ 14) (hlen : s.lnp.peers.length = 14) (hold : Plain (s.row n))
    (hnew : Plain row) : cluActs s n (s.withRow n row) = s.withRow n row := by
  have hset := withRow_plain hold hnew
  have hrow : (s.withRow n row).row n = row := row_set (s := s) rfl h1 h14 hlen
  have hsums : (s.withRow n row).othersClaims = s.othersClaims := by
    rw [hset]
    exact congrArg List.sum (map_set_same PeerRow.claim h1 h14 hlen (hnew.claim.trans hold.claim.symm))
  have hheard : (s.withRow n row).anyPowerHeard = s.anyPowerHeard := by
    rw [hset]
    exact any_set_same _ h1 h14 hlen (hnew.power.trans hold.power.symm)
  have hlive : (s.withRow n row).anyPowerLive = s.anyPowerLive := by
    rw [hset]
    exact any_set_same _ h1 h14 hlen (by simp [hnew.power, hold.power])
  have hq : (s.withRow n row).clu.qInForce = s.clu.qInForce := by rw [hset]
  generalize s.withRow n row = u at *
  have hstill : ¬Moved s u := by simp [Moved, hq, hsums]
  have hnotLost : ¬AllLost s u := by simp [AllLost, hheard]
  have hnoConflict : ¬Conflict s n u := by simp [Conflict, hrow, hnew.claim]
  have hnotShort : ¬FellShort s u := by simp [FellShort, hq, hlive]
  cases hstep : u.clu.step
  case idle => exact cluActs_noted (.inl hstep)
  case backoff => exact cluActs_noted (.inr hstep)
  case waiting => exact (cluActs_waiting hstep).1 hstill hlive
  case sending => exact (cluActs_settling (.inl hstep)).2.2 hnoConflict hnotShort
  case settling => exact (cluActs_settling (.inr hstep)).2.2 hnoConflict hnotShort
  case granted => exact (cluActs_holding (.inl hstep)).2.1 hnotLost hstill
  case shed => exact (cluActs_holding (.inr hstep)).2.1 hnotLost hstill

/-- R154: a plain row of the paired station: only the notices of the paired row act. -/
theorem paired_runs {i : Instr} {c : WeldCtx} (h : RowChange s n row i) (hctx : s.ctx = some c) (hpair : c.pair = some n)
    (h1 : 1 ≤ n) (h14 : n ≤ 14) (hlen : s.lnp.peers.length = 14) (hold : Plain (s.row n)) (hnew : Plain row) :
    ∃ announced, exec i s = .next (gateCurrent (pairedNotice announced (s.withRow n row)))
      ∧ (row = .empty → announced = false) := by
  obtain ⟨announced, hexec, hempty⟩ := rowChange_runs h
  have hsame : (s.withRow n row).pair = some n := by simpa [State.pair, State.withRow, hctx] using hpair
  refine ⟨announced, hexec.trans ?_, hempty⟩
  rw [changeRow, cluNotice_eq h1 h14 hlen, cluActs_plain h1 h14 hlen hold hnew]
  exact congrArg (fun u => Host.Outcome.next (gateCurrent u)) (if_pos hsame)

end

/-! ### The notices of the paired row -/

/-- R130: the state after the TENSOR_REPORT of an ANNOUNCE, if there was one. -/
def reported (announced : Bool) (u : State) : State := if announced then activate .tensorReport u else u

structure Reported (c : WeldCtx) (u w : State) : Prop where
  context : ∃ cut, w.ctx = some { c with truncated := cut }
  wsq     : w.wsq = u.wsq
  mfe     : w.mfe = u.mfe
  frg     : w.frg = u.frg
  clu     : w.clu = u.clu
  tnl     : w.tnl = u.tnl
  lnp     : w.lnp = u.lnp
  rst     : w.rst = u.rst
  program : SameProgram u w
  outside : SameOutside u w

theorem reported_at (announced : Bool) {u : State} {c : WeldCtx} (h : u.ctx = some c) :
    Reported c u (reported announced u) := by
  cases announced with
  | false => exact ⟨⟨c.truncated, h⟩, rfl, rfl, rfl, rfl, rfl, rfl, rfl, ⟨rfl, rfl, rfl⟩, ⟨rfl, rfl, rfl, rfl⟩⟩
  | true =>
    refine ⟨activate_cut .tensorReport h, ?_, ?_, ?_, ?_, ?_, ?_, ?_, ?_, ?_⟩
    case refine_8 => constructor <;> simp [reported]
    case refine_9 => constructor <;> simp [reported]
    all_goals simp [reported]

theorem Reported.sched {c : WeldCtx} {u w : State} (h : u.ctx = some c) (hw : Reported c u w) : w.sched = u.sched := by
  obtain ⟨cut, hctx⟩ := hw.context
  rw [sched_of_ctx hctx, sched_of_ctx h, bank_of_rst hw.rst]

/-- The gate, the release test and the force shown are those of the row as it has changed. -/
theorem Reported.gates {c : WeldCtx} {u w : State} (h : u.ctx = some c) (hw : Reported c u w) :
    w.gateHolds = u.gateHolds ∧ w.releaseHolds = u.releaseHolds ∧ w.pairedForce = u.pairedForce := by
  obtain ⟨cut, hctx⟩ := hw.context
  exact gate_of_same h hctx rfl rfl (Reported.sched h hw) (by rw [hw.lnp])

section
variable {s : State}

theorem gateNotice_stands (h : s.tnl.watch = .none ∨ s.gateHolds = s.tnl.gateMet) : gateNotice s = s := if_pos h

theorem gateNotice_close (hwatch : s.tnl.watch = .close) (hmet : s.tnl.gateMet = false) (hgate : s.gateHolds = true) :
    gateNotice s = enterPower { s with tnl := { s.tnl with gateMet := true, watch := .none, tensorWait := none } } := by
  simp only [gateNotice, hwatch, hmet, hgate, reduceCtorEq, or_self, if_false]

theorem gateNotice_heatEntry (hwatch : s.tnl.watch = .heatEntry) (hmet : s.tnl.gateMet = false)
    (hgate : s.gateHolds = true) :
    gateNotice s = enterFlash { s with tnl := { s.tnl with gateMet := true, watch := .none } } := by
  simp only [gateNotice, hwatch, hmet, hgate, reduceCtorEq, or_self, if_false, endWatch]

theorem gateNotice_hold (hwatch : s.tnl.watch = .hold) (hmet : s.tnl.gateMet = true) (hgate : s.gateHolds = false) :
    gateNotice s = holdBroken { s with tnl := { s.tnl with gateMet := false } } := by
  simp only [gateNotice, hwatch, hmet, hgate, reduceCtorEq, or_self, if_false, Bool.false_eq_true]

/-- R134: the paired row is EMPTY in CLOSE before the closure was accepted. -/
def RowLost (s : State) : Prop :=
  s.wsq.seq = .close ∧ s.tnl.closureAccepted = false ∧ s.pairedRow.isHeard = false

theorem rowLost_iff : (s.wsq.seq = .close ∧ (!s.tnl.closureAccepted) = true ∧ (!s.pairedRow.isHeard) = true) ↔ RowLost s := by
  simp [RowLost]

theorem closeRowLost_stands (h : ¬RowLost s) : closeRowLost s = s := if_neg (mt rowLost_iff.mp h)

theorem closeRowLost_waiting (h : RowLost s) (hw : s.tnl.closureWaiting = true) :
    closeRowLost s = takeFault .tensorTimeout none s := by
  rw [closeRowLost, if_pos (rowLost_iff.mpr h), if_pos hw]

theorem closeRowLost_call {k : TensorCall} (h : RowLost s) (hw : s.tnl.closureWaiting = false) (hcall : s.tnl.call = some k)
    (hheld : s.lnp.held = none) : closeRowLost s = takeFault .tensorTimeout none { s with
      lnp := { s.lnp with calls := s.lnp.calls.filter (fun r => r.dest != k.dest) }
      tnl := { s.tnl with call := none } } := by
  rw [closeRowLost, if_pos (rowLost_iff.mpr h), if_neg (by simp [hw])]
  simp only [hcall, dropRecord, hheld]

theorem releaseNotice_stands (h : s.wsq.seq ≠ .letGo ∨ s.releaseHolds = false) : releaseNotice s = s := by
  refine if_neg ?_
  rintro ⟨h1, h2⟩
  rcases h with h | h
  · exact h h1
  · rw [h] at h2; cases h2

theorem gateHolds_heard (h : s.gateHolds = true) : s.pairedRow.isHeard = true := by
  unfold State.gateHolds at h
  cases hrow : s.pairedRow with
  | empty => rw [hrow] at h; cases h
  | heard => rfl

end

/-- R134: after an abort neither the gate nor the release test is looked at. -/
theorem aborted_notices {k : FaultKind} {i : Option Int} {s x : State} (h : Aborted k i s (gateCurrent x)) :
    releaseNotice (gateNotice x) = x := by
  have hwatch := h.watch
  have hwsq := h.wsq
  rw [gateCurrent_tnl] at hwatch
  rw [gateCurrent_wsq] at hwsq
  have hseq : x.wsq.seq = .stopping := congrArg Wsq.seq hwsq
  rw [gateNotice_stands (.inl hwatch), releaseNotice_stands (.inl (by rw [hseq]; decide))]

/-- R71: the fault list is entered whatever the trace-truncated mark. -/
theorem addFault_sameTruncated {k : FaultKind} {p : SeqState} {c c' c'' : WeldCtx} (h : SameTruncated c c')
    (hs : SameTruncated (c'.addFault k p).1 c'') : SameTruncated (c.addFault k p).1 c'' := by
  have hadd (b : Bool) : (WeldCtx.addFault k p { c with truncated := b }).1
      = { (c.addFault k p).1 with truncated := b } := by
    cases hfind : c.faults.find? (fun e => e.kind == k) with
    | none => simp only [WeldCtx.addFault, hfind]; split <;> rfl
    | some e => simp only [WeldCtx.addFault, hfind]; split <;> rfl
  unfold SameTruncated at *
  rw [h, hadd] at hs
  exact hs

/-- R107, R139: HOLD_BROKEN is entered, and only once in a hold. -/
theorem holdBroken_at {s : State} {c : WeldCtx} (h : s.ctx = some c) :
    (∃ c', (holdBroken s).ctx = some c'
      ∧ (s.wsq.holdBroken = false → SameTruncated (c.addFault .holdBroken s.wsq.seq).1 c'
        ∧ (holdBroken s).rst.log = s.rst.log.file
            { kind := .holdBroken, state := s.wsq.seq, weldNumber := some c.weldNumber, input := s.pairedForce })
      ∧ (s.wsq.holdBroken = true → SameTruncated c c' ∧ (holdBroken s).rst = s.rst))
    ∧ (holdBroken s).wsq = { s.wsq with holdBroken := true } ∧ (holdBroken s).tnl = s.tnl := by
  unfold holdBroken
  cases hbroken : s.wsq.holdBroken with
  | true =>
    have hsame : ({ s.wsq with holdBroken := true } : Wsq) = s.wsq := by rw [← hbroken]
    rw [if_pos rfl]
    exact ⟨⟨c, h, nofun, fun _ => ⟨rfl, rfl⟩⟩, hsame.symm, rfl⟩
  | false =>
    have hentered := enterFault_entered .holdBroken s.pairedForce s c h
    obtain ⟨c₀, c', hc₀, hc', hlisted, hrst⟩ := hentered.listed
    cases h.symm.trans hc₀
    rw [if_neg (by decide)]
    exact ⟨⟨c', hc', fun _ => ⟨hlisted, congrArg Rst.log hrst⟩, nofun⟩,
      congrArg (fun x : Wsq => { x with holdBroken := true }) hentered.wsq, hentered.tnl⟩

/-- R14: the gate drives the same where what it reads is the same. -/
theorem gateCurrent_mfe_same {s t : State} (hmfe : t.mfe = s.mfe) (hwsq : t.wsq = s.wsq) (hfrg : t.frg = s.frg) :
    (gateCurrent t).mfe = (gateCurrent s).mfe := by
  have hopen : t.gateOpen = s.gateOpen := by simp only [State.gateOpen, hwsq, hfrg]
  cases h : s.gateOpen with
  | true => rw [gateCurrent_open s h, gateCurrent_open t (hopen.trans h), hmfe]
  | false => rw [gateCurrent_closed s h, gateCurrent_closed t (hopen.trans h), hmfe]

/-! ### The statement -/

/-- R154: the two ages of a row. -/
theorem row_ages {n : BitVec 4} {s : State} (h1 : 1 ≤ n.toNat) :
    (∀ (side : Option Side) (age : Nat) (role : RoleData), s.row n.toNat = .heard true side age role →
      (200 ≤ age + 1 → ∃ t, exec (.rowStale n) s = .next t ∧ SameOutside s t
        ∧ t.lnp.peers = s.lnp.peers.set (n.toNat - 1) (.heard false side age role))
      ∧ (age + 1 < 200 → exec (.rowStale n) s = .next (gateCurrent s)))
    ∧ ((s.row n.toNat).isLive = false → exec (.rowStale n) s = .next (gateCurrent s))
    ∧ (∀ (live : Bool) (side : Option Side) (age : Nat) (role : RoleData), s.row n.toNat = .heard live side age role →
      (2000 ≤ age + 1 → ∃ t, exec (.rowEmpty n) s = .next t ∧ SameOutside s t
        ∧ t.lnp.peers = s.lnp.peers.set (n.toNat - 1) .empty)
      ∧ (age + 1 < 2000 → exec (.rowEmpty n) s = .next (gateCurrent s)))
    ∧ (s.row n.toNat = .empty → exec (.rowEmpty n) s = .next (gateCurrent s)) := by
  refine ⟨fun side age role hrow => ⟨fun hold => ?_, fun hyoung => ?_⟩, fun hlive => ?_,
    fun live side age role hrow => ⟨fun hold => ?_, fun hyoung => ?_⟩, fun hempty => ?_⟩
  · exact ⟨_, stale_taken hrow hold, changeRow_outside false, by rw [gateCurrent_lnp]; exact changeRow_peers false h1⟩
  · refine congrArg finish (staleRow_early fun side' age' role' hrow' => ?_)
    cases hrow.symm.trans hrow'
    exact hyoung
  · refine congrArg finish (staleRow_early fun side' age' role' hrow' => ?_)
    rw [hrow'] at hlive
    cases hlive
  · exact ⟨_, empty_taken hrow hold, changeRow_outside false, by rw [gateCurrent_lnp]; exact changeRow_peers false h1⟩
  · refine congrArg finish (emptyRow_early fun live' side' age' role' hrow' => ?_)
    cases hrow.symm.trans hrow'
    exact hyoung
  · refine congrArg finish (emptyRow_early fun live' side' age' role' hrow' => ?_)
    cases hempty.symm.trans hrow'

/-- Settles O34: the ages; then the notices of the paired row by the watch and by the state. -/
theorem rowsGoStaleAndEmpty : Obligations.RowsGoStaleAndEmpty := by
  refine ⟨fun n s h1 _ => row_ages h1,
    fun n row i s c h hctx hpair h1 h14 hpower hpower' hclaim hclaim' hlen => ?_⟩
  have hold : Plain (s.row n) := ⟨hpower, hclaim⟩
  have hnew : Plain row := ⟨hpower', hclaim'⟩
  obtain ⟨announced, hexec, hempty⟩ := paired_runs h hctx hpair h1 h14 hlen hold hnew
  have hset := withRow_plain hold hnew
  have hrow : (s.withRow n row).row n = row := row_set (s := s) rfl h1 h14 hlen
  have hout : SameOutside s (s.withRow n row) := ⟨rfl, rfl, rfl, rfl⟩
  intro u failed
  have huctx : u.ctx = some c := hctx
  have huclu : u.clu = s.clu := (congrArg State.clu hset).trans rfl
  have hpaired : u.pairedRow = row := by simpa [State.pairedRow, State.pair, huctx, hpair] using hrow
  change exec i s = .next (gateCurrent (releaseNotice (gateNotice (closeRowLost (reported announced u))))) at hexec
  have hw := reported_at announced huctx
  have hsched := (Reported.sched huctx hw).trans (sched_of_ctx huctx)
  have hgates := Reported.gates huctx hw
  have hlost : RowLost (reported announced u) ↔ failed := by
    obtain ⟨cut, hwctx⟩ := hw.context
    have hsame : (reported announced u).pairedRow = row := by
      rw [← hpaired, State.pairedRow, State.pairedRow, State.pair, State.pair, hwctx, huctx]
      simp [hpair, State.row, hw.lnp]
    have hheard : row.isHeard = false ↔ row = .empty := by cases row <;> simp [PeerRow.isHeard]
    rw [RowLost, hsame, hheard, hw.wsq, hw.tnl]
    rfl
  have hreported (he : row = .empty) : reported announced u = u := by rw [hempty he]; rfl
  have hheardLost (hg : u.gateHolds = true) : ¬failed := fun hf => by
    have := gateHolds_heard hg
    rw [hpaired, hf.2.2] at this
    cases this
  generalize reported announced u = w at *
  obtain ⟨cut, hwctx⟩ := hw.context
  obtain ⟨hgate, hrelease, hforce⟩ := hgates
  have hwatch : w.tnl.watch = s.tnl.watch := congrArg Tnl.watch hw.tnl
  have hmet : w.tnl.gateMet = s.tnl.gateMet := congrArg Tnl.gateMet hw.tnl
  have hseq : w.wsq.seq = s.wsq.seq := congrArg Wsq.seq hw.wsq
  refine ⟨fun h2 h3 h4 h5 => ?_, fun h2 h3 h4 => ?_, fun h2 h3 h4 h5 => ?_, fun h2 h3 h4 => ?_, fun hfail hwait => ?_,
    fun k hfail hwait hcall hheld => ?_, fun hfail hstill hnot => ?_⟩
  · have hentered := enterPower_entered (c := { c with truncated := cut }) (s := { w with
      tnl := { w.tnl with gateMet := true, watch := .none, tensorWait := none } }) hwctx
    rw [closeRowLost_stands (mt hlost.mp (hheardLost h4)), gateNotice_close (hwatch.trans h2) (hmet.trans h3)
      (hgate.trans h4), releaseNotice_stands (.inl (by rw [hentered.wsq]; exact (nofun)))] at hexec
    obtain ⟨cut', hctx'⟩ := hentered.context
    refine ⟨_, _, hexec, by rw [gateCurrent_ctx]; exact hctx', rfl, ?_, ?_, decided_of_same hentered.decided rfl rfl rfl
      (congrArg (fun x : Schedule => x.claimWait) ?_) (congrArg Lnp.peers hw.lnp) (congrArg Lnp.queue hw.lnp) hw.clu
      (congrArg Wsq.silence hw.wsq)⟩
    · rw [gateCurrent_wsq, hentered.wsq, hw.wsq]
      rfl
    · rw [gateCurrent_tnl, hentered.tnl, hw.tnl]
      rfl
    · exact congrArg Bank.image (bank_of_rst (s := u) (t := w) hw.rst c.bank)
  · have hflash := enterFlash_entered (c := { c with truncated := cut }) (s := { w with
      tnl := { w.tnl with gateMet := true, watch := .none } }) hwctx
    rw [closeRowLost_stands (mt hlost.mp (hheardLost h4)), gateNotice_heatEntry (hwatch.trans h2) (hmet.trans h3)
      (hgate.trans h4), releaseNotice_stands (.inl (by rw [hflash.wsq]; exact (nofun)))] at hexec
    obtain ⟨cut', hctx'⟩ := hflash.context
    have hsched' : State.sched { w with tnl := { w.tnl with gateMet := true, watch := .none } }
        = (s.bank c.bank).image := hsched
    refine ⟨_, _, hexec, by rw [gateCurrent_ctx]; exact hctx', rfl, ?_, ?_, ?_, ?_, ?_⟩
    · rw [gateCurrent_wsq, hflash.wsq, hw.wsq]
      rfl
    · rw [gateCurrent_tnl, hflash.tnl, hw.tnl]
      rfl
    · rw [gateCurrent_frg, hflash.frg]
    · rw [gateCurrent_frg, hflash.frg]
    · rw [gateCurrent_mfe_set, hflash.mfe, hsched', hw.mfe]
      rfl
  · rw [closeRowLost_stands (mt hlost.mp fun hf => absurd (h5.symm.trans hf.1) (by decide)),
      gateNotice_hold (hwatch.trans h2) (hmet.trans h3) (hgate.trans h4)] at hexec
    obtain ⟨⟨c', hctx', hnew', hkept'⟩, hwsq, htnl⟩ := holdBroken_at (c := { c with truncated := cut })
      (s := { w with tnl := { w.tnl with gateMet := false } }) hwctx
    have hhold : w.wsq.seq = .hold := hseq.trans h5
    have hbroken : w.wsq.holdBroken = s.wsq.holdBroken := congrArg Wsq.holdBroken hw.wsq
    rw [releaseNotice_stands (.inl (by rw [hwsq]; show w.wsq.seq ≠ .letGo; rw [hhold]; decide))] at hexec
    refine ⟨_, c', hexec, by rw [gateCurrent_ctx]; exact hctx', ?_, ?_, fun hfirst => ?_, fun hagain => ?_⟩
    · rw [gateCurrent_wsq, hwsq, hw.wsq]
      rfl
    · rw [gateCurrent_tnl, htnl, hw.tnl]
      rfl
    · obtain ⟨hsame, hlog⟩ := hnew' (hbroken.trans hfirst)
      refine ⟨addFault_sameTruncated (c := c) (c' := { c with truncated := cut }) rfl (by rw [← hhold]; exact hsame), ?_⟩
      rw [gateCurrent_rst, hlog, ← hforce]
      show w.rst.log.file { kind := .holdBroken, state := w.wsq.seq, weldNumber := _, input := w.pairedForce } = _
      rw [hw.rst, hhold]
      rfl
    · obtain ⟨hsame, hrst⟩ := hkept' (hbroken.trans hagain)
      exact ⟨SameTruncated.trans (b := { c with truncated := cut }) rfl hsame, by rw [gateCurrent_rst, hrst]; exact hw.rst⟩
  · rw [closeRowLost_stands (mt hlost.mp fun hf => absurd (h2.symm.trans hf.1) (by decide)),
      gateNotice_stands (.inl (hwatch.trans h3)), releaseNotice,
      if_pos ⟨hseq.trans h2, hrelease.trans h4⟩] at hexec
    obtain ⟨⟨cut', hctx'⟩, hwsq, hmfe⟩ := enterUnclamp_at hwctx
    refine ⟨_, _, hexec, by rw [gateCurrent_ctx]; exact hctx', rfl, ?_, ?_⟩
    · rw [gateCurrent_wsq, hwsq, hw.wsq]
      rfl
    · rw [gateCurrent_mfe_set, hmfe, hw.mfe]
      rfl
  · have hwu := hreported hfail.2.2
    have haborted : Aborted .tensorTimeout none w (gateCurrent (takeFault .tensorTimeout none w)) :=
      takeFault_aborts hwctx (by rw [hseq, hfail.1]; rfl)
    rw [closeRowLost_waiting (hlost.mpr hfail) (by rw [hw.tnl]; exact hwait), aborted_notices haborted] at hexec
    rw [hwu] at haborted hexec
    exact ⟨_, hexec, haborted⟩
  · have hwu := hreported hfail.2.2
    have haborted := takeFault_aborts (k := .tensorTimeout) (i := none) (c := { c with truncated := cut }) (s := { w with
      lnp := { w.lnp with calls := w.lnp.calls.filter (fun r => r.dest != k.dest) }
      tnl := { w.tnl with call := none } }) hwctx (by show w.wsq.seq.abortable = true; rw [hseq, hfail.1]; rfl)
    rw [closeRowLost_call (hlost.mpr hfail) (by rw [hw.tnl]; exact hwait) (by rw [hw.tnl]; exact hcall)
      (by rw [hw.lnp]; exact hheld), aborted_notices haborted] at hexec
    rw [hwu] at haborted hexec
    exact ⟨_, hexec, haborted⟩
  · rw [closeRowLost_stands (mt hlost.mp hfail), gateNotice_stands (by rw [hwatch, hmet, hgate]; exact hstill),
      releaseNotice_stands (by rw [hseq, hrelease]; exact hnot)] at hexec
    refine ⟨_, { c with truncated := cut }, hexec, by rw [gateCurrent_ctx]; exact hwctx, rfl, ?_⟩
    rw [gateCurrent_wsq, gateCurrent_frg, gateCurrent_clu, gateCurrent_tnl, gateCurrent_lnp, gateCurrent_rst]
    exact ⟨hw.wsq, gateCurrent_mfe_same hw.mfe hw.wsq hw.frg, hw.frg, hw.clu.trans huclu, hw.tnl, hw.lnp, hw.rst,
      ⟨by rw [gateCurrent_cap]; exact hw.program.program, by rw [gateCurrent_cap]; exact hw.program.tick,
        by rw [gateCurrent_cap]; exact hw.program.waiting⟩, outside_gated (outside_trans hout hw.outside)⟩

end Sys2Proof.Proofs.PairedRow
